-- ==== Sys2Proof/Word.lean ====
section
/-! DEFINITION. The word types of the PT612: bytes of the cell link and the 32-bit line clock. -/

namespace Sys2Proof

/-- One byte of the cell link, or the data bits of one station-bus character (11 section 11.1, 11.4). -/
abbrev Byte := BitVec 8

/-- The line clock: a 32-bit count of milliseconds that wraps (00 section 5.2). -/
abbrev LineTime := BitVec 32

end Sys2Proof
end

