-- ==== Sys2Proof/Syntax.lean ====
section
/-! DEFINITION. The commands of the PT612: one constructor for each row of spec/opcode_table.json.
`t` is the line time at which the event falls, and `tag` the host's tag of a request (R177). -/

namespace Sys2Proof

/-- One character heard on the station bus: its data bits, its mark bit, and whether its stop bit was
found (11 section 11.4). -/
structure BusChar where
  data : Byte
  mark : Bool
  stopFound : Bool
  deriving DecidableEq, Repr

/-- The commands. A request's constructor stands for the host's whole good frame of that type
arriving on the cell link; its operands are the bytes of the frame's body. -/
inductive Instr where
  -- reset and pins
  /-- RESETn or power-on; the levels of ESTOP_IN (true: asserted) and of BR1, BR0 as the reset ends (R145, R189). -/
  | hardwareReset (estopAsserted : Bool) (br : BitVec 2)
  | estopInAsserted (t : LineTime)
  | estopInReleased (t : LineTime)
  -- the cell link
  /-- The last byte of a frame arrives: the frame's fields and the check it carries (R175). -/
  | frameReceived (t : LineTime) (type tag : Byte) (body : List Byte) (check : BitVec 16)
  | frameLengthInvalid (t : LineTime)
  | framingError (t : LineTime)
  | gapTimerExpiry (t : LineTime)
  /-- CTS is sampled (true: asserted) for the start of a reply (R178). -/
  | replySendStart (t : LineTime) (cts : Bool)
  /-- The last byte of a reply has gone; `br` is the level of BR1, BR0 for the reset that follows RESTART (R156, R189). -/
  | replySendEnd (t : LineTime) (br : BitVec 2)
  | unknownRequestType (t : LineTime) (type tag : Byte) (body : List Byte)
  -- configuration
  | lineSet (t : LineTime) (tag : Byte) (body : List Byte)
  | segmentSet (t : LineTime) (tag : Byte) (body : List Byte)
  | stationSet (t : LineTime) (tag : Byte) (body : List Byte)
  | busSet (t : LineTime) (tag : Byte) (body : List Byte)
  | commit (t : LineTime) (tag : Byte)
  | uncommit (t : LineTime) (tag : Byte)
  -- the line
  | start (t : LineTime) (tag mode : Byte)
  | stop (t : LineTime) (tag : Byte)
  | mode (t : LineTime) (tag mode : Byte)
  | stepGrant (t : LineTime) (tag mask : Byte)
  | hold (t : LineTime) (tag mask : Byte)
  | continueRun (t : LineTime) (tag mask : Byte)
  | halt (t : LineTime) (tag : Byte)
  | recover (t : LineTime) (tag : Byte)
  | restart (t : LineTime) (tag : Byte)
  -- stations, segments, conveyors
  | bypassOn (t : LineTime) (tag station : Byte)
  | bypassOff (t : LineTime) (tag station : Byte)
  | abortCycle (t : LineTime) (tag station : Byte)
  | clearFaultStation (t : LineTime) (tag number : Byte)
  | clearFaultSegment (t : LineTime) (tag number : Byte)
  | clearFaultConveyor (t : LineTime) (tag number : Byte)
  -- pallets and the map
  | palletDefine (t : LineTime) (tag id variant : Byte)
  | palletDelete (t : LineTime) (tag id : Byte)
  | palletRead (t : LineTime) (tag id : Byte)
  | place (t : LineTime) (tag id position : Byte)
  | remove (t : LineTime) (tag id : Byte)
  | acceptTag (t : LineTime) (tag : Byte)
  | confirmSegmentBefore (t : LineTime) (tag segment : Byte)
  | confirmSegmentAfter (t : LineTime) (tag segment : Byte)
  /-- CONFIRM SEGMENT with LIST: the destination flag and one occupant byte for each nest (R45). -/
  | confirmSegmentList (t : LineTime) (tag segment flag : Byte) (occupants : List Byte)
  | mapRead (t : LineTime) (tag start count : Byte)
  -- the reserve and the reads
  | reserveSet (t : LineTime) (tag : Byte) (volume : BitVec 16)
  | status (t : LineTime) (tag sectionNo : Byte)
  | identify (t : LineTime) (tag : Byte)
  | eventsTake (t : LineTime) (tag count : Byte)
  -- the station bus
  | scanStart (t : LineTime)
  /-- The boundary of slot `slot` of the scan in progress (R161). -/
  | slotPoll (t : LineTime) (slot : Nat)
  /-- A reply that started in the response window, with the characters heard (R162). -/
  | nodeReply (t : LineTime) (chars : List BusChar)
  | responseWindowExpiry (t : LineTime)
  -- timers
  | clampTimeout (t : LineTime) (station : Nat)
  | settleExpiry (t : LineTime) (station : Nat)
  | cycleTimeout (t : LineTime) (station : Nat)
  | unclampTimeout (t : LineTime) (station : Nat)
  | commonTimerExpiry (t : LineTime) (segment : Nat)
  | stationClearTimeout (t : LineTime) (station : Nat)
  | phaseTimeout (t : LineTime) (segment : Nat)
  | feedWaitExpiry (t : LineTime) (segment : Nat)
  | segmentClearTimeout (t : LineTime) (segment : Nat)
  | evaluationTimerExpiry (t : LineTime)
  | urgencyExpiry (t : LineTime) (segment : Nat)
  | hEntryExpiry (t : LineTime)
  | staggerExpiry (t : LineTime)
  | periodExpiry (t : LineTime) (segment : Nat)
  /-- `conveyor` is the conveyor number of R10: 1 to 3 for B1 to B3, 4 for VS, 5 for RC. -/
  | travelTimeout (t : LineTime) (conveyor : Nat)
  | tagReadTimeout (t : LineTime)
  | cellLinkByteReceived (t : LineTime) (b : Byte)
  deriving DecidableEq, Repr

end Sys2Proof
end

