-- ==== Sys2Proof/Decode.lean ====
section
/-! DEFINITION. The command that a word spells. No row of spec/opcode_table.json gives bits
(every row's "fields" is empty), so no word spells a command. The cell-link frames, which do carry
requests as bytes, are decoded in Machine/Link.lean at the frame's turn (R177). -/

namespace Sys2Proof

/-- The command that the word `_w` of `_nbits` bits spells: none, since no row of the table has bits. -/
def decodeTableWord (_nbits _w : Nat) : Option Instr := none

end Sys2Proof
end

