-- ==== Sys2Proof/Config.lean ====
section
/-! DEFINITION. What the part fixes for every line: capacities, limits and identity.
The spec leaves no value of the part undefined, so there is no free value here. -/

namespace Sys2Proof.Config

/-- Frames the request queue holds (R176). -/
def requestQueueCapacity : Nat := 4
/-- Replies the reply queue holds (R177, R178). -/
def replyQueueCapacity : Nat := 4
/-- Records the Event Queue holds (R184). -/
def eventQueueCapacity : Nat := 32
/-- Records the Pallet Table holds (R17). -/
def palletCapacity : Nat := 80
/-- The largest frame body in bytes (R174). -/
def maxBody : Nat := 240
/-- Milliseconds without a byte that end a partial frame (R174). -/
def gapLimit : Nat := 10
/-- Milliseconds that a level of ESTOP_IN must hold to be accepted (R189). -/
def estopFilter : Nat := 2
/-- The broadcast address of the station bus (R160). -/
def broadcastAddress : Nat := 63
/-- The sync value of a cell-link frame (11 section 11.2). -/
def syncByte : Byte := 0xC3
/-- The part code that IDENTIFY gives (R183). -/
def partCode : Nat := 612
/-- The revision code of the silicon this spec describes (R183). -/
def revisionCode : Nat := 2
/-- Entries a workpiece's defect list holds (R21). -/
def defectCapacity : Nat := 4
/-- The elapsed time beyond which a Reserve Model update counts no further (R97). -/
def reserveElapsedLimit : Nat := 600000

end Sys2Proof.Config
end

