-- ==== Sys2Proof/Machine/Records.lean ====
section
/-! DEFINITION. The records the nine blocks hold, with the values the spec's tables give their fields.
Constructors stand in the order of the spec's value columns, which is the order of their codes
(11 section 11.1). -/

namespace Sys2Proof.Machine

/-! ## Line and configuration (chapters 1 and 8) -/

/-- Line states (R145). -/
inductive LineState where
  | config | idle | run | stopping | halt
  deriving DecidableEq, Repr

/-- Modes (R145). -/
inductive Mode where
  | auto | step
  deriving DecidableEq, Repr

/-- Causes of a line-state change, in the order of R146's table. -/
inductive LineCause where
  | commit | start | stop | settled | estop | haltRequest | recover | uncommit
  deriving DecidableEq, Repr

/-- Fixture variants (02 section 2.1). -/
inductive Variant where
  | a | b | c | d
  deriving DecidableEq, Repr

/-- A conveyor: a buffer, the verification spur or the return conveyor (00 section 2). -/
inductive ConvId where
  | b1 | b2 | b3 | vs | rc
  deriving DecidableEq, Repr

/-- The LINE record (01 section 1.2), field by field in the order of its table. -/
structure LineRecord where
  nseg : Nat
  capB1 : Nat
  capB2 : Nat
  capB3 : Nat
  capVs : Nat
  capRc : Nat
  travelB1 : Nat
  travelB2 : Nat
  travelB3 : Nat
  travelVs : Nat
  travelRc : Nat
  nodeB1 : Nat
  nodeB2 : Nat
  nodeB3 : Nat
  nodeVs : Nat
  nodeRc : Nat
  nodeReader : Nat
  nodeVerify : Nat
  nodeHpu : Nat
  cap : Nat
  f : Nat
  q : Nat
  wMax : Nat
  tWindow : Nat
  tStagger : Nat
  tUrgent : Nat
  tRead : Nat
  vLaps : Nat
  vGrace : Nat
  m : Nat
  skipRejects : Bool
  firstSerial : Nat
  deriving DecidableEq, Repr

/-- A SEGMENT record without its key (01 section 1.3). -/
structure SegmentRecord where
  nests : Nat
  nodeDrive : Nat
  l : Nat
  k : Nat
  tIndexMin : Nat
  tFeedWait : Nat
  tReleaseCommon : Nat
  tLiftMax : Nat
  tAdvanceMax : Nat
  tLowerMax : Nat
  tReturnMax : Nat
  deriving DecidableEq, Repr

/-- KIND of a stored STATION record; KIND = NONE empties the place (R6). -/
inductive StationKind where
  | load | unload | machine
  deriving DecidableEq, Repr

/-- A STATION record without its key (01 section 1.4). `mask` has bit 0 for A up to bit 3 for D. -/
structure StationRecord where
  kind : StationKind
  segment : Nat
  nest : Nat
  node : Nat
  mask : BitVec 4
  autoRelease : Bool
  tSettle : Nat
  tClampMax : Nat
  tCycleMin : Nat
  tCycleMax : Nat
  tUnclampMax : Nat
  deriving DecidableEq, Repr

/-- BIT_RATE (01 section 1.5). -/
inductive BitRate where
  | r250000 | r500000 | r1000000
  deriving DecidableEq, Repr

/-- The BUS record; the slot table holds S entries (R7). -/
structure BusRecord where
  bitRate : BitRate
  deLead : Nat
  deLag : Nat
  tResponse : Nat
  slotTime : Nat
  scanOffset : Nat
  missLimit : Nat
  slots : List Nat
  deriving DecidableEq, Repr

/-- The role a node address names (R12). -/
inductive Role where
  | drive (segment : Nat)
  | station (number : Nat)
  | conveyor (c : ConvId)
  | reader
  | verify
  | hpu
  deriving DecidableEq, Repr

/-- The tables COMMIT derives (R9, R16): first position and length of each run, P, and the node roles. -/
structure Derived where
  segRuns : List (Nat × Nat × Nat)
  convRuns : List (ConvId × Nat × Nat)
  p : Nat
  roles : List (Nat × Role)
  deriving DecidableEq, Repr

/-- The configuration store (R1) with the derived tables (R9, R16). -/
structure ConfigStore where
  line : LineRecord
  segments : List (Nat × SegmentRecord)
  stations : List (Nat × StationRecord)
  bus : BusRecord
  committed : Bool
  derived : Option Derived
  deriving DecidableEq, Repr

/-- The Line Supervisor's own state (08 section 8.1). `estop` is the ESTOP image, true for ASSERTED. -/
structure Lsv where
  lineState : LineState
  mode : Mode
  estop : Bool
  segSettled : List (Nat × Bool)
  stationsSettled : Option Bool
  permits : List (Nat × Bool)
  deriving DecidableEq, Repr

/-- A running timer: its start and the elapsed time at which it expires (R46, R71, R114). -/
structure Timer where
  start : LineTime
  limit : Nat
  deriving DecidableEq, Repr

/-! ## Tracking (chapter 2) -/

inductive ServiceState where
  | inService | quarantined
  deriving DecidableEq, Repr

/-- Defect causes (02 section 2.2). -/
inductive DefectCause where
  | aborted | shortCycle | cycleTimeout | estop | linkLost | stationFault
  deriving DecidableEq, Repr

structure Defect where
  station : Nat
  cause : DefectCause
  elapsed : Nat
  deriving DecidableEq, Repr

/-- A workpiece sub-record (R20); the two sets are held as ascending lists without repeats. -/
structure Workpiece where
  serial : Nat
  opsDone : List Nat
  opsMissed : List Nat
  defects : List Defect
  moreDefects : Bool
  holdOver : Bool
  deriving DecidableEq, Repr

/-- A pallet record without its key (02 section 2.1); placement none is UNPLACED. -/
structure Pallet where
  variant : Variant
  service : ServiceState
  placement : Option Nat
  laps : Nat
  indexCount : Nat
  overdue : Bool
  workpiece : Option Workpiece
  deriving DecidableEq, Repr

inductive EntryState where
  | arrived | inTransit
  deriving DecidableEq, Repr

/-- A conveyor entry (02 section 2.3). -/
structure Entry where
  pallet : Nat
  state : EntryState
  entryTime : LineTime
  deriving DecidableEq, Repr

/-- Certainty, highest first (R25). -/
inductive Certainty where
  | certain | beforeKnown | uncertain
  deriving DecidableEq, Repr

/-- An open index (R26); `dest` is the destination whose reservation the index carries, present only
with an exit pallet. -/
structure OpenIndex where
  entry : Option Nat
  exit : Option Nat
  dest : Option ConvId
  deriving DecidableEq, Repr

/-- The Nest Map's part for one segment: occupants N1 to the exit nest, certainty, open index (R22). -/
structure SegMap where
  nests : List (Option Nat)
  certainty : Certainty
  openIndex : Option OpenIndex
  deriving DecidableEq, Repr

/-- What a tag check records at its opening (R39). -/
structure TagOpening where
  occupant : Option Nat
  image : Option Nat
  openedAt : LineTime
  noticeHeld : Bool
  deriving DecidableEq, Repr

/-- The tag check of S1 (R38); a HELD check keeps the read value and whether it was edited (R41). -/
inductive TagCheck where
  | none
  | opened (o : TagOpening)
  | held (o : TagOpening) (read : Nat) (edited : Bool)
  deriving DecidableEq, Repr

structure Trk where
  pallets : List (Nat × Pallet)
  segs : List (Nat × SegMap)
  lists : List (ConvId × List Entry)
  tag : TagCheck
  readerImage : Option Nat
  deriving DecidableEq, Repr

/-! ## The station bus (chapter 9) -/

inductive NodeStatus where
  | unseen | online | missing | lost
  deriving DecidableEq, Repr

/-- Node command codes (R173); NONE is the absence of a code. -/
inductive CmdCode where
  | clamp | start | retract | unclamp | resetFault
  | lift | advance | lower | ret | feedhold | resume | releaseAll
  | release | check
  deriving DecidableEq, Repr

/-- Node states of a station node (R172). -/
inductive StationReport where
  | unclamped | clamped | cycling | cycleDone | fault | lockout
  deriving DecidableEq, Repr

/-- Phases a drive node reports (R172). -/
inductive DrivePhase where
  | atRest | lifting | lifted | advancing | advanced | lowering | lowered | returning | held | fault
  deriving DecidableEq, Repr

/-- States of the verification node (R172). -/
inductive VerifyState where
  | idle | checking | pass | fail
  deriving DecidableEq, Repr

/-- The report fields of each node kind (R172). -/
inductive Report where
  | station (state : StationReport) (faultCode : Nat)
  | drive (phase : DrivePhase)
  | conveyor (count : Nat) (jam head : Bool)
  | reader (sequence value : Nat)
  | verify (state : VerifyState) (sequence : Nat)
  | hpu (pump alarm : Bool)
  deriving DecidableEq, Repr

/-- A command acknowledgement (09 section 9.1); code none is NONE. -/
structure Echo where
  toggle : Bool
  code : Option CmdCode
  refused : Bool
  deriving DecidableEq, Repr

/-- A pending command with its arguments and transmitted toggle (R166). -/
structure PendingCmd where
  code : CmdCode
  args : List Byte
  sent : Option Bool
  deriving DecidableEq, Repr

/-- A node-table entry without its address (09 section 9.1). -/
structure Node where
  role : Role
  state : NodeStatus
  misses : Nat
  echo : Option Echo
  pending : Option PendingCmd
  resync : Bool
  report : Option Report
  deriving DecidableEq, Repr

/-- Scan progress: silent (R159), scanning with the first slot whose boundary is still to come, and
whether an ESTOP broadcast has cut into the scan so that boundaries may have passed (R170), or ending: UNCOMMIT
has been taken and the slot in progress runs to its end (R159). -/
inductive Scan where
  | silent
  | scanning (nextSlot : Nat) (cut : Bool)
  | ending
  deriving DecidableEq, Repr

/-- An open response window (R161). `cut`: the line entered HALT in it, so that it was closed without a
miss unless a reply was being received (R170). -/
structure Window where
  address : Nat
  cut : Bool
  deriving DecidableEq, Repr

structure Sbm where
  nodes : List (Nat × Node)
  schedule : List Nat
  scan : Scan
  window : Option Window
  /-- The characters of the latest poll or broadcast on BTX (R160, R161). -/
  tx : List BusChar
  deriving DecidableEq, Repr

/-! ## Station sequencing (chapter 3) -/

inductive StationState where
  | released | clamping | clamped | cycle | doneHeld | unclamping | fault | lockout | skipped
  deriving DecidableEq, Repr

inductive JobKind where
  | machine | load | unload
  deriving DecidableEq, Repr

inductive Disposition where
  | good | rework | reject
  deriving DecidableEq, Repr

/-- A WORK job in hand (03 section 3.1). -/
structure Job where
  kind : JobKind
  pallet : Nat
  variant : Variant
  disposition : Option Disposition
  deriving DecidableEq, Repr

/-- What the Route Unit gives a station for an arriving pallet (03 section 3.2). -/
inductive JobOrder where
  | work (job : Job)
  | pass
  | miss (pallet : Nat)
  deriving DecidableEq, Repr

inductive TimerPurpose where
  | clamp | settle | cycle | unclamp | common | clear
  deriving DecidableEq, Repr

structure StationTimer where
  purpose : TimerPurpose
  timer : Timer
  deriving DecidableEq, Repr

/-- Station fault causes (03 section 3.1). -/
inductive StationCause where
  | clampTimeout | cycleTimeout | unclampTimeout | nodeFault | nodeState | linkLost | estop | refused
  deriving DecidableEq, Repr

/-- A station record (03 section 3.1). Its pending command is that of its node (SBM). -/
structure Station where
  state : StationState
  job : Option Job
  outcomeGiven : Bool
  startTime : Option LineTime
  timer : Option StationTimer
  report : Option (StationReport × Nat)
  cause : Option StationCause
  clearPending : Bool
  node : NodeStatus
  deriving DecidableEq, Repr

/-- Common-release state of a segment (03 section 3.1 note 3). -/
inductive CommonState where
  | none | requested | running
  deriving DecidableEq, Repr

structure Sqs where
  stations : List (Nat × Station)
  common : List (Nat × CommonState)
  deriving DecidableEq, Repr

/-! ## Segments (chapter 4) -/

inductive SegState where
  | off | work | ready | queued | lift | advance | lower | fault
  deriving DecidableEq, Repr

inductive BarState where
  | atRest | returning
  deriving DecidableEq, Repr

inductive Room where
  | none
  | requested (dest : ConvId)
  | held (dest : ConvId)
  deriving DecidableEq, Repr

inductive HoldStatus where
  | none | holding | held | resuming
  deriving DecidableEq, Repr

/-- Segment fault causes (04 section 4.1). -/
inductive SegCause where
  | phaseTimeout | driveFault | driveState | linkLost | estop | refused
  deriving DecidableEq, Repr

inductive PhaseTimer where
  | stopped
  | running (t : Timer)
  | paused (remainder : Nat)
  deriving DecidableEq, Repr

/-- The commands a segment owes its drive (04 section 4.1). -/
structure Owed where
  lift : Bool
  advance : Bool
  lower : Bool
  ret : Bool
  resume : Bool
  releaseAll : Bool
  deriving DecidableEq, Repr

/-- A segment's request as SC keeps it (R78). -/
structure QueuedRequest where
  entryTaken : Bool
  n : Nat
  enqueued : LineTime
  deriving DecidableEq, Repr

/-- A segment record (04 section 4.1). `clear` is the clear timer, running exactly while clear pending
is YES. Its pending command is that of its drive node (SBM). -/
structure Segment where
  state : SegState
  held : Bool
  trackHold : Bool
  stationsFree : Bool
  bar : BarState
  room : Room
  feedWait : Option Timer
  queued : Option QueuedRequest
  indexNumber : Nat
  phase : PhaseTimer
  motion : DrivePhase
  hold : HoldStatus
  resumeWanted : Bool
  owed : Owed
  cause : Option SegCause
  clear : Option Timer
  node : NodeStatus
  report : Option DrivePhase
  deriving DecidableEq, Repr

/-! ## Admission (chapter 5) -/

inductive ReqClass where
  | normal | urgent
  deriving DecidableEq, Repr

/-- A request in the admission queue (05 section 5.1). -/
structure AdaRequest where
  segment : Nat
  entryTaken : Bool
  n : Nat
  demand : Nat
  enqueued : LineTime
  cls : ReqClass
  urgency : Option Timer
  earliest : Option LineTime
  deriving DecidableEq, Repr

/-- The Admission Arbiter (05 section 5.1). `lastSeg` lists the segments whose last_s is not none. -/
structure Ada where
  r : Nat
  c : Nat
  tLast : LineTime
  pump : Bool
  alarm : Bool
  hpu : NodeStatus
  reportedAlarm : Bool
  h : List LineTime
  lastAny : Option LineTime
  lastSeg : List (Nat × LineTime)
  queue : List AdaRequest
  evalTimer : Option Timer
  deriving DecidableEq, Repr

/-! ## Conveyors (chapter 6) -/

inductive ConvState where
  | flowing | jammed
  deriving DecidableEq, Repr

inductive JamCause where
  | travelTimeout | nodeJam | phantomArrival | nodeLost
  deriving DecidableEq, Repr

inductive Holder where
  | segment (k : Nat)
  | spur
  deriving DecidableEq, Repr

inductive ResStatus where
  | held | carried | releasing
  deriving DecidableEq, Repr

structure Reservation where
  holder : Holder
  status : ResStatus
  deriving DecidableEq, Repr

/-- A conveyor record (06 section 6.1). -/
structure Conveyor where
  state : ConvState
  cause : Option JamCause
  reservations : List Reservation
  requests : List Holder
  expected : Nat
  image : Option Nat
  travel : Option Timer
  node : NodeStatus
  report : Option (Nat × Bool × Bool)
  deriving DecidableEq, Repr

structure Cvt where
  convs : List (ConvId × Conveyor)
  passOver : Nat
  staleRelease : Bool
  deriving DecidableEq, Repr

/-! ## Routing (chapter 7) -/

inductive CheckState where
  | idle | waiting | posted | running | passed | blocked
  deriving DecidableEq, Repr

structure Rtu where
  serial : Nat
  note : Option Nat
  check : CheckState
  checkPallet : Option Nat
  stale : Bool
  image : Option Nat
  report : Option (VerifyState × Nat)
  node : NodeStatus
  deriving DecidableEq, Repr

/-! ## The cell link (chapter 10) -/

/-- Subject kinds in the order of R10's table, the event table's order up to HPU. -/
inductive SubjectKind where
  | line | segment | station | conveyor | reader | verify | hpu | slot
  deriving DecidableEq, Repr

structure Subject where
  kind : SubjectKind
  number : Nat
  deriving DecidableEq, Repr

/-- Event kinds in the order of R184's table. -/
inductive EventKind where
  | indexDone | feedGap | admissionUrgent | admissionBlocked | hpuAlarm | stationFault | shortCycle
  | motionFault | nodeLost | nodeBack | conveyorJam
  | tagMismatch | tagUnexpected | tagMissing | tagUnreadable
  | verifyResult | verifyPostponed | verifyOverdue | palletQuarantined | workpieceOut
  | lineState | estopOn | estopOff
  deriving DecidableEq, Repr

/-- Causes of ADMISSION_BLOCKED (R98, R99). -/
inductive BlockedCause where
  | alarm | hpuLost
  deriving DecidableEq, Repr

/-- Results of VERIFY_RESULT (R141 to R143). -/
inductive VerifyResult where
  | pass | fail | refused
  deriving DecidableEq, Repr

/-- The values an event's detail carries (R184). -/
inductive Detail where
  | none
  | index (number : Nat)
  | duration (ms : Nat)
  | blocked (cause : BlockedCause)
  | alarm (on : Bool)
  | stationCause (cause : StationCause)
  | motion (cause : SegCause) (certainty : Certainty) (index : Nat)
  | address (a : Nat)
  | jam (cause : JamCause)
  | read (value : Option Nat)
  | verify (result : VerifyResult)
  | laps (n : Nat)
  | workpiece (serial : Nat) (disposition : Disposition) (defects : Nat) (more : Bool)
  | lineState (state : LineState) (cause : LineCause)
  deriving DecidableEq, Repr

/-- An event record (10 section 10.6). -/
structure Event where
  kind : EventKind
  time : LineTime
  subject : Subject
  pallet : Option Nat
  detail : Detail
  deriving DecidableEq, Repr

/-- A good frame in the request queue (R176). -/
structure Frame where
  type : Byte
  tag : Byte
  body : List Byte
  deriving DecidableEq, Repr

/-- The answer a request's owner decides (R179): the reply code with what its body carries. -/
inductive Answer where
  | ok (data : List Byte)
  | type
  | arg (field : Nat)
  | state
  | notFound
  | occupied
  | full
  | interlock
  | check (number : Nat) (subject : Subject)
  deriving DecidableEq, Repr

/-- A reply in the reply queue: type and tag of its request, and the whole body (R177). -/
structure Reply where
  type : Byte
  tag : Byte
  body : List Byte
  deriving DecidableEq, Repr

/-- The receiver (R174): hunting, or assembling with the bytes after the sync byte and the gap timer. -/
inductive Receiver where
  | hunting
  | assembling (bytes : List Byte) (gap : Timer)
  deriving DecidableEq, Repr

structure Clp where
  rx : Receiver
  requests : List Frame
  replies : List Reply
  /-- The bytes of the reply frame being sent on TXD, if one is (R178). -/
  sending : Option (List Byte)
  linkError : Bool
  overrun : Bool
  events : List Event
  gap : Bool
  /-- RESTART has been executed: no further frame is taken (R156). -/
  restarting : Bool
  /-- CTS as last sampled (R178). -/
  cts : Bool
  /-- BR1, BR0 as sampled at the last reset (R189). -/
  rate : BitVec 2
  deriving DecidableEq, Repr

end Sys2Proof.Machine
end

