-- ==== Sys2Proof/Machine/State.lean ====
section
/-! DEFINITION. The state of the PT612 as plain data, the reasons a step can stop, and the state right
after a hardware reset (R145 and the rules it gathers). -/

namespace Sys2Proof.Machine

/-- The whole state of the part, block by block (00 section 3.1), and the queue of waiting commands. -/
structure State where
  /-- The line clock (00 section 5.2). -/
  clock : LineTime
  /-- Milliseconds for which the level that the filter of ESTOP_IN last accepted has been in force, or since the
  reset where it has accepted none; counted up to the filter's 2 ms (R189, log entry 15). -/
  estopHeld : Nat
  clp : Clp
  lsv : Lsv
  cfg : ConfigStore
  trk : Trk
  rtu : Rtu
  sqs : Sqs
  /-- The segment records of SC1 to SC4, keyed by segment number (R71). -/
  sc : List (Nat × Segment)
  ada : Ada
  cvt : Cvt
  sbm : Sbm
  /-- The commands that wait, first in first out: the model's own field. -/
  pending : List Instr
  deriving DecidableEq, Repr

/-- No command stops the part: the spec describes an effect, or no effect, for every event (R157, R179).
There is no constructor. -/
inductive Fault where
  deriving DecidableEq, Repr

/-- A refusal. `notModelled` is raised by no arm of exec; it is safe. -/
inductive Refusal where
  | notModelled (mnemonic : String)
  deriving DecidableEq, Repr

/-- The LINE record's defaults (01 section 1.2). -/
def LineRecord.default : LineRecord :=
  { nseg := 1, capB1 := 4, capB2 := 4, capB3 := 4, capVs := 2, capRc := 12,
    travelB1 := 30000, travelB2 := 30000, travelB3 := 30000, travelVs := 30000, travelRc := 30000,
    nodeB1 := 0, nodeB2 := 0, nodeB3 := 0, nodeVs := 0, nodeRc := 0,
    nodeReader := 0, nodeVerify := 0, nodeHpu := 0,
    cap := 20000, f := 4000, q := 1000, wMax := 3, tWindow := 4000, tStagger := 500,
    tUrgent := 30000, tRead := 1000, vLaps := 8, vGrace := 2, m := 3, skipRejects := false,
    firstSerial := 1 }

/-- A SEGMENT record's defaults (01 section 1.3). -/
def SegmentRecord.default : SegmentRecord :=
  { nests := 6, nodeDrive := 0, l := 2000, k := 200, tIndexMin := 10000, tFeedWait := 3000,
    tReleaseCommon := 2000, tLiftMax := 4000, tAdvanceMax := 4000, tLowerMax := 4000,
    tReturnMax := 4000 }

/-- The BUS record's defaults (01 section 1.5): one slot, disabled. -/
def BusRecord.default : BusRecord :=
  { bitRate := .r500000, deLead := 2, deLag := 2, tResponse := 1000, slotTime := 5,
    scanOffset := 1, missLimit := 3, slots := [0] }

/-- The configuration store after a reset (R2). -/
def ConfigStore.reset : ConfigStore :=
  { line := .default,
    segments := [(1, .default), (2, .default), (3, .default), (4, .default)],
    stations := [], bus := .default, committed := false, derived := none }

/-- R145. -/
def Lsv.reset : Lsv :=
  { lineState := .config, mode := .auto, estop := false, segSettled := [], stationsSettled := none,
    permits := [] }

/-- R17, R24, R38. -/
def Trk.reset : Trk :=
  { pallets := [], segs := [], lists := [], tag := .none, readerImage := none }

/-- R129. -/
def Rtu.reset : Rtu :=
  { serial := 1, note := none, check := .idle, checkPallet := none, stale := false, image := none,
    report := none, node := .unseen }

/-- R46. -/
def Sqs.reset : Sqs := { stations := [], common := [] }

/-- R96. -/
def Ada.reset : Ada :=
  { r := 0, c := 0, tLast := 0, pump := false, alarm := false, hpu := .unseen,
    reportedAlarm := false, h := [], lastAny := none, lastSeg := [], queue := [], evalTimer := none }

/-- R114. -/
def Cvt.reset : Cvt := { convs := [], passOver := 0, staleRelease := false }

/-- R159: no node table, and the bus is silent. -/
def Sbm.reset : Sbm :=
  { nodes := [], schedule := [], scan := .silent, window := none, tx := [] }

/-- R174, R178, R180, R184; DESIGN CHOICE, log entry 4: CTS deasserted, BR1 and BR0 low. -/
def Clp.reset : Clp :=
  { rx := .hunting, requests := [], replies := [], sending := none, linkError := false,
    overrun := false, events := [], gap := false, restarting := false, cts := false, rate := 0 }

/-- The part right after a hardware reset with ESTOP_IN released (R145); DESIGN CHOICE for the pin
levels, log entry 4. -/
def State.reset : State :=
  { clock := 0, estopHeld := 0, clp := .reset, lsv := .reset, cfg := .reset, trk := .reset, rtu := .reset,
    sqs := .reset, sc := [], ada := .reset, cvt := .reset, sbm := .reset, pending := [] }

end Sys2Proof.Machine
end

