-- ==== Sys2Proof/Machine/Crc.lean ====
section
/-! DEFINITION. The two cyclic redundancy checks: CRC-16 of the cell link (R187) and CRC-8 of the
station bus (R188). -/

namespace Sys2Proof.Machine

/-- `n` shifts of the CRC-16 register, polynomial x^16 + x^12 + x^5 + 1. -/
def crc16Shift : Nat → BitVec 16 → BitVec 16
  | 0, r => r
  | n + 1, r => crc16Shift n (if r.msb then (r <<< 1) ^^^ 0x1021 else r <<< 1)

/-- One byte enters the register most significant bit first. -/
def crc16Byte (r : BitVec 16) (b : Byte) : BitVec 16 := crc16Shift 8 (r ^^^ (b.zeroExtend 16 <<< 8))

/-- The CRC-16 of bytes: register preset to all ones, result neither reflected nor inverted (R187). -/
def crc16 (bs : List Byte) : BitVec 16 := bs.foldl crc16Byte 0xFFFF

/-- `n` shifts of the CRC-8 register, polynomial x^8 + x^2 + x + 1. -/
def crc8Shift : Nat → BitVec 8 → BitVec 8
  | 0, r => r
  | n + 1, r => crc8Shift n (if r.msb then (r <<< 1) ^^^ 0x07 else r <<< 1)

def crc8Byte (r : BitVec 8) (b : Byte) : BitVec 8 := crc8Shift 8 (r ^^^ b)

/-- The CRC-8 of characters' data bits, D7 first: register preset to all ones (R188). -/
def crc8 (bs : List Byte) : BitVec 8 := bs.foldl crc8Byte 0xFF

end Sys2Proof.Machine
end

