-- ==== Sys2Proof/Machine/Codes.lean ====
section
/-! DEFINITION. The codes of enumerated values and the byte encodings of fields (11 section 11.1):
an enumerated value is numbered from 0 in the order of its value column, and a multi-byte number
travels most significant byte first. -/

namespace Sys2Proof.Machine

/-- One byte holding `n`. -/
def byteOf (n : Nat) : Byte := BitVec.ofNat 8 n

/-- `n` in `w` bytes, most significant byte first. -/
def beBytes : Nat → Nat → List Byte
  | 0, _ => []
  | w + 1, n => byteOf (n / 256 ^ w) :: beBytes w n

/-- The number that bytes spell, most significant byte first. -/
def beNat (bs : List Byte) : Nat := bs.foldl (fun acc b => acc * 256 + b.toNat) 0

/-- A flag, YES or NO: 1 or 0. -/
def flagByte (b : Bool) : Byte := if b then 1 else 0

/-- Line times and durations outside the configuration records: 4 bytes. -/
def timeBytes (t : LineTime) : List Byte := beBytes 4 t.toNat

/-- An optional field: a presence byte, then the field, sent as 0 when absent. -/
def optionBytes (width : Nat) : Option Nat → List Byte
  | none => 0 :: beBytes width 0
  | some n => 1 :: beBytes width n

def LineState.code : LineState → Nat
  | .config => 0 | .idle => 1 | .run => 2 | .stopping => 3 | .halt => 4

def Mode.code : Mode → Nat
  | .auto => 0 | .step => 1

def Mode.ofCode : Nat → Option Mode
  | 0 => some .auto | 1 => some .step | _ => none

/-- R146's order of causes; DESIGN CHOICE, log entry 7. -/
def LineCause.code : LineCause → Nat
  | .commit => 0 | .start => 1 | .stop => 2 | .settled => 3
  | .estop => 4 | .haltRequest => 5 | .recover => 6 | .uncommit => 7

def Variant.code : Variant → Nat
  | .a => 0 | .b => 1 | .c => 2 | .d => 3

def Variant.ofCode : Nat → Option Variant
  | 0 => some .a | 1 => some .b | 2 => some .c | 3 => some .d | _ => none

def BitRate.ofCode : Nat → Option BitRate
  | 0 => some .r250000 | 1 => some .r500000 | 2 => some .r1000000 | _ => none

/-- The bit time t_b in µs (01 section 1.5 note 1). -/
def BitRate.bitTime : BitRate → Nat
  | .r250000 => 4 | .r500000 => 2 | .r1000000 => 1

/-- The conveyor number of R10: 1 to 3 for B1 to B3, 4 for VS, 5 for RC. -/
def ConvId.number : ConvId → Nat
  | .b1 => 1 | .b2 => 2 | .b3 => 3 | .vs => 4 | .rc => 5

def ConvId.ofNumber : Nat → Option ConvId
  | 1 => some .b1 | 2 => some .b2 | 3 => some .b3 | 4 => some .vs | 5 => some .rc | _ => none

def ServiceState.code : ServiceState → Nat
  | .inService => 0 | .quarantined => 1

def DefectCause.code : DefectCause → Nat
  | .aborted => 0 | .shortCycle => 1 | .cycleTimeout => 2 | .estop => 3 | .linkLost => 4
  | .stationFault => 5

/-- Entry state in replies: 0 none, 1 ARRIVED, 2 IN_TRANSIT (11 section 11.3). -/
def entryStateCode : Option EntryState → Nat
  | none => 0 | some .arrived => 1 | some .inTransit => 2

/-- CERTAIN 0, BEFORE_KNOWN 1, UNCERTAIN 2, the order of R25. -/
def Certainty.code : Certainty → Nat
  | .certain => 0 | .beforeKnown => 1 | .uncertain => 2

def TagCheck.code : TagCheck → Nat
  | .none => 0 | .opened _ => 1 | .held _ _ _ => 2

def NodeStatus.code : NodeStatus → Nat
  | .unseen => 0 | .online => 1 | .missing => 2 | .lost => 3

/-- Command codes (11 section 11.4). -/
def CmdCode.code : CmdCode → Nat
  | .clamp => 8 | .start => 9 | .retract => 10 | .unclamp => 11 | .resetFault => 12
  | .lift => 16 | .advance => 17 | .lower => 18 | .ret => 19 | .feedhold => 20 | .resume => 21
  | .releaseAll => 22 | .release => 24 | .check => 25

def CmdCode.ofCode : Nat → Option CmdCode
  | 8 => some .clamp | 9 => some .start | 10 => some .retract | 11 => some .unclamp
  | 12 => some .resetFault | 16 => some .lift | 17 => some .advance | 18 => some .lower
  | 19 => some .ret | 20 => some .feedhold | 21 => some .resume | 22 => some .releaseAll
  | 24 => some .release | 25 => some .check | _ => none

def StationReport.ofCode : Nat → Option StationReport
  | 0 => some .unclamped | 1 => some .clamped | 2 => some .cycling | 3 => some .cycleDone
  | 4 => some .fault | 5 => some .lockout | _ => none

def DrivePhase.ofCode : Nat → Option DrivePhase
  | 0 => some .atRest | 1 => some .lifting | 2 => some .lifted | 3 => some .advancing
  | 4 => some .advanced | 5 => some .lowering | 6 => some .lowered | 7 => some .returning
  | 8 => some .held | 9 => some .fault | _ => none

def VerifyState.ofCode : Nat → Option VerifyState
  | 0 => some .idle | 1 => some .checking | 2 => some .pass | 3 => some .fail | _ => none

def StationState.code : StationState → Nat
  | .released => 0 | .clamping => 1 | .clamped => 2 | .cycle => 3 | .doneHeld => 4
  | .unclamping => 5 | .fault => 6 | .lockout => 7 | .skipped => 8

/-- MACHINE 0, LOAD 1, UNLOAD 2, the order of 03 section 3.1. -/
def JobKind.code : JobKind → Nat
  | .machine => 0 | .load => 1 | .unload => 2

/-- GOOD 0, REWORK 1, REJECT 2, the order of R173; DESIGN CHOICE, log entry 7. -/
def Disposition.code : Disposition → Nat
  | .good => 0 | .rework => 1 | .reject => 2

/-- A fault cause as an enumerated value whose first value is none; DESIGN CHOICE, log entry 7. -/
def StationCause.code : StationCause → Nat
  | .clampTimeout => 1 | .cycleTimeout => 2 | .unclampTimeout => 3 | .nodeFault => 4
  | .nodeState => 5 | .linkLost => 6 | .estop => 7 | .refused => 8

def stationCauseCode : Option StationCause → Nat
  | none => 0 | some c => c.code

def SegState.code : SegState → Nat
  | .off => 0 | .work => 1 | .ready => 2 | .queued => 3 | .lift => 4 | .advance => 5
  | .lower => 6 | .fault => 7

def BarState.code : BarState → Nat
  | .atRest => 0 | .returning => 1

/-- A fault cause as an enumerated value whose first value is none; DESIGN CHOICE, log entry 7. -/
def SegCause.code : SegCause → Nat
  | .phaseTimeout => 1 | .driveFault => 2 | .driveState => 3 | .linkLost => 4 | .estop => 5
  | .refused => 6

def segCauseCode : Option SegCause → Nat
  | none => 0 | some c => c.code

def ReqClass.code : ReqClass → Nat
  | .normal => 0 | .urgent => 1

def ConvState.code : ConvState → Nat
  | .flowing => 0 | .jammed => 1

/-- A jam cause as an enumerated value whose first value is none; DESIGN CHOICE, log entry 7. -/
def JamCause.code : JamCause → Nat
  | .travelTimeout => 1 | .nodeJam => 2 | .phantomArrival => 3 | .nodeLost => 4

def jamCauseCode : Option JamCause → Nat
  | none => 0 | some c => c.code

def CheckState.code : CheckState → Nat
  | .idle => 0 | .waiting => 1 | .posted => 2 | .running => 3 | .passed => 4 | .blocked => 5

def SubjectKind.code : SubjectKind → Nat
  | .line => 0 | .segment => 1 | .station => 2 | .conveyor => 3 | .reader => 4 | .verify => 5
  | .hpu => 6 | .slot => 7

/-- Event kinds 1 to 23 (11 section 11.3). -/
def EventKind.code : EventKind → Nat
  | .indexDone => 1 | .feedGap => 2 | .admissionUrgent => 3 | .admissionBlocked => 4
  | .hpuAlarm => 5 | .stationFault => 6 | .shortCycle => 7 | .motionFault => 8 | .nodeLost => 9
  | .nodeBack => 10 | .conveyorJam => 11 | .tagMismatch => 12 | .tagUnexpected => 13
  | .tagMissing => 14 | .tagUnreadable => 15 | .verifyResult => 16 | .verifyPostponed => 17
  | .verifyOverdue => 18 | .palletQuarantined => 19 | .workpieceOut => 20 | .lineState => 21
  | .estopOn => 22 | .estopOff => 23

/-- ALARM 0, HPU_LOST 1, the order in which R184 lists them; DESIGN CHOICE, log entry 7. -/
def BlockedCause.code : BlockedCause → Nat
  | .alarm => 0 | .hpuLost => 1

/-- PASS 0, FAIL 1, REFUSED 2, the order in which R184 lists them; DESIGN CHOICE, log entry 7. -/
def VerifyResult.code : VerifyResult → Nat
  | .pass => 0 | .fail => 1 | .refused => 2

/-- The detail's values in the order of R184's table; DESIGN CHOICE for widths, log entry 8. -/
def Detail.values : Detail → List Byte
  | .none => []
  | .index n => beBytes 2 n
  | .duration ms => beBytes 4 ms
  | .blocked c => [byteOf c.code]
  | .alarm on => [flagByte on]
  | .stationCause c => [byteOf c.code]
  | .motion c certainty n => [byteOf c.code, byteOf certainty.code] ++ beBytes 2 n
  | .address a => [byteOf a]
  | .jam c => [byteOf c.code]
  | .read v => optionBytes 1 v
  | .verify r => [byteOf r.code]
  | .laps n => [byteOf n]
  | .workpiece serial disposition defects more =>
      beBytes 2 serial ++ [byteOf disposition.code, byteOf defects, flagByte more]
  | .lineState st c => [byteOf st.code, byteOf c.code]

/-- The six detail bytes of an event record: the values, then zero bytes (11 section 11.3). -/
def Detail.bytes (d : Detail) : List Byte := (d.values ++ List.replicate 6 0).take 6

/-- A pallet ID, 0 for none or EMPTY (11 section 11.1). -/
def palletByte (p : Option Nat) : Byte := byteOf (p.getD 0)

/-- A loop position, 255 for UNPLACED (11 section 11.1). -/
def positionByte (p : Option Nat) : Byte := byteOf (p.getD 255)

/-- An event record's 14 bytes (11 section 11.3). -/
def Event.bytes (e : Event) : List Byte :=
  [byteOf e.kind.code] ++ timeBytes e.time
    ++ [byteOf e.subject.kind.code, byteOf e.subject.number, palletByte e.pallet] ++ e.detail.bytes

/-- A reply's body: the reply code, then what the code carries (R179, 11 section 11.2). -/
def Answer.body : Answer → List Byte
  | .ok data => 0 :: data
  | .type => [1]
  | .arg field => [2, byteOf field]
  | .state => [3]
  | .notFound => [4]
  | .occupied => [5]
  | .full => [6]
  | .interlock => [7]
  | .check number subject => [8, byteOf number, byteOf subject.kind.code, byteOf subject.number]

end Sys2Proof.Machine
end

