-- ==== Sys2Proof/Machine/Tables.lean ====
section
/-! DEFINITION. Keyed lists, which hold every table of the part, and ascending sets of numbers. -/

namespace Sys2Proof.Machine

/-- The value under key `k`. -/
def tableGet {κ α : Type} [DecidableEq κ] (k : κ) : List (κ × α) → Option α
  | [] => none
  | (k', v) :: rest => if k' = k then some v else tableGet k rest

/-- The table with the value under `k` changed by `f`; no entry is added. -/
def tableModify {κ α : Type} [DecidableEq κ] (k : κ) (f : α → α) : List (κ × α) → List (κ × α)
  | [] => []
  | (k', v) :: rest => (if k' = k then (k', f v) else (k', v)) :: tableModify k f rest

/-- The table, ascending by key, with `v` under `k`. -/
def tableInsert {α : Type} (k : Nat) (v : α) : List (Nat × α) → List (Nat × α)
  | [] => [(k, v)]
  | (k', v') :: rest =>
    if k' < k then (k', v') :: tableInsert k v rest
    else if k' = k then (k, v) :: rest
    else (k, v) :: (k', v') :: rest

/-- The table without the entries under `k`. -/
def tableErase {κ α : Type} [DecidableEq κ] (k : κ) : List (κ × α) → List (κ × α)
  | [] => []
  | (k', v) :: rest => if k' = k then tableErase k rest else (k', v) :: tableErase k rest

/-- An ascending list of numbers with `n` in it, once. -/
def setInsert (n : Nat) : List Nat → List Nat
  | [] => [n]
  | m :: rest => if m < n then m :: setInsert n rest else if m = n then m :: rest else n :: m :: rest

/-- `f` applied for each element in turn. -/
def forEach {α σ : Type} (f : α → σ → σ) : List α → σ → σ
  | [], s => s
  | a :: rest, s => forEach f rest (f a s)

end Sys2Proof.Machine
end

