-- ==== Sys2Proof/Machine/Ops.lean ====
section
/-! DEFINITION. The named operations every block uses: reading and changing a record, the line clock
and its timers, posting an event (R184) and posting a node command (R166, R168). -/

namespace Sys2Proof.Machine

/-! ## Time -/

/-- Elapsed milliseconds from `start` to `now`, a difference modulo 2^32 (00 section 5.2). -/
def elapsed (start now : LineTime) : Nat := (now - start).toNat

/-- A timer of `limit` ms started now. -/
def State.timerFor (s : State) (limit : Nat) : Timer := { start := s.clock, limit := limit }

/-- A timer expires when the elapsed time reaches its limit (R46, R71, R114). -/
def State.due (s : State) (tm : Timer) : Bool := tm.limit ≤ elapsed tm.start s.clock

/-- The clock stands at the line time of the event being taken (log entry 1), and the filter of ESTOP_IN has
counted on to it (R189, log entry 15). -/
def State.at (s : State) (t : LineTime) : State :=
  { s with clock := t, estopHeld := min Config.estopFilter (s.estopHeld + elapsed s.clock t) }

/-! ## Configuration in service -/

def State.nseg (s : State) : Nat := s.cfg.line.nseg

def State.segCfg (s : State) (k : Nat) : SegmentRecord :=
  (tableGet k s.cfg.segments).getD .default

def State.stationCfg (s : State) (n : Nat) : Option StationRecord := tableGet n s.cfg.stations

/-- Capacity of a conveyor (01 section 1.2). -/
def LineRecord.capacity (l : LineRecord) : ConvId → Nat
  | .b1 => l.capB1 | .b2 => l.capB2 | .b3 => l.capB3 | .vs => l.capVs | .rc => l.capRc

/-- T_travel of a conveyor. -/
def LineRecord.travel (l : LineRecord) : ConvId → Nat
  | .b1 => l.travelB1 | .b2 => l.travelB2 | .b3 => l.travelB3 | .vs => l.travelVs | .rc => l.travelRc

/-- Node address of a conveyor. -/
def LineRecord.convNode (l : LineRecord) : ConvId → Nat
  | .b1 => l.nodeB1 | .b2 => l.nodeB2 | .b3 => l.nodeB3 | .vs => l.nodeVs | .rc => l.nodeRc

/-- The buffer Bk. -/
def bufferId : Nat → ConvId
  | 1 => .b1 | 2 => .b2 | _ => .b3

/-- The upstream conveyor of segment k: RC for S1, B(k-1) for Sk (R26). -/
def upstreamOf (k : Nat) : ConvId := if k ≤ 1 then .rc else bufferId (k - 1)

/-- The conveyors in service in the order B1..B(NSEG-1), VS, RC (R182). -/
def convsInService (nseg : Nat) : List ConvId :=
  (if 2 ≤ nseg then [.b1] else []) ++ (if 3 ≤ nseg then [.b2] else [])
    ++ (if 4 ≤ nseg then [.b3] else []) ++ [.vs, .rc]

/-- The segments in service, ascending. -/
def State.segNumbers (s : State) : List Nat := s.sc.map (·.1)

/-- The configured stations, ascending. -/
def State.stationNumbers (s : State) : List Nat := s.sqs.stations.map (·.1)

/-! ## Records -/

/-- A segment record as COMMIT creates it (R71). -/
def Segment.fresh : Segment :=
  { state := .off, held := false, trackHold := false, stationsFree := true, bar := .returning,
    room := .none, feedWait := none, queued := none, indexNumber := 0, phase := .stopped,
    motion := .atRest, hold := .none, resumeWanted := false,
    owed := { lift := false, advance := false, lower := false, ret := false, resume := false,
              releaseAll := false },
    cause := none, clear := none, node := .unseen, report := none }

/-- A station record as COMMIT creates it (R46). -/
def Station.fresh : Station :=
  { state := .released, job := none, outcomeGiven := false, startTime := none, timer := none,
    report := none, cause := none, clearPending := false, node := .unseen }

/-- A conveyor record as COMMIT creates it (R114). -/
def Conveyor.fresh : Conveyor :=
  { state := .flowing, cause := none, reservations := [], requests := [], expected := 0,
    image := none, travel := none, node := .unseen, report := none }

def State.seg (s : State) (k : Nat) : Segment := (tableGet k s.sc).getD .fresh

def State.modSeg (s : State) (k : Nat) (f : Segment → Segment) : State :=
  { s with sc := tableModify k f s.sc }

def State.station (s : State) (n : Nat) : Station := (tableGet n s.sqs.stations).getD .fresh

def State.modStation (s : State) (n : Nat) (f : Station → Station) : State :=
  { s with sqs := { s.sqs with stations := tableModify n f s.sqs.stations } }

def State.common (s : State) (k : Nat) : CommonState := (tableGet k s.sqs.common).getD .none

def State.setCommon (s : State) (k : Nat) (c : CommonState) : State :=
  { s with sqs := { s.sqs with common := tableModify k (fun _ => c) s.sqs.common } }

def State.conv (s : State) (c : ConvId) : Conveyor := (tableGet c s.cvt.convs).getD .fresh

def State.modConv (s : State) (c : ConvId) (f : Conveyor → Conveyor) : State :=
  { s with cvt := { s.cvt with convs := tableModify c f s.cvt.convs } }

def State.node (s : State) (a : Nat) : Option Node := tableGet a s.sbm.nodes

def State.modNode (s : State) (a : Nat) (f : Node → Node) : State :=
  { s with sbm := { s.sbm with nodes := tableModify a f s.sbm.nodes } }

def State.pallet (s : State) (id : Nat) : Option Pallet := tableGet id s.trk.pallets

def State.modPallet (s : State) (id : Nat) (f : Pallet → Pallet) : State :=
  { s with trk := { s.trk with pallets := tableModify id f s.trk.pallets } }

def State.modAda (s : State) (f : Ada → Ada) : State := { s with ada := f s.ada }

def State.modRtu (s : State) (f : Rtu → Rtu) : State := { s with rtu := f s.rtu }

def State.modClp (s : State) (f : Clp → Clp) : State := { s with clp := f s.clp }

def State.modLsv (s : State) (f : Lsv → Lsv) : State := { s with lsv := f s.lsv }

def State.permit (s : State) (k : Nat) : Bool := (tableGet k s.lsv.permits).getD false

def State.setPermit (s : State) (k : Nat) (p : Bool) : State :=
  s.modLsv fun l => { l with permits := tableModify k (fun _ => p) l.permits }

/-- The line is in RUN or STOPPING. -/
def State.moving (s : State) : Bool := s.lsv.lineState = .run || s.lsv.lineState = .stopping

/-! ## Events -/

/-- The record joins the back of the Event Queue; a full queue loses its oldest record and sets GAP (R184). -/
def Clp.postEvent (c : Clp) (e : Event) : Clp :=
  if c.events.length < Config.eventQueueCapacity then { c with events := c.events ++ [e] }
  else { c with events := c.events.drop 1 ++ [e], gap := true }

/-- A block posts an event bearing the present line time (R184). -/
def State.post (s : State) (kind : EventKind) (subject : Subject) (pallet : Option Nat)
    (detail : Detail) : State :=
  s.modClp (·.postEvent { kind := kind, time := s.clock, subject := subject, pallet := pallet,
                          detail := detail })

def Subject.line : Subject := { kind := .line, number := 0 }
def Subject.segment (k : Nat) : Subject := { kind := .segment, number := k }
def Subject.station (n : Nat) : Subject := { kind := .station, number := n }
def Subject.conveyor (c : ConvId) : Subject := { kind := .conveyor, number := c.number }
def Subject.hpu : Subject := { kind := .hpu, number := 0 }
def Subject.verify : Subject := { kind := .verify, number := 0 }
def Subject.reader : Subject := { kind := .reader, number := 0 }

/-! ## Node commands -/

/-- The command pending at the node of address `a` (R166). -/
def State.pendingAt (s : State) (a : Nat) : Option CmdCode :=
  (s.node a).bind fun n => n.pending.map (·.code)

/-- An owner posts a command: it is pending with no transmitted toggle (R166). -/
def State.postCmd (s : State) (a : Nat) (code : CmdCode) (args : List Byte) : State :=
  s.modNode a fun n => { n with pending := some { code := code, args := args, sent := none } }

/-- A replacing command, RETRACT or FEEDHOLD, takes the place of an undelivered one unless that has the
same code (R168). -/
def State.replaceCmd (s : State) (a : Nat) (code : CmdCode) : State :=
  if s.pendingAt a = some code then s else s.postCmd a code []

/-- The command that a replacing command supersedes (R168). -/
def State.supersededBy (s : State) (a : Nat) (code : CmdCode) : Option CmdCode :=
  if s.pendingAt a = some code then none else s.pendingAt a

/-- The command SQS has waiting at station n's node. -/
def State.stationPending (s : State) (n : Nat) : Option CmdCode :=
  match s.stationCfg n with
  | some r => s.pendingAt r.node
  | none => none

/-- The address of station n's node. -/
def State.stationNode (s : State) (n : Nat) : Nat :=
  match s.stationCfg n with
  | some r => r.node
  | none => 0

/-- The command SC has waiting at segment k's drive. -/
def State.drivePending (s : State) (k : Nat) : Option CmdCode := s.pendingAt (s.segCfg k).nodeDrive

/-- SC posts a command to segment k's drive. -/
def State.postDrive (s : State) (k : Nat) (code : CmdCode) : State :=
  s.postCmd (s.segCfg k).nodeDrive code []

end Sys2Proof.Machine
end

