-- ==== Sys2Proof/Machine/MapOps.lean ====
section
/-! DEFINITION. The Tracking Unit's tables: reading the Nest Map, placements (R18, R23), counters (R19)
and the results of station jobs (R21). -/

namespace Sys2Proof.Machine

/-! ## Reading the map -/

def State.segMap (s : State) (k : Nat) : SegMap :=
  (tableGet k s.trk.segs).getD { nests := [], certainty := .certain, openIndex := none }

def State.modSegMap (s : State) (k : Nat) (f : SegMap → SegMap) : State :=
  { s with trk := { s.trk with segs := tableModify k f s.trk.segs } }

def State.nests (s : State) (k : Nat) : List (Option Nat) := (s.segMap k).nests

/-- The occupant of nest Nj of segment k. -/
def State.occupant (s : State) (k j : Nat) : Option Nat := ((s.nests k)[j - 1]?).getD none

/-- The occupant of the exit nest of segment k. -/
def State.exitPallet (s : State) (k : Nat) : Option Nat := (s.nests k).getLast?.getD none

/-- How many nests are occupied. -/
def occupied (l : List (Option Nat)) : Nat := (l.filter Option.isSome).length

def State.certain (s : State) (k : Nat) : Bool := (s.segMap k).certainty = .certain

/-- The entry list of a conveyor, head first. -/
def State.list (s : State) (c : ConvId) : List Entry := (tableGet c s.trk.lists).getD []

def State.setList (s : State) (c : ConvId) (l : List Entry) : State :=
  { s with trk := { s.trk with lists := tableModify c (fun _ => l) s.trk.lists } }

/-- The pallet of an ARRIVED head entry. -/
def State.arrivedHead (s : State) (c : ConvId) : Option Nat :=
  match s.list c with
  | [] => none
  | e :: _ => if e.state = .arrived then some e.pallet else none

/-- The oldest IN_TRANSIT entry of a list. -/
def oldestInTransit : List Entry → Option Entry
  | [] => none
  | e :: rest => if e.state = .inTransit then some e else oldestInTransit rest

/-! ## Placement (R18, R23) -/

/-- The index of pallet `id` in a list of occupants. -/
def occupantIndex (id : Nat) : List (Option Nat) → Option Nat
  | [] => none
  | o :: rest => if o = some id then some 0 else (occupantIndex id rest).map (· + 1)

/-- The index from the head of the entry of pallet `id`. -/
def entryIndex (id : Nat) : List Entry → Option Nat
  | [] => none
  | e :: rest => if e.pallet = id then some 0 else (entryIndex id rest).map (· + 1)

/-- Where a pallet stands: a nest of a segment (numbered from 1) or an entry of a conveyor (numbered from
0 at the head). -/
inductive PlaceRef where
  | nest (k j : Nat)
  | entry (c : ConvId) (i : Nat)
  deriving DecidableEq, Repr

def findNest (id : Nat) : List (Nat × SegMap) → Option PlaceRef
  | [] => none
  | (k, m) :: rest =>
    match occupantIndex id m.nests with
    | some i => some (.nest k (i + 1))
    | none => findNest id rest

def findEntry (id : Nat) : List (ConvId × List Entry) → Option PlaceRef
  | [] => none
  | (c, l) :: rest =>
    match entryIndex id l with
    | some i => some (.entry c i)
    | none => findEntry id rest

/-- The place of a pallet in the Nest Map. -/
def State.findPallet (s : State) (id : Nat) : Option PlaceRef :=
  match findNest id s.trk.segs with
  | some r => some r
  | none => findEntry id s.trk.lists

def State.segFirst (s : State) (k : Nat) : Nat :=
  match s.cfg.derived with
  | some d => ((tableGet k d.segRuns).getD (0, 0)).1
  | none => 0

def State.convRun (s : State) (c : ConvId) : Nat × Nat :=
  match s.cfg.derived with
  | some d => (tableGet c d.convRuns).getD (0, 0)
  | none => (0, 0)

/-- The loop position at which a place is shown: nests in nest order, a conveyor's run filled from its
head stop backwards (R8, R23). -/
def State.positionOf (s : State) : PlaceRef → Nat
  | .nest k j => s.segFirst k + (j - 1)
  | .entry c i => (s.convRun c).1 + (s.convRun c).2 - 1 - i

/-- The placement the map gives a pallet (R18). -/
def State.placementInMap (s : State) (id : Nat) : Option Nat := (s.findPallet id).map s.positionOf

/-- Every record's placement set to what the map gives it, in the event that changes the map (R18). -/
def State.syncPlacements (s : State) : State :=
  { s with trk := { s.trk with
      pallets := s.trk.pallets.map fun p => (p.1, { p.2 with placement := s.placementInMap p.1 }) } }

/-- Every loop position with the place it shows, read from a position (R36). -/
def findRun (pos : Nat) : List (Nat × Nat × Nat) → Option (Nat × Nat)
  | [] => none
  | (k, first, len) :: rest =>
    if first ≤ pos && pos < first + len then some (k, pos - first + 1) else findRun pos rest

def findConvRun (pos : Nat) : List (ConvId × Nat × Nat) → Option (ConvId × Nat)
  | [] => none
  | (c, first, len) :: rest =>
    if first ≤ pos && pos < first + len then some (c, first + len - 1 - pos) else findConvRun pos rest

/-- The place at a loop position; for a conveyor, the entry index whose pallet it would show. -/
def State.placeAt (s : State) (pos : Nat) : Option PlaceRef :=
  match s.cfg.derived with
  | none => none
  | some d =>
    match findRun pos d.segRuns with
    | some (k, j) => some (.nest k j)
    | none => (findConvRun pos d.convRuns).map fun (c, i) => .entry c i

/-- P of the configuration in service, 0 in CONFIG (R9, R182). -/
def State.loopCount (s : State) : Nat :=
  match s.cfg.derived with
  | some d => d.p
  | none => 0

/-! ## Counters (R19) -/

/-- Index count, saturating at 65535. -/
def Pallet.countIndex (p : Pallet) : Pallet := { p with indexCount := min 65535 (p.indexCount + 1) }

/-- Laps since verification, saturating at 255. -/
def Pallet.countLap (p : Pallet) : Pallet := { p with laps := min 255 (p.laps + 1) }

def State.countIndex (s : State) (id : Nat) : State := s.modPallet id Pallet.countIndex

def State.countLap (s : State) (id : Nat) : State := s.modPallet id Pallet.countLap

/-! ## Results of station jobs (R21) -/

/-- The station's MASK contains the variant. -/
def maskHas (mask : BitVec 4) (v : Variant) : Bool := mask.getLsbD v.code

/-- A change to the workpiece of a pallet; a result for a pallet without a workpiece is discarded. -/
def State.modWorkpiece (s : State) (id : Nat) (f : Workpiece → Workpiece) : State :=
  s.modPallet id fun p => { p with workpiece := p.workpiece.map f }

/-- op done: the station joins ops-done when it is a MACHINE station whose MASK has the pallet's variant. -/
def State.trkOpDone (s : State) (n id : Nat) : State :=
  match s.stationCfg n, s.pallet id with
  | some r, some p =>
    if r.kind = .machine && maskHas r.mask p.variant then
      s.modWorkpiece id fun w => { w with opsDone := setInsert n w.opsDone }
    else s
  | _, _ => s

/-- op missed: the station joins ops-missed. -/
def State.trkOpMissed (s : State) (n id : Nat) : State :=
  s.modWorkpiece id fun w => { w with opsMissed := setInsert n w.opsMissed }

/-- A defect joins the list, or sets more-defects when the list holds 4. -/
def Workpiece.addDefect (w : Workpiece) (d : Defect) : Workpiece :=
  if w.defects.length < Config.defectCapacity then { w with defects := w.defects ++ [d] }
  else { w with moreDefects := true }

def State.trkDefect (s : State) (n id : Nat) (cause : DefectCause) (ms : Nat) : State :=
  s.modWorkpiece id fun w => w.addDefect { station := n, cause := cause, elapsed := ms }

/-- A workpiece is rejected when it has a defect or more-defects is YES (R131). -/
def Workpiece.rejected (w : Workpiece) : Bool := !w.defects.isEmpty || w.moreDefects

/-! ## The disposition of a pallet by a shift (R27) -/

/-- The list with its IN_TRANSIT entries' entry times set to `t` (R29). -/
def restampInTransit (t : LineTime) (l : List Entry) : List Entry :=
  l.map fun e => if e.state = .inTransit then { e with entryTime := t } else e

/-- The `n` oldest IN_TRANSIT entries become ARRIVED (R30). -/
def creditOldest : Nat → List Entry → List Entry
  | 0, l => l
  | _, [] => []
  | n + 1, e :: rest =>
    if e.state = .inTransit then { e with state := .arrived } :: creditOldest n rest
    else e :: creditOldest (n + 1) rest

/-- The list without the entry of pallet `id`, the order of the rest kept (R31). -/
def removeEntry (id : Nat) : List Entry → List Entry
  | [] => []
  | e :: rest => if e.pallet = id then rest else e :: removeEntry id rest

/-- The occupants with pallet `id` taken out. -/
def clearOccupant (id : Nat) (l : List (Option Nat)) : List (Option Nat) :=
  l.map fun o => if o = some id then none else o

/-- The occupants with `o` in nest Nj. -/
def setOccupant (j : Nat) (o : Option Nat) (l : List (Option Nat)) : List (Option Nat) :=
  l.set (j - 1) o

end Sys2Proof.Machine
end

