-- ==== Sys2Proof/Machine/Drive.lean ====
section
/-! DEFINITION. How a Segment Controller puts commands to its drive: at most one pending, the others
owed, and the owed ones posted in a fixed order (R72, R84, R85, R88). -/

namespace Sys2Proof.Machine

/-- The owed record with the flag of a phase command, RETURN, RESUME or RELEASE_ALL set to `b`. -/
def Owed.set (o : Owed) (code : CmdCode) (b : Bool) : Owed :=
  match code with
  | .lift => { o with lift := b }
  | .advance => { o with advance := b }
  | .lower => { o with lower := b }
  | .ret => { o with ret := b }
  | .resume => { o with resume := b }
  | .releaseAll => { o with releaseAll := b }
  | _ => o

/-- Nothing owed. -/
def Owed.nothing : Owed :=
  { lift := false, advance := false, lower := false, ret := false, resume := false,
    releaseAll := false }

/-- The owed phase command or RETURN, if any. -/
def Owed.phase (o : Owed) : Option CmdCode :=
  if o.lift then some .lift else if o.advance then some .advance
  else if o.lower then some .lower else if o.ret then some .ret else none

/-- A phase command or RETURN. -/
def CmdCode.isPhase : CmdCode → Bool
  | .lift | .advance | .lower | .ret => true
  | _ => false

def State.owe (s : State) (k : Nat) (code : CmdCode) : State :=
  s.modSeg k fun g => { g with owed := g.owed.set code true }

/-- SC needs a command at its drive: posted when nothing is pending, otherwise owed (R72); a phase
command or RETURN is owed as well while the hold status is not NONE (R82, R86). -/
def State.needDrive (s : State) (k : Nat) (code : CmdCode) : State :=
  if (s.drivePending k).isSome || (code.isPhase && (s.seg k).hold ≠ .none) then s.owe k code
  else s.postDrive k code

/-- The owed command that may be posted next: RESUME, then the phase command or RETURN once no hold
stands, then RELEASE_ALL (R72); DEDUCED for the last under a hold, log entry 17. -/
def Segment.nextOwed (g : Segment) : Option CmdCode :=
  if g.owed.resume then some .resume
  else
    match (if g.hold = .none then g.owed.phase else none) with
    | some c => some c
    | none => if g.owed.releaseAll then some .releaseAll else none

/-- After an outcome of the pending command SC posts the next owed command (R72); not in HALT, where
owed commands are dropped (R95). -/
def State.postOwed (s : State) (k : Nat) : State :=
  if (s.drivePending k).isSome || s.lsv.lineState = .halt then s
  else
    match (s.seg k).nextOwed with
    | some c => (s.modSeg k fun g => { g with owed := g.owed.set c false }).postDrive k c
    | none => s

/-- SQS tells SC that the common release is due (R88). -/
def State.scReleaseAllDue (s : State) (k : Nat) : State := s.needDrive k .releaseAll

end Sys2Proof.Machine
end

