-- ==== Sys2Proof/Machine/Admission.lean ====
section
/-! DEFINITION. The Admission Arbiter: the Reserve Model (R97), demand and conditions (R101 to R105),
evaluation (R109), admission (R110), enqueue (R106) and withdrawal (R111). -/

namespace Sys2Proof.Machine

/-! ## The Reserve Model -/

/-- An update of the Reserve Model at line time `now` (R97). -/
def Ada.update (a : Ada) (l : LineRecord) (now : LineTime) : Ada :=
  let e := min (elapsed a.tLast now) Config.reserveElapsedLimit
  if a.pump && !a.alarm then
    let total := l.q * e + a.c
    if l.cap ≤ a.r + total / 1000 then { a with r := l.cap, c := 0, tLast := now }
    else { a with r := a.r + total / 1000, c := total % 1000, tLast := now }
  else { a with tLast := now }

/-- Entries of H on which T_window or more has elapsed are removed (R103, R109 step 2). -/
def Ada.prune (a : Ada) (l : LineRecord) (now : LineTime) : Ada :=
  { a with h := a.h.filter fun x => elapsed x now < l.tWindow }

/-- The demand of a request (R101). -/
def demandOf (r : SegmentRecord) (n : Nat) : Nat := r.l + r.k * n

/-! ## The four conditions (R101, R103, R104) -/

def Ada.reserveHolds (a : Ada) (l : LineRecord) (q : AdaRequest) : Bool :=
  !a.alarm && q.demand + l.f ≤ a.r

def Ada.windowHolds (a : Ada) (l : LineRecord) : Bool := a.h.length < l.wMax

def Ada.staggerHolds (a : Ada) (l : LineRecord) (now : LineTime) : Bool :=
  match a.lastAny with
  | none => true
  | some x => l.tStagger ≤ elapsed x now

def Ada.periodHolds (a : Ada) (tIndexMin seg : Nat) (now : LineTime) : Bool :=
  match tableGet seg a.lastSeg with
  | none => true
  | some x => tIndexMin ≤ elapsed x now

/-- A request is admitted only in RUN and, in STEP mode, only with its segment's permit set (R109 step 3). -/
def State.admissionOpen (s : State) (k : Nat) : Bool :=
  s.lsv.lineState = .run && (s.lsv.mode = .auto || s.permit k)

/-- All four conditions hold and the line lets the request in. -/
def State.admissible (s : State) (q : AdaRequest) : Bool :=
  s.admissionOpen q.segment && s.ada.reserveHolds s.cfg.line q && s.ada.windowHolds s.cfg.line
    && s.ada.staggerHolds s.cfg.line s.clock
    && s.ada.periodHolds (s.segCfg q.segment).tIndexMin q.segment s.clock

/-- The scan in queue order: the first admissible request, but an URGENT request that fails ends the
scan (R109 step 3). -/
def State.scanQueue (s : State) : List AdaRequest → Option AdaRequest
  | [] => none
  | q :: rest =>
    if s.admissible q then some q
    else if q.cls = .urgent then none
    else s.scanQueue rest

/-! ## Earliest times (R102 to R105, R112), as ms from the evaluation -/

/-- Ms until the reserve condition holds, none while nothing grows (R102). -/
def Ada.reserveWait (a : Ada) (l : LineRecord) (q : AdaRequest) : Option Nat :=
  if a.reserveHolds l q then some 0
  else if !a.pump || a.alarm then none
  else some (((q.demand + l.f - a.r) * 1000 - a.c + l.q - 1) / l.q)

def Ada.windowWait (a : Ada) (l : LineRecord) (now : LineTime) : Nat :=
  if a.windowHolds l then 0
  else
    match a.h with
    | [] => 0
    | x :: _ => l.tWindow - elapsed x now

def Ada.staggerWait (a : Ada) (l : LineRecord) (now : LineTime) : Nat :=
  match a.lastAny with
  | none => 0
  | some x => l.tStagger - elapsed x now

def Ada.periodWait (a : Ada) (tIndexMin seg : Nat) (now : LineTime) : Nat :=
  match tableGet seg a.lastSeg with
  | none => 0
  | some x => tIndexMin - elapsed x now

/-- Ms until the earliest admission time of a request, or none (R105). -/
def State.admissionWait (s : State) (q : AdaRequest) : Option Nat :=
  (s.ada.reserveWait s.cfg.line q).map fun w =>
    max (max w (s.ada.windowWait s.cfg.line s.clock))
      (max (s.ada.staggerWait s.cfg.line s.clock)
        (s.ada.periodWait (s.segCfg q.segment).tIndexMin q.segment s.clock))

/-- The requests from the head up to and including the first URGENT one (R112). -/
def considered : List AdaRequest → List AdaRequest
  | [] => []
  | q :: rest => if q.cls = .urgent then [q] else q :: considered rest

/-- The smallest of the waits that exist. -/
def leastWait : List (Option Nat) → Option Nat
  | [] => none
  | none :: rest => leastWait rest
  | some w :: rest =>
    match leastWait rest with
    | none => some w
    | some w' => some (min w w')

/-- The end of an evaluation that admits nothing: earliest admission times and the evaluation timer
(R105, R112). -/
def State.adaSettle (s : State) : State :=
  s.modAda fun a =>
    { a with
      queue := a.queue.map fun q =>
        { q with earliest := (s.admissionWait q).map fun w => s.clock + BitVec.ofNat 32 w },
      evalTimer := (leastWait ((considered a.queue).map s.admissionWait)).map s.timerFor }

/-! ## Admission (R110, R80) -/

/-- CVT marks the reservation that segment k holds on a conveyor CARRIED (R117). -/
def carryReservation (k : Nat) (l : List Reservation) : List Reservation :=
  l.map fun r => if r.holder = .segment k && r.status = .held then { r with status := .carried } else r

def State.cvtCarry (s : State) (k : Nat) (dest : Option ConvId) : State :=
  match dest with
  | some c => s.modConv c fun v => { v with reservations := carryReservation k v.reservations }
  | none => s

/-- The destination of a segment's held room. -/
def Room.heldDest : Room → Option ConvId
  | .held c => Option.some c
  | _ => Option.none

/-- The open index that an admission hands to the Tracking Unit (R26, R80 step 2). -/
def State.indexToOpen (s : State) (k : Nat) : OpenIndex :=
  { entry := match (s.seg k).queued with
      | some q => if q.entryTaken then s.arrivedHead (upstreamOf k) else none
      | none => none,
    exit := s.exitPallet k,
    dest := (s.exitPallet k).bind fun _ => (s.seg k).room.heldDest }

/-- What SC does when ADA admits its segment (R80). -/
def State.scAdmitted (s : State) (k : Nat) : State :=
  let oi := s.indexToOpen k
  let s1 := s.modSegMap k fun m => { m with openIndex := some oi }
  let s2 := s1.cvtCarry k oi.dest
  let s3 := s2.modSeg k fun g =>
    { g with queued := none, indexNumber := (g.indexNumber + 1) % 65536, room := .none,
             motion := .atRest, state := .lift, phase := .stopped }
  s3.needDrive k .lift

/-- Removes segment k's request, stopping its urgency timer. -/
def dropRequest (k : Nat) (l : List AdaRequest) : List AdaRequest :=
  l.filter fun q => q.segment ≠ k

/-- An admission at the present line time (R110). -/
def State.adaAdmit (s : State) (q : AdaRequest) : State :=
  (s.modAda fun a =>
    { a with r := a.r - q.demand, h := a.h ++ [s.clock], lastAny := some s.clock,
             lastSeg := tableInsert q.segment s.clock a.lastSeg,
             queue := dropRequest q.segment a.queue }).scAdmitted q.segment

/-- Steps 1 and 2 of an evaluation: the update and the pruning of H (R109). -/
def State.adaRefresh (s : State) : State :=
  s.modAda fun a => (a.update s.cfg.line s.clock).prune s.cfg.line s.clock

/-- With T_stagger of 0, last_any is none from the instant after an admission has been taken (R104). -/
def State.staggerPassed (s : State) : State :=
  if s.cfg.line.tStagger = 0 then s.modAda fun a => { a with lastAny := none } else s

/-- Evaluations at one instant: each admission is itself an evaluation instant (R109 step 4). The first
argument bounds the admissions by the length of the queue. -/
def State.adaRounds : Nat → State → State
  | 0, s => s.adaRefresh.adaSettle
  | n + 1, s =>
    let s1 := s.adaRefresh
    match s1.scanQueue s1.ada.queue with
    | some q => (State.adaRounds n (s1.adaAdmit q)).staggerPassed
    | none => s1.adaSettle

/-- ADA evaluates the admission queue (R109). -/
def State.adaEvaluate (s : State) : State := State.adaRounds s.ada.queue.length s

/-- An enqueue: the request joins as NORMAL behind every request, and ADA evaluates (R106). -/
def State.adaEnqueue (s : State) (k : Nat) (entryTaken : Bool) (n : Nat) : State :=
  (s.modAda fun a =>
    { a with queue := a.queue ++
        [{ segment := k, entryTaken := entryTaken, n := n, demand := demandOf (s.segCfg k) n,
           enqueued := s.clock, cls := .normal, urgency := some (s.timerFor s.cfg.line.tUrgent),
           earliest := none }] }).adaEvaluate

/-- A withdrawal, which is an evaluation instant (R111). -/
def State.adaWithdraw (s : State) (k : Nat) : State :=
  (s.modAda fun a => { a with queue := dropRequest k a.queue }).adaEvaluate

end Sys2Proof.Machine
end

