-- ==== Sys2Proof/Machine/Flow.lean ====
section
/-! DEFINITION. The way of a segment from WORK to QUEUED and back: feed and enqueue (R77, R78), room and
its grants (R115 to R117, R125), the divert choice (R137, R138), the readiness test (R73 to R76) and
withdrawal (R79). -/

namespace Sys2Proof.Machine

/-! ## Feed and enqueue -/

/-- SC enqueues with the entry taken or not (R78). -/
def State.scEnqueue (s : State) (k : Nat) (entryTaken : Bool) : State :=
  let n := occupied (s.nests k) - (if (s.exitPallet k).isSome then 1 else 0)
    + (if entryTaken then 1 else 0)
  (s.modSeg k fun g =>
    { g with state := .queued, feedWait := none,
             queued := some { entryTaken := entryTaken, n := n, enqueued := s.clock } }).adaEnqueue
    k entryTaken n

/-- SC settles the feed once conditions 1 to 7 hold (R77). -/
def State.scFeed (s : State) (k : Nat) : State :=
  match s.arrivedHead (upstreamOf k) with
  | some _ => s.scEnqueue k true
  | none =>
    if (s.segCfg k).tFeedWait = 0 then s.scEnqueue k false
    else if (s.seg k).feedWait.isNone then
      s.modSeg k fun g => { g with feedWait := some (s.timerFor (s.segCfg k).tFeedWait) }
    else s

def State.stopFeed (s : State) (k : Nat) : State := s.modSeg k fun g => { g with feedWait := none }

/-! ## Room -/

/-- Entries plus reservations (R115). -/
def State.roomTaken (s : State) (c : ConvId) : Nat :=
  (s.list c).length + (s.conv c).reservations.length

/-- The conveyor is FLOWING with free room of at least 1 (R116). -/
def State.roomOpen (s : State) (c : ConvId) : Bool :=
  (s.conv c).state = .flowing && s.roomTaken c < s.cfg.line.capacity c

/-- CVT tells a Segment Controller that room is held: the room becomes HELD and, in RUN, SC goes on to
the feed (R76, R77). -/
def State.scRoomGranted (s : State) (k : Nat) (c : ConvId) : State :=
  let s1 := s.modSeg k fun g => { g with room := .held c }
  if s.lsv.lineState = .run && (s.seg k).state = .ready then s1.scFeed k else s1

/-- A grant adds a reservation and removes the request (R116). -/
def State.addReservation (s : State) (c : ConvId) (h : Holder) (st : ResStatus) : State :=
  s.modConv c fun v =>
    { v with reservations := v.reservations ++ [{ holder := h, status := st }],
             requests := v.requests.erase h }

def State.grantSegment (s : State) (c : ConvId) (k : Nat) : State :=
  (s.addReservation c (.segment k) .held).scRoomGranted k c

/-- A SPUR grant: the reservation is RELEASING and RELEASE goes to the spur node (R127). -/
def State.grantSpur (s : State) : State :=
  (s.addReservation .rc .spur .releasing).postCmd s.cfg.line.nodeVs .release []

/-- A grant pass over a buffer or VS, whose requesters are Segment Controllers (R116). -/
def State.grantRounds (c : ConvId) : Nat → State → State
  | 0, s => s
  | n + 1, s =>
    match (s.conv c).requests with
    | .segment k :: _ => if s.roomOpen c then State.grantRounds c n (s.grantSegment c k) else s
    | _ => s

/-- The LINE request that waits on RC. -/
def lineRequest : List Holder → Option Nat
  | [] => none
  | .segment k :: _ => some k
  | .spur :: rest => lineRequest rest

/-- A SPUR request waits and is eligible (R126). -/
def State.spurEligible (s : State) : Bool :=
  (s.conv .rc).requests.contains .spur && s.moving && !s.cvt.staleRelease

def State.setPassOver (s : State) (n : Nat) : State := { s with cvt := { s.cvt with passOver := n } }

/-- A pass of the merge arbiter over RC (R125). -/
def State.mergeRounds : Nat → State → State
  | 0, s => s
  | n + 1, s =>
    if s.roomOpen .rc then
      match lineRequest (s.conv .rc).requests, s.spurEligible with
      | some k, true =>
        if s.cvt.passOver < s.cfg.line.m then
          State.mergeRounds n ((s.setPassOver (s.cvt.passOver + 1)).grantSegment .rc k)
        else State.mergeRounds n ((s.setPassOver 0).grantSpur)
      | none, true => State.mergeRounds n ((s.setPassOver 0).grantSpur)
      | some k, false => State.mergeRounds n (s.grantSegment .rc k)
      | none, false => s
    else s

/-- A grant pass over a conveyor; on RC it is the merge arbiter's (R115, R116). -/
def State.grantPass (s : State) (c : ConvId) : State :=
  if c = .rc then State.mergeRounds (s.conv .rc).requests.length s
  else State.grantRounds c (s.conv c).requests.length s

/-- A room request is placed: it joins the back, and a pass grants what can be granted (R116, R125). -/
def State.requestRoom (s : State) (c : ConvId) (h : Holder) : State :=
  (s.modConv c fun v => { v with requests := v.requests ++ [h] }).grantPass c

/-- A requester cancels a waiting request (R116). -/
def State.cancelRequest (s : State) (c : ConvId) (h : Holder) : State :=
  s.modConv c fun v => { v with requests := v.requests.erase h }

def dropReservation (h : Holder) (l : List Reservation) : List Reservation :=
  l.filter fun r => r.holder ≠ h

/-- A reservation record is removed with no pass: consumed at a join, or withdrawn at a jam (R117, R121). -/
def State.removeReservation (s : State) (c : ConvId) (h : Holder) : State :=
  s.modConv c fun v => { v with reservations := dropReservation h v.reservations }

/-- A reservation is released and a grant pass follows (R115, R117). -/
def State.releaseRoom (s : State) (c : ConvId) (h : Holder) : State :=
  (s.removeReservation c h).grantPass c

/-- SC cancels a requested room or releases a held one (R76). -/
def State.giveUpRoom (s : State) (k : Nat) : State :=
  let s1 := s.modSeg k fun g => { g with room := .none }
  match (s.seg k).room with
  | .none => s
  | .requested c => s1.cancelRequest c (.segment k)
  | .held c => s1.releaseRoom c (.segment k)

/-! ## The divert choice -/

/-- The postponement of an exit pallet (R138). -/
def State.postpone (s : State) (id laps : Nat) : State :=
  let s1 := s.modPallet id fun p => { p with overdue := true }
  if s.rtu.note = some id then s1
  else
    (s1.post .verifyPostponed (.segment s.nseg) (some id) (.laps laps)).modRtu fun r =>
      { r with note := some id }

/-- The destination of the last segment's exit pallet (R137). -/
def State.divertDest (s : State) (id : Nat) : ConvId :=
  match s.pallet id with
  | none => .rc
  | some p =>
    if p.laps < s.cfg.line.vLaps then .rc
    else if p.workpiece.isSome then .rc
    else if s.roomOpen .vs then .vs else .rc

/-- The pallet is due and is sent to RC all the same (R137). -/
def State.divertPostponed (s : State) (id : Nat) : Bool :=
  match s.pallet id with
  | none => false
  | some p => s.cfg.line.vLaps ≤ p.laps && s.divertDest id = .rc

/-- The Route Unit answers the divert question (R137, R138). -/
def State.divertChoice (s : State) (id : Nat) : State :=
  if s.divertPostponed id then s.postpone id (((s.pallet id).map (·.laps)).getD 0) else s

/-! ## The readiness test -/

/-- SC seeks room for its exit pallet (R76). -/
def State.seekRoom (s : State) (k id : Nat) : State :=
  let dest := if k < s.nseg then bufferId k else s.divertDest id
  let s1 := if k < s.nseg then s else s.divertChoice id
  (s1.modSeg k fun g => { g with room := .requested dest }).requestRoom dest (.segment k)

/-- Conditions 3 to 6 of the readiness test (R73). -/
def State.readyConditions (s : State) (k : Nat) : Bool :=
  s.certain k && !(s.seg k).held && !(s.seg k).trackHold
    && (s.lsv.mode = .auto || s.permit k)
    && (0 < occupied (s.nests k) || (s.arrivedHead (upstreamOf k)).isSome)

/-- SC tests conditions 3 to 6 of a READY segment and goes on to room and feed, or gives up its room
and stops its feed wait (R75 to R77). A room held for an exit nest that is now EMPTY is given up;
DEDUCED, log entry 22. -/
def State.scTest (s : State) (k : Nat) : State :=
  if s.lsv.lineState = .run && (s.seg k).state = .ready then
    if s.readyConditions k then
      match s.exitPallet k with
      | none => (s.giveUpRoom k).scFeed k
      | some id =>
        match (s.seg k).room with
        | .none => (s.stopFeed k).seekRoom k id
        | .requested _ => s.stopFeed k
        | .held _ => s.scFeed k
    else (s.giveUpRoom k).stopFeed k
  else s

/-- WORK to READY while stations free is YES and the bar is AT_REST, with the test that follows (R74, R75). -/
def State.scMaybeReady (s : State) (k : Nat) : State :=
  if s.moving && (s.seg k).state = .work && (s.seg k).stationsFree && (s.seg k).bar = .atRest then
    (s.modSeg k fun g => { g with state := .ready }).scTest k
  else s

/-- SC withdraws its request (R79): the segment's state becomes `target`, ADA drops the request and
evaluates, and the reservation is released unless CVT has withdrawn it. -/
def State.scWithdraw (s : State) (k : Nat) (target : SegState) (releaseIt : Bool) : State :=
  let s1 := s.modSeg k fun g => { g with state := target, queued := none, room := .none }
  let s2 := s1.adaWithdraw k
  match (s.seg k).room with
  | .held c => if releaseIt then s2.releaseRoom c (.segment k) else s2
  | _ => s2

/-- SQS tells SC whether every station of the segment is free (R48, R74, R79). -/
def State.scStationsFree (s : State) (k : Nat) (free : Bool) : State :=
  let s1 := s.modSeg k fun g => { g with stationsFree := free }
  if free then s1.scMaybeReady k
  else
    match (s.seg k).state with
    | .ready => ((s1.modSeg k fun g => { g with state := .work }).giveUpRoom k).stopFeed k
    | .queued => s1.scWithdraw k .work true
    | _ => s1

end Sys2Proof.Machine
end

