-- ==== Sys2Proof/Machine/Stations.lean ====
section
/-! DEFINITION. The Station Sequencer (chapter 3) with the load and unload completions it hands to the
Route Unit (R134, R135). -/

namespace Sys2Proof.Machine

/-! ## Load and unload completion -/

/-- A new workpiece with the serial drawn (R20). -/
def Workpiece.fresh (serial : Nat) : Workpiece :=
  { serial := serial, opsDone := [], opsMissed := [], defects := [], moreDefects := false,
    holdOver := false }

/-- The serial counter's next value: from 65535 to 1 (R134). -/
def nextSerial (n : Nat) : Nat := if n = 65535 then 1 else n + 1

/-- Completion of a LOAD job (R134). -/
def State.loadDone (s : State) (id : Nat) : State :=
  match s.pallet id with
  | none => s
  | some p =>
    match p.workpiece with
    | some _ => s
    | none =>
      (s.modPallet id fun p => { p with workpiece := some (Workpiece.fresh s.rtu.serial) }).modRtu
        fun r => { r with serial := nextSerial r.serial }

/-- Completion of an UNLOAD job: WORKPIECE_OUT is posted and the workpiece removed (R135). -/
def State.unloadDone (s : State) (n id : Nat) (disposition : Disposition) : State :=
  match s.pallet id with
  | none => s
  | some p =>
    match p.workpiece with
    | none => s
    | some w =>
      (s.post .workpieceOut (.station n) (some id)
        (.workpiece w.serial disposition w.defects.length w.moreDefects)).modPallet id
        fun p => { p with workpiece := none }

/-! ## Conditions over a segment's stations -/

/-- The segment station n stands on. -/
def State.stationSegment (s : State) (n : Nat) : Nat := ((s.stationCfg n).map (·.segment)).getD 0

/-- The stations of segment k. -/
def State.stationsOn (s : State) (k : Nat) : List (Nat × Station) :=
  s.sqs.stations.filter fun p => s.stationSegment p.1 = k

/-- RELEASED or SKIPPED (R48). -/
def Station.free (st : Station) : Bool := st.state = .released || st.state = .skipped

/-- RELEASED, SKIPPED, FAULT or LOCKOUT (R48). -/
def Station.settled (st : Station) : Bool :=
  st.state = .released || st.state = .skipped || st.state = .fault || st.state = .lockout

/-- A segment's stations are all free (R48). -/
def State.allFree (s : State) (k : Nat) : Bool := (s.stationsOn k).all fun p => p.2.free

/-- A station of the segment unclamps under the common timer (R57). -/
def Station.underCommon (st : Station) : Bool :=
  st.state = .unclamping && (match st.timer with
    | some tm => tm.purpose = .common
    | none => false)

/-- The common release of a segment is due (R57); it does not become due in HALT. -/
def State.commonDue (s : State) (k : Nat) : Bool :=
  s.common k = .none && s.lsv.lineState ≠ .halt
    && ((s.stationsOn k).any fun p => p.2.state = .doneHeld)
    && ((s.stationsOn k).all fun p =>
          p.2.state ≠ .clamping && p.2.state ≠ .clamped && p.2.state ≠ .cycle)

/-- What follows a change of a station's state in the same event: the common release ends or becomes due
(R57), and the Segment Controller is told when stations free changes (R48). -/
def State.sqsAfter (s : State) (k : Nat) : State :=
  let s1 :=
    if s.common k = .running && !((s.stationsOn k).any fun p => p.2.underCommon) then
      s.setCommon k .none
    else s
  let s2 := if s1.commonDue k then (s1.setCommon k .requested).scReleaseAllDue k else s1
  if (s2.seg k).stationsFree ≠ s2.allFree k then s2.scStationsFree k (s2.allFree k) else s2

/-! ## Outcomes of a job (R49, section 3.4) -/

/-- How an event ends a job. -/
inductive JobEnd where
  | nothing
  | missed
  | defect (cause : DefectCause) (ms : Nat)
  deriving DecidableEq, Repr

def State.outcomeGiven (s : State) (n : Nat) : State :=
  s.modStation n fun st => { st with outcomeGiven := true }

/-- The job's outcome is handed on, once (R47, R49). A missed LOAD or UNLOAD job is told to the Route
Unit, which does nothing (R136). -/
def State.handOn (s : State) (n : Nat) (e : JobEnd) : State :=
  match (s.station n).job, (s.station n).outcomeGiven, e with
  | some j, false, .missed =>
    (if j.kind = .machine then s.trkOpMissed n j.pallet else s).outcomeGiven n
  | some j, false, .defect cause ms => (s.trkDefect n j.pallet cause ms).outcomeGiven n
  | _, _, _ => s

/-- The result of a CYCLE_DONE, with the SHORT_CYCLE defect when the cycle was short: for LOAD the
completion first, for UNLOAD last (R49, R53, R54). -/
def State.handOnDone (s : State) (n : Nat) (short : Option Nat) : State :=
  match (s.station n).job with
  | none => s
  | some j =>
    let results := fun (x : State) =>
      match short with
      | some ms => (x.trkOpDone n j.pallet).trkDefect n j.pallet .shortCycle ms
      | none => x.trkOpDone n j.pallet
    (match j.kind with
      | .machine => results s
      | .load => results (s.loadDone j.pallet)
      | .unload => (results s).unloadDone n j.pallet (j.disposition.getD .good)).outcomeGiven n

/-- Ms since START was delivered. -/
def State.cycleElapsed (s : State) (n : Nat) : Nat :=
  match (s.station n).startTime with
  | some x => elapsed x s.clock
  | none => 0

/-! ## Changes of state -/

/-- Entry into FAULT (R47). A station already in FAULT keeps its first cause. -/
def State.stationFault (s : State) (n : Nat) (cause : StationCause) (e : JobEnd) : State :=
  if (s.station n).state = .fault then s
  else
    let s1 := s.modStation n fun st =>
      { st with state := .fault, timer := none, cause := some cause }
    let s2 := s1.post .stationFault (.station n) ((s.station n).job.map (·.pallet))
      (.stationCause cause)
    s2.handOn n e

/-- A station comes to RELEASED, LOCKOUT or SKIPPED with nothing in hand; DESIGN CHOICE for outcome given
and start time, log entry 20. -/
def Station.idleIn (st : Station) (to' : StationState) : Station :=
  { st with state := to', job := none, outcomeGiven := false, startTime := none, timer := none,
            cause := none, clearPending := false }

def State.stationIdle (s : State) (n : Nat) (to' : StationState) : State :=
  s.modStation n fun st => st.idleIn to'

def State.stationTimer (s : State) (purpose : TimerPurpose) (limit : Nat) : StationTimer :=
  { purpose := purpose, timer := s.timerFor limit }

/-- UNCLAMP is posted and the station unclamps under its own timer (R51, R53, R63, R66, R67). -/
def State.stationUnclamp (s : State) (n tUnclampMax : Nat) : State :=
  (s.postCmd (s.stationNode n) .unclamp []).modStation n fun st =>
    { st with state := .unclamping, timer := some (s.stationTimer .unclamp tUnclampMax),
              cause := none, clearPending := false }

/-- RETRACT is posted; a START it supersedes ends the job as missed unless its outcome has been given
(R61, R168). -/
def State.stationRetract (s : State) (n : Nat) : State :=
  let s1 := s.replaceCmd (s.stationNode n) .retract
  if s.supersededBy (s.stationNode n) .retract = some .start then s1.handOn n .missed else s1

/-! ## Jobs -/

/-- START's arguments: variant, job kind and, for UNLOAD, the disposition (R173). -/
def Job.startArgs (j : Job) : List Byte :=
  [byteOf j.variant.code, byteOf j.kind.code]
    ++ (if j.kind = .unload then [byteOf (j.disposition.getD .good).code] else [])

/-- SQS takes a job (R49). A WORK job cannot meet a busy station; DESIGN CHOICE, log entry 19. -/
def State.sqsJob (s : State) (n : Nat) (o : JobOrder) : State :=
  match o with
  | .pass => s
  | .miss id => s.trkOpMissed n id
  | .work j =>
    match (s.station n).state, s.stationCfg n with
    | .released, some r =>
      (((s.modStation n fun st =>
        { st with state := .clamping, job := some j, outcomeGiven := false, startTime := none,
                  timer := some (s.stationTimer .clamp r.tClampMax) }).postCmd
        r.node .clamp []).sqsAfter r.segment)
    | .lockout, _ | .fault, _ | .skipped, _ =>
      if j.kind = .machine then s.trkOpMissed n j.pallet else s
    | _, _ => s

/-- The settle check of R51 on the pallet as the Tracking Unit then holds it. -/
def State.settleCheck (s : State) (r : StationRecord) (j : Job) : Bool :=
  s.occupant r.segment r.nest = some j.pallet &&
  match s.pallet j.pallet with
  | none => false
  | some p =>
    match j.kind with
    | .machine => p.workpiece.isSome && maskHas r.mask p.variant
    | .load => p.workpiece.isNone && p.service = .inService
    | .unload => p.workpiece.isSome

/-- The settle timer of a CLAMPED station expires (R51). -/
def State.settleExpires (s : State) (n : Nat) : State :=
  match s.stationCfg n, (s.station n).job with
  | some r, some j =>
    if s.settleCheck r j then
      (s.modStation n fun st => { st with timer := none }).postCmd r.node .start j.startArgs
    else ((s.handOn n .missed).stationUnclamp n r.tUnclampMax).sqsAfter r.segment
  | _, _ => s

/-! ## Reports (R50, R53, R56, R58, R67) -/

/-- CLAMPED in CLAMPING once CLAMP has been delivered (R50). -/
def State.stationClamped (s : State) (n : Nat) (r : StationRecord) : State :=
  let s1 := s.modStation n fun st =>
    { st with state := .clamped, timer := some (s.stationTimer .settle r.tSettle) }
  if r.tSettle = 0 then s1.settleExpires n else s1

/-- CYCLE_DONE in CYCLE (R53, R54); DESIGN CHOICE for WORKPIECE_OUT before SHORT_CYCLE at a short UNLOAD cycle,
log entry 36. -/
def State.stationCycleDone (s : State) (n : Nat) (r : StationRecord) : State :=
  let e := s.cycleElapsed n
  let short := if e < r.tCycleMin then some e else none
  let s1 := (s.modStation n fun st => { st with timer := none }).handOnDone n short
  let s2 :=
    if e < r.tCycleMin then
      s1.post .shortCycle (.station n) ((s.station n).job.map (·.pallet)) (.duration e)
    else s1
  (if r.autoRelease then s2.stationUnclamp n r.tUnclampMax
    else s2.modStation n fun st => { st with state := .doneHeld }).sqsAfter r.segment

/-- A report during a clear, after RESET_FAULT has been delivered (R67). -/
def State.stationClearReport (s : State) (n : Nat) (r : StationRecord) (rep : StationReport) : State :=
  if (s.station n).clearPending && s.stationPending n ≠ some .resetFault then
    match rep with
    | .unclamped => (s.stationIdle n .released).sqsAfter r.segment
    | .lockout => (s.stationIdle n .lockout).sqsAfter r.segment
    | .clamped | .cycleDone => (s.stationUnclamp n r.tUnclampMax).sqsAfter r.segment
    | .fault | .cycling => s
  else s

/-- A fault entry by R58's table; from CLAMPING, CLAMPED and CYCLE with RETRACT posted (note 3). -/
def State.reportFault (s : State) (n : Nat) (r : StationRecord) (cause : StationCause) (e : JobEnd)
    (retract : Bool) : State :=
  let s1 := s.stationFault n cause e
  (if retract then s1.stationRetract n else s1).sqsAfter r.segment

/-- FAULT and LOCKOUT reports give NODE_FAULT, the others NODE_STATE (R58). -/
def StationReport.faultCause : StationReport → StationCause
  | .fault | .lockout => .nodeFault
  | _ => .nodeState

/-- A report in RELEASED (R58, R59). -/
def State.reportInReleased (s : State) (n : Nat) (r : StationRecord) (rep : StationReport) : State :=
  match rep with
  | .unclamped => s
  | .lockout => (s.stationIdle n .lockout).sqsAfter r.segment
  | _ => s.reportFault n r rep.faultCause .nothing false

/-- A report in CLAMPING (R50, R58). -/
def State.reportInClamping (s : State) (n : Nat) (r : StationRecord) (rep : StationReport) : State :=
  match rep with
  | .unclamped => s
  | .clamped => if s.stationPending n = some .clamp then s else s.stationClamped n r
  | _ => s.reportFault n r rep.faultCause .missed true

/-- A report in CLAMPED (R52, R58). -/
def State.reportInClamped (s : State) (n : Nat) (r : StationRecord) (rep : StationReport) : State :=
  match rep with
  | .clamped => s
  | _ => s.reportFault n r rep.faultCause .missed true

/-- A report in CYCLE (R53, R58). -/
def State.reportInCycle (s : State) (n : Nat) (r : StationRecord) (rep : StationReport) : State :=
  match rep with
  | .clamped | .cycling => s
  | .cycleDone => s.stationCycleDone n r
  | _ => s.reportFault n r rep.faultCause (.defect .stationFault (s.cycleElapsed n)) true

/-- A report in DONE_HELD (R57, R58). -/
def State.reportInDoneHeld (s : State) (n : Nat) (r : StationRecord) (rep : StationReport) : State :=
  match rep with
  | .unclamped =>
    if s.common r.segment = .requested then (s.stationIdle n .released).sqsAfter r.segment
    else s.reportFault n r .nodeState .nothing false
  | .fault | .lockout => s.reportFault n r .nodeFault .nothing false
  | _ => s

/-- A report in UNCLAMPING (R56, R58). -/
def State.reportInUnclamping (s : State) (n : Nat) (r : StationRecord) (rep : StationReport) : State :=
  match rep with
  | .unclamped =>
    if (s.stationPending n).isSome then s else (s.stationIdle n .released).sqsAfter r.segment
  | .fault | .lockout => s.reportFault n r .nodeFault .nothing false
  | _ => s

/-- A report in LOCKOUT (R58, R59). -/
def State.reportInLockout (s : State) (n : Nat) (r : StationRecord) (rep : StationReport) : State :=
  match rep with
  | .unclamped => (s.stationIdle n .released).sqsAfter r.segment
  | .lockout => s
  | _ => s.reportFault n r rep.faultCause .nothing false

/-- What a station report does besides being stored, by the station's state (R58). -/
def State.actOnStationReport (s : State) (n : Nat) (r : StationRecord) (rep : StationReport) : State :=
  match (s.station n).state with
  | .released => s.reportInReleased n r rep
  | .clamping => s.reportInClamping n r rep
  | .clamped => s.reportInClamped n r rep
  | .cycle => s.reportInCycle n r rep
  | .doneHeld => s.reportInDoneHeld n r rep
  | .unclamping => s.reportInUnclamping n r rep
  | .lockout => s.reportInLockout n r rep
  | .fault => s.stationClearReport n r rep
  | .skipped => s

/-- A station node's report: stored, and in HALT nothing more (R58, R68). -/
def State.sqsReport (s : State) (n : Nat) (rep : StationReport) (faultCode : Nat) : State :=
  let s1 := s.modStation n fun st => { st with report := some (rep, faultCode) }
  match s.stationCfg n with
  | none => s1
  | some r => if s.lsv.lineState = .halt then s1 else s1.actOnStationReport n r rep

/-- The last report is UNCLAMPED. -/
def Station.reportsUnclamped (st : Station) : Bool :=
  match st.report with
  | some (.unclamped, _) => true
  | _ => false

def Station.reportsLockout (st : Station) : Bool :=
  match st.report with
  | some (.lockout, _) => true
  | _ => false

/-! ## Command outcomes -/

/-- A station command is delivered (R52, R56, R63). -/
def State.sqsDelivered (s : State) (n : Nat) (code : CmdCode) : State :=
  match s.stationCfg n with
  | none => s
  | some r =>
    match code, (s.station n).state with
    | .start, .clamped =>
      s.modStation n fun st =>
        { st with state := .cycle, startTime := some s.clock,
                  timer := some (s.stationTimer .cycle r.tCycleMax) }
    | .retract, .unclamping =>
      if (s.station n).reportsUnclamped then (s.stationIdle n .released).sqsAfter r.segment
      else (s.stationUnclamp n r.tUnclampMax).sqsAfter r.segment
    | .unclamp, .unclamping =>
      if (s.station n).reportsUnclamped then (s.stationIdle n .released).sqsAfter r.segment else s
    | _, _ => s

/-- The clear of a station ends without success: the event bears the cause (R67). -/
def State.stationClearFails (s : State) (n : Nat) (cause : StationCause) : State :=
  (s.modStation n fun st => { st with clearPending := false, timer := none }).post .stationFault
    (.station n) ((s.station n).job.map (·.pallet)) (.stationCause cause)

/-- A station command is refused by the node (R61). -/
def State.sqsRefused (s : State) (n : Nat) (code : CmdCode) : State :=
  match s.stationCfg n with
  | none => s
  | some r =>
    match code with
    | .clamp | .start =>
      (s.stationFault n .refused .missed).sqsAfter r.segment
    | .retract | .unclamp => (s.stationFault n .refused .nothing).sqsAfter r.segment
    | .resetFault =>
      if (s.station n).clearPending then s.stationClearFails n .refused else s
    | _ => s

/-- A station's node is LOST (R60, R67). -/
def State.sqsLost (s : State) (n : Nat) : State :=
  let s1 := s.modStation n fun st => { st with node := .lost }
  match s.stationCfg n with
  | none => s1
  | some r =>
    match (s.station n).state with
    | .released | .lockout | .doneHeld | .unclamping => s1.reportFault n r .linkLost .nothing false
    | .clamping | .clamped => s1.reportFault n r .linkLost .missed true
    | .cycle => s1.reportFault n r .linkLost (.defect .linkLost (s.cycleElapsed n)) true
    | .fault =>
      if (s.station n).clearPending then
        (s1.modStation n fun st => { st with cause := some .linkLost }).stationClearFails n .linkLost
      else s1
    | .skipped => s1

/-! ## The common release (R57) -/

/-- RELEASE_ALL delivered: each DONE_HELD station of the segment unclamps under the common timer. -/
def State.commonDelivered (s : State) (k : Nat) : State :=
  let s1 := s.setCommon k .running
  let s2 := forEach (fun p x =>
    if p.2.state = .doneHeld then
      x.modStation p.1 fun st =>
        { st with state := .unclamping,
                  timer := some (s.stationTimer .common (s.segCfg k).tReleaseCommon) }
    else x) (s1.stationsOn k) s1
  s2.sqsAfter k

/-- RELEASE_ALL refused: each DONE_HELD station faults; DESIGN CHOICE for their order, ascending, log entry 33. -/
def State.commonRefused (s : State) (k : Nat) : State :=
  let s1 := s.setCommon k .none
  (forEach (fun p x =>
    if p.2.state = .doneHeld then x.stationFault p.1 .refused .nothing else x)
    (s1.stationsOn k) s1).sqsAfter k

/-- RELEASE_ALL superseded: outside HALT the release becomes due again if its conditions hold. -/
def State.commonSuperseded (s : State) (k : Nat) : State := (s.setCommon k .none).sqsAfter k

/-! ## Line states -/

/-- SQS's part of the entry into HALT at one station (R68). -/
def State.haltStation (s : State) (n : Nat) : State :=
  match (s.station n).state with
  | .clamping | .clamped => (s.stationFault n .estop .missed).stationRetract n
  | .cycle => (s.stationFault n .estop (.defect .estop (s.cycleElapsed n))).stationRetract n
  | .doneHeld | .unclamping => s.stationFault n .estop .nothing
  | .released | .lockout =>
    s.modStation n fun st => { st with state := .fault, cause := some .estop, timer := none }
  | .fault =>
    if (s.station n).clearPending then
      s.modStation n fun st => { st with clearPending := false, timer := none }
    else s
  | .skipped => s

/-- SQS's part of the entry into HALT (R68); DESIGN CHOICE for the order of the stations, ascending, log
entry 33. -/
def State.haltStations (s : State) : State :=
  let s1 := forEach (fun n x => x.haltStation n) s.stationNumbers s
  let s2 := { s1 with sqs := { s1.sqs with common := s1.sqs.common.map fun p => (p.1, .none) } }
  forEach (fun k x => x.sqsAfter k) s2.segNumbers s2

/-- SQS's part of RECOVER at one station (R69). -/
def State.recoverStation (s : State) (n : Nat) : State :=
  let st := s.station n
  if st.state = .fault && st.cause = some .estop && (st.node = .online || st.node = .missing)
      && (s.stationPending n).isNone then
    if st.reportsUnclamped then s.stationIdle n .released
    else if st.reportsLockout then s.stationIdle n .lockout
    else s
  else s

def State.recoverStations (s : State) : State :=
  let s1 := forEach (fun n x => x.recoverStation n) s.stationNumbers s
  forEach (fun k x => x.sqsAfter k) s1.segNumbers s1

/-! ## Timer expiries -/

/-- The station's timer runs for the purpose and its limit is reached. -/
def State.stationTimerDue (s : State) (n : Nat) (purpose : TimerPurpose) : Bool :=
  match (s.station n).timer with
  | some tm => tm.purpose = purpose && s.due tm.timer
  | none => false

/-- The clamp timer expires (R50). -/
def State.clampExpires (s : State) (n : Nat) : State :=
  if s.stationTimerDue n .clamp then
    let s1 := s.stationFault n .clampTimeout .missed
    (if s.stationPending n = some .clamp then s1.stationRetract n else s1).sqsAfter
      (s.stationSegment n)
  else s

/-- The cycle timer expires (R55). -/
def State.cycleExpires (s : State) (n : Nat) : State :=
  if s.stationTimerDue n .cycle then
    let limit := ((s.stationCfg n).map (·.tCycleMax)).getD 0
    ((s.stationFault n .cycleTimeout (.defect .cycleTimeout limit)).stationRetract n).sqsAfter
      (s.stationSegment n)
  else s

/-- The unclamp timer expires (R56). -/
def State.unclampExpires (s : State) (n : Nat) : State :=
  if s.stationTimerDue n .unclamp then
    (s.stationFault n .unclampTimeout .nothing).sqsAfter (s.stationSegment n)
  else s

/-- The common timer expires: each station that has not confirmed faults (R57); DESIGN CHOICE for their order,
ascending, log entry 33. -/
def State.commonExpires (s : State) (k : Nat) : State :=
  if (s.stationsOn k).any fun p => p.2.underCommon && s.stationTimerDue p.1 .common then
    (forEach (fun p x =>
      if p.2.underCommon && s.stationTimerDue p.1 .common then
        x.stationFault p.1 .unclampTimeout .nothing
      else x) (s.stationsOn k) s).sqsAfter k
  else s

/-- The station clear timer expires (R67). -/
def State.stationClearExpires (s : State) (n : Nat) : State :=
  if s.stationTimerDue n .clear then s.stationClearFails n .nodeFault else s

end Sys2Proof.Machine
end

