-- ==== Sys2Proof/Machine/Conveyors.lean ====
section
/-! DEFINITION. The Conveyor Tracker's account of arrivals, travel time and jams (R118 to R123). The
release of the spur and the credits that tell a consumer of a new head stand in Machine/Tracking.lean. -/

namespace Sys2Proof.Machine

/-! ## Jams (R121) -/

/-- The segments that hold a HELD reservation. -/
def heldSegments : List Reservation → List Nat
  | [] => []
  | r :: rest =>
    match r.holder, r.status with
    | .segment k, .held => k :: heldSegments rest
    | _, _ => heldSegments rest

/-- CVT withdraws segment k's HELD reservation on a conveyor, and SC seeks room again (R76, R79, R121). -/
def State.withdrawReservation (s : State) (c : ConvId) (k : Nat) : State :=
  let s1 := s.removeReservation c (.segment k)
  match (s.seg k).state with
  | .ready => ((s1.modSeg k fun g => { g with room := .none, feedWait := none })).scTest k
  | .queued => (s1.scWithdraw k .ready false).scTest k
  | _ => s1.modSeg k fun g => { g with room := .none }

/-- A conveyor enters JAMMED from FLOWING (R121); a further cause of a JAMMED one changes nothing. -/
def State.jam (s : State) (c : ConvId) (cause : JamCause) (pallet : Option Nat) : State :=
  if (s.conv c).state = .jammed then s
  else
    let held := heldSegments (s.conv c).reservations
    let s1 := s.modConv c fun v => { v with state := .jammed, cause := some cause, travel := none }
    let s2 := s1.post .conveyorJam (.conveyor c) pallet (.jam cause)
    forEach (fun k x => x.withdrawReservation c k) held s2

/-! ## Travel time (R120) -/

/-- The travel timer that R120 gives a conveyor. -/
def State.travelFor (s : State) (c : ConvId) : Option Timer :=
  if (s.conv c).state = .flowing && s.lsv.lineState ≠ .halt then
    (oldestInTransit (s.list c)).map fun e => { start := e.entryTime, limit := s.cfg.line.travel c }
  else none

/-- The travel timer expires (R120): TRAVEL_TIMEOUT with the oldest IN_TRANSIT entry's pallet. -/
def State.travelJam (s : State) (c : ConvId) : State :=
  s.jam c .travelTimeout ((oldestInTransit (s.list c)).map (·.pallet))

/-- The pallet of a conveyor's oldest IN_TRANSIT entry. -/
def State.oldestTraveller (s : State) (c : ConvId) : Option Nat :=
  (oldestInTransit (s.list c)).map (·.pallet)

/-- The travel timer is set, or stopped, as R120 gives it: at a join, a clear and RECOVER, whose entry time
is the present one. -/
def State.setTravel (s : State) (c : ConvId) : State :=
  s.modConv c fun v => { v with travel := s.travelFor c }

/-- After a credit or a removal, `was` having been the pallet of the oldest IN_TRANSIT entry: where another
entry is the oldest now, the timer is set afresh from it, also from an equal entry time, and expires at once
when that entry is already overdue (R120). -/
def State.syncTravel (s : State) (was : Option Nat) (c : ConvId) : State :=
  if s.oldestTraveller c = was then s
  else
    let s1 := s.setTravel c
    match s.travelFor c with
    | some x => if s.due x then s1.travelJam c else s1
    | none => s1

/-- TRAVEL_TIMEOUT of a conveyor (R120). -/
def State.travelExpires (s : State) (c : ConvId) : State :=
  match (s.conv c).travel with
  | some tm => if s.due tm then s.travelJam c else s
  | none => s

/-! ## Expected arrivals (R118) -/

/-- An IN_TRANSIT entry has joined. -/
def State.expectMore (s : State) (c : ConvId) : State :=
  (s.modConv c fun v => { v with expected := v.expected + 1 }).setTravel c

/-- An IN_TRANSIT entry was taken out by REMOVE or ACCEPT TAG (R31). -/
def State.expectFewer (s : State) (c : ConvId) : State :=
  s.modConv c fun v => { v with expected := v.expected - 1 }

/-- The line enters HALT: every travel timer is stopped (R128). -/
def State.stopTravel (s : State) : State :=
  { s with cvt := { s.cvt with convs := s.cvt.convs.map fun p => (p.1, { p.2 with travel := none }) } }

/-- RECOVER: every IN_TRANSIT entry is restamped, and the timers of FLOWING conveyors set (R128). -/
def State.restartTravel (s : State) : State :=
  let s1 := { s with trk := { s.trk with
    lists := s.trk.lists.map fun p => (p.1, restampInTransit s.clock p.2) } }
  forEach (fun c x => x.setTravel c) (s1.cvt.convs.map (·.1)) s1

/-! ## Node notices (R123) -/

/-- The head-present flag agrees with the list (R122). -/
def headAgrees (head : Bool) (l : List Entry) : Bool :=
  match l with
  | [] => !head
  | e :: _ => if e.state = .arrived then head else !head

/-- A conveyor node is LOST (R123). -/
def State.convLost (s : State) (c : ConvId) : State :=
  (s.modConv c fun v => { v with node := .lost }).jam c .nodeLost none

end Sys2Proof.Machine
end

