-- ==== Sys2Proof/Machine/Routing.lean ====
section
/-! DEFINITION. The Route Unit: the job for an arriving pallet (R130 to R133) and the verification check
of the VS head (R139 to R144). -/

namespace Sys2Proof.Machine

/-! ## Arrival decisions -/

/-- The station that stands on a nest. -/
def stationAt (k j : Nat) : List (Nat × StationRecord) → Option (Nat × StationRecord)
  | [] => none
  | (n, r) :: rest => if r.segment = k && r.nest = j then some (n, r) else stationAt k j rest

/-- The job of a MACHINE station: the first row of R131's table that holds. -/
def machineOrder (line : LineRecord) (n : Nat) (r : StationRecord) (st : StationState) (id : Nat)
    (p : Pallet) : JobOrder :=
  match p.workpiece with
  | none => .pass
  | some w =>
    if !maskHas r.mask p.variant then .pass
    else if w.opsDone.contains n then .pass
    else if w.rejected && line.skipRejects then .pass
    else if st = .skipped then .miss id
    else .work { kind := .machine, pallet := id, variant := p.variant, disposition := none }

/-- The verdict on a workpiece (R133). -/
def dispositionOf (w : Workpiece) : Disposition :=
  if w.rejected then .reject else if !w.opsMissed.isEmpty then .rework else .good

/-- The job of the UNLOAD station (R133). -/
def unloadOrder (id : Nat) (p : Pallet) : JobOrder :=
  match p.workpiece with
  | none => .pass
  | some w => .work { kind := .unload, pallet := id, variant := p.variant,
                      disposition := some (dispositionOf w) }

/-- The LOAD station's decision with its further effects (R132). -/
def State.loadDecision (s : State) (n id : Nat) (p : Pallet) : State :=
  if p.workpiece.isSome then
    (s.modWorkpiece id fun w => { w with holdOver := true }).sqsJob n .pass
  else if p.service = .quarantined then s.sqsJob n .pass
  else if s.cfg.line.vLaps + s.cfg.line.vGrace ≤ p.laps then
    (s.post .verifyOverdue (.station n) (some id) (.laps p.laps)).sqsJob n .pass
  else s.sqsJob n (.work { kind := .load, pallet := id, variant := p.variant, disposition := none })

/-- The Route Unit takes an arrival notice (R130). -/
def State.arrival (s : State) (k j id : Nat) : State :=
  match stationAt k j s.cfg.stations, s.pallet id with
  | some (n, r), some p =>
    match r.kind with
    | .machine => s.sqsJob n (machineOrder s.cfg.line n r (s.station n).state id p)
    | .load => s.loadDecision n id p
    | .unload => s.sqsJob n (unloadOrder id p)
  | _, _ => s

/-! ## The verification check -/

/-- A WAITING check is started when the conditions of R139 hold: CHECK is posted. -/
def State.tryCheck (s : State) : State :=
  match s.rtu.check, s.rtu.checkPallet with
  | .waiting, some id =>
    if s.moving && !s.rtu.stale && s.rtu.node = .online
        && (s.rtu.report.map (·.1)) ≠ some .checking then
      let v := match s.pallet id with
        | some p => p.variant.code
        | none => 0
      (s.postCmd s.cfg.line.nodeVerify .check [byteOf id, byteOf v]).modRtu fun r =>
        { r with check := .posted }
    else s
  | _, _ => s

/-- The Route Unit takes a notice of the VS head (R139). -/
def State.vsHeadNotice (s : State) : State :=
  match s.arrivedHead .vs with
  | none => s.modRtu fun r => { r with check := .idle, checkPallet := none }
  | some id =>
    if s.rtu.checkPallet = some id then s
    else if (s.pallet id).any fun p => p.service = .quarantined then
      (s.modRtu fun r => { r with check := .blocked, checkPallet := some id }).post
        .palletQuarantined .verify (some id) .none
    else (s.modRtu fun r => { r with check := .waiting, checkPallet := some id }).tryCheck

/-- The SPUR request is placed and the check is PASSED (R141, R143). -/
def State.passCheck (s : State) : State :=
  (s.modRtu fun r => { r with check := .passed }).requestRoom .rc .spur

/-- A PASS result (R141). -/
def State.verifyPass (s : State) (id : Nat) : State :=
  ((s.modPallet id fun p => { p with laps := 0, overdue := false }).post .verifyResult .verify
    (some id) (.verify .pass)).passCheck

/-- A FAIL result (R142). -/
def State.verifyFail (s : State) (id : Nat) : State :=
  (((s.modPallet id fun p => { p with service := .quarantined }).post .verifyResult .verify
    (some id) (.verify .fail)).post .palletQuarantined .verify (some id) .none).modRtu
    fun r => { r with check := .blocked }

/-- A report in RUNNING is a result (R140). -/
def Rtu.isResult (r : Rtu) (st : VerifyState) (seq : Nat) : Bool :=
  r.image ≠ some seq && (st = .pass || st = .fail)

/-- A verification node's report (R140). -/
def State.verifyReport (s : State) (st : VerifyState) (seq : Nat) : State :=
  let s1 := s.modRtu fun r => { r with report := some (st, seq) }
  match s.rtu.check with
  | .running =>
    if s.rtu.isResult st seq then
      let s2 := s1.modRtu fun r => { r with image := some seq }
      let id := s.rtu.checkPallet.getD 0
      if st = .pass then s2.verifyPass id else s2.verifyFail id
    else s1
  | _ => (s1.modRtu fun r => { r with image := some seq }).tryCheck

/-- CHECK delivered (R140, R143). -/
def State.checkDelivered (s : State) : State :=
  if s.rtu.stale then s.modRtu fun r => { r with stale := false }
  else if s.rtu.check = .posted then
    s.modRtu fun r => { r with check := .running, image := r.report.map (·.2) }
  else s

/-- CHECK refused (R143). -/
def State.checkRefused (s : State) : State :=
  if s.rtu.stale then (s.modRtu fun r => { r with stale := false }).tryCheck
  else if s.rtu.check = .posted then
    let id := s.rtu.checkPallet.getD 0
    ((s.modPallet id fun p => { p with overdue := true }).post .verifyResult .verify (some id)
      (.verify .refused)).passCheck
  else s

/-- CHECK superseded at HALT (R143). -/
def State.checkSuperseded (s : State) : State :=
  if s.rtu.stale then (s.modRtu fun r => { r with stale := false }).tryCheck
  else if s.rtu.check = .posted then s.modRtu fun r => { r with check := .waiting }
  else s

/-- CVT drops what the SPUR request of a departed pallet has: a waiting request is withdrawn; a granted
one's reservation is released and the RELEASE marked stale (R126, R127, R144). -/
def State.dropSpur (s : State) : State :=
  let s1 := s.cancelRequest .rc .spur
  if ((s.conv .rc).reservations.any fun r => r.holder = .spur) then
    ({ s1 with cvt := { s1.cvt with staleRelease := true } }).releaseRoom .rc .spur
  else s1

/-- The Route Unit abandons the check of a VS head pallet that an edit takes away (R144). -/
def State.abandonCheck (s : State) (id : Nat) : State :=
  if s.rtu.checkPallet = some id then
    let s1 := match s.rtu.check with
      | .posted => s.modRtu fun r => { r with stale := true }
      | .passed => s.dropSpur
      | _ => s
    s1.modRtu fun r => { r with check := .idle, checkPallet := none }
  else s

end Sys2Proof.Machine
end

