-- ==== Sys2Proof/Machine/Tracking.lean ====
section
/-! DEFINITION. What the Tracking Unit does besides keeping its tables: head notices (R30), arrival
credits and conveyor reports (R118, R123), the spur release (R127), the settling of an open index (R27,
R28, R43 to R45), the tag check (R38 to R42) and map edits (R33 to R35). -/

namespace Sys2Proof.Machine

/-! ## Notices of a conveyor head (R30) -/

/-- The block that consumes a conveyor's head is told of it: the Segment Controller it feeds, or the
Route Unit. -/
def State.headNotice (s : State) (c : ConvId) : State :=
  match c with
  | .rc => s.scTest 1
  | .b1 => s.scTest 2
  | .b2 => s.scTest 3
  | .b3 => s.scTest 4
  | .vs => s.vsHeadNotice

/-! ## Arrivals (R118) -/

/-- The number of arrivals between two counts (06 section 6.3). -/
def countDifference (image count : Nat) : Nat := (count + 256 - image % 256) % 256

/-- CVT credits `n` arrivals, at least one: the oldest IN_TRANSIT entries become ARRIVED, and a new
ARRIVED head is told of (R30) before the travel timer is set afresh and may expire (R120); DESIGN CHOICE for
this order, log entry 34. -/
def State.credit (s : State) (c : ConvId) (n : Nat) : State :=
  let s1 := (s.setList c (creditOldest n (s.list c))).modConv c fun v =>
    { v with expected := v.expected - n }
  (if (s.arrivedHead c).isNone && (s1.arrivedHead c).isSome then s1.headNotice c else s1).syncTravel
    (s.oldestTraveller c) c

/-- Steps 2 to 4 of R118 for a reported count. -/
def State.takeCount (s : State) (c : ConvId) (count : Nat) : State :=
  let v := s.conv c
  let s1 := s.modConv c fun v => { v with image := some count }
  match v.image with
  | none => s1
  | some image =>
    let d := countDifference image count
    let n := min d v.expected
    let s2 := if n = 0 then s1 else s1.credit c n
    if v.expected < d then s2.jam c .phantomArrival none else s2

/-- A conveyor node's report (R118, R122). -/
def State.conveyorReport (s : State) (c : ConvId) (count : Nat) (jam head : Bool) : State :=
  let s1 := (s.modConv c fun v => { v with report := some (count, jam, head) }).takeCount c count
  if jam then s1.jam c .nodeJam none else s1

/-- A state notice of a conveyor node other than LOST (R123): a return takes the report's count as the
first one. -/
def State.convNotice (s : State) (c : ConvId) (st : NodeStatus) (isReturn : Bool) : State :=
  s.modConv c fun v => { v with node := st, image := if isReturn then none else v.image }

/-! ## The spur release (R127) -/

/-- The SPUR holds a reservation on RC. -/
def State.spurReserved (s : State) : Bool :=
  (s.conv .rc).reservations.any fun r => r.holder = .spur

/-- A stale RELEASE has had its outcome: the flag returns to NO and the merge arbiter makes a pass. -/
def State.endStaleRelease (s : State) : State :=
  ({ s with cvt := { s.cvt with staleRelease := false } }).grantPass .rc

/-- The SPUR request waits again at the back of RC's requests; no pass is made for it: DEDUCED, log
entry 16. -/
def State.requeueSpur (s : State) : State :=
  s.modConv .rc fun v => { v with requests := v.requests ++ [.spur] }

/-- The VS head entry moves to the tail of RC as IN_TRANSIT. -/
def State.spurMoves (s : State) : State :=
  match s.list .vs with
  | [] => s
  | e :: rest =>
    let s1 := s.setList .vs rest
    s1.setList .rc (s1.list .rc ++ [{ pallet := e.pallet, state := .inTransit, entryTime := s.clock }])

/-- RELEASE delivered. -/
def State.releaseDelivered (s : State) : State :=
  if s.spurReserved then
    ((((s.spurMoves.syncPlacements).removeReservation .rc .spur).expectMore .rc).grantPass
      .vs).headNotice .vs
  else s.endStaleRelease

/-- RELEASE refused. -/
def State.releaseRefused (s : State) : State :=
  if s.spurReserved then
    ((s.releaseRoom .rc .spur).jam .vs .nodeJam none).requeueSpur
  else (s.jam .vs .nodeJam none).endStaleRelease

/-- RELEASE superseded at HALT. -/
def State.releaseSuperseded (s : State) : State :=
  if s.spurReserved then (s.releaseRoom .rc .spur).requeueSpur else s.endStaleRelease

/-! ## Settling an open index (R27, R43 to R45) -/

/-- The nests with their numbers, from N1. -/
def numberFrom {α : Type} (n : Nat) : List α → List (Nat × α)
  | [] => []
  | a :: rest => (n, a) :: numberFrom (n + 1) rest

/-- The occupied nests with their pallets, ascending. -/
def standing : List (Nat × Option Nat) → List (Nat × Nat)
  | [] => []
  | (j, some id) :: rest => (j, id) :: standing rest
  | (_, none) :: rest => standing rest

/-- The occupied nests of `after` whose occupant differs from the one in `before`. -/
def changedNests (before after : List (Option Nat)) : List (Nat × Nat) :=
  (standing (numberFrom 1 after)).filter fun p => ((before[p.1 - 1]?).getD none) ≠ some p.2

/-- The nests after a shift: each pallet one nest on, the entry pallet in N1 (R27). -/
def shiftNests (entry : Option Nat) (l : List (Option Nat)) : List (Option Nat) :=
  entry :: l.dropLast

/-- A pallet joins the tail of a conveyor's list as IN_TRANSIT at the present line time (R29). -/
def State.joinTail (s : State) (c : ConvId) (id : Nat) : State :=
  s.setList c (s.list c ++ [{ pallet := id, state := .inTransit, entryTime := s.clock }])

/-- The exit pallet joins the destination and the reservation becomes the entry (R27 step 1). -/
def State.exitJoins (s : State) (k : Nat) (oi : OpenIndex) : State :=
  match oi.exit, oi.dest with
  | some id, some c => (s.joinTail c id).removeReservation c (.segment k)
  | _, _ => s

/-- The entry pallet's head entry leaves the upstream conveyor (R27 step 3). -/
def State.entryLeaves (s : State) (k : Nat) (oi : OpenIndex) : State :=
  match oi.entry with
  | some id => s.setList (upstreamOf k) (removeEntry id (s.list (upstreamOf k)))
  | none => s

/-- Laps since verification rise when a pallet enters S1 (R19). -/
def State.entryLap (s : State) (k : Nat) (oi : OpenIndex) : State :=
  match oi.entry with
  | some id => if k = 1 then s.countLap id else s
  | none => s

/-- The open index ends with the given nests: the segment is CERTAIN, the pallets `moved` are counted and
every placement follows (R27 steps 2 to 5). The postponement note ends with the last segment's index (R138). -/
def State.endIndex (s : State) (k : Nat) (nests : List (Option Nat)) (moved : List Nat) : State :=
  let s1 := s.modSegMap k fun _ => { nests := nests, certainty := .certain, openIndex := none }
  let s2 := (forEach (fun id x => x.countIndex id) moved s1).syncPlacements
  if k = s.nseg then s2.modRtu fun r => { r with note := none } else s2

/-- CVT's part once the exit pallet has joined its destination, or its reservation is released. -/
def State.destinationSettled (s : State) (k : Nat) (oi : OpenIndex) (joined : Bool) : State :=
  match oi.dest with
  | none => s
  | some c => if joined then s.expectMore c else s.releaseRoom c (.segment k)

/-- The upstream conveyor after its head has left for N1: a grant pass (R115) and the new head (R30). -/
def State.upstreamSettled (s : State) (k : Nat) (oi : OpenIndex) : State :=
  match oi.entry with
  | none => s
  | some _ => (s.grantPass (upstreamOf k)).headNotice (upstreamOf k)

/-- The pallet of an option as a list. -/
def optionList : Option Nat → List Nat
  | none => []
  | some n => [n]

/-- The shift of Sk's open index (R27). -/
def State.shift (s : State) (k : Nat) (oi : OpenIndex) : State :=
  let nests := shiftNests oi.entry (s.nests k)
  let moved := (standing (numberFrom 1 nests)).map (·.2) ++ optionList oi.exit
  (((((s.exitJoins k oi).entryLeaves k oi).entryLap k oi).endIndex k nests moved).destinationSettled k oi
    true).upstreamSettled k oi

/-- The open index settled by a list of occupants (R45 steps 1 to 5). -/
def State.settleByList (s : State) (k : Nat) (oi : OpenIndex) (flag : Bool)
    (nests : List (Option Nat)) : State :=
  let entryNamed := match oi.entry with
    | some id => nests.contains (some id)
    | none => false
  let moved := (changedNests (s.nests k) nests).map (·.2) ++ (if flag then optionList oi.exit else [])
  let oi' := { oi with entry := if entryNamed then oi.entry else none }
  let s1 := if flag then s.exitJoins k oi else s
  ((((s1.entryLeaves k oi').entryLap k oi').endIndex k nests moved).destinationSettled k oi
    flag).upstreamSettled k oi'

/-- The open index settled as not having moved (R43): nothing changes but certainty and the reservation. -/
def State.settleBefore (s : State) (k : Nat) (oi : OpenIndex) : State :=
  let s1 := s.modSegMap k fun m => { m with certainty := .certain, openIndex := none }
  (if k = s.nseg then s1.modRtu fun r => { r with note := none } else s1).destinationSettled k oi false

/-! ## The tag check of S1 (R38 to R41) -/

def State.setTag (s : State) (c : TagCheck) : State := { s with trk := { s.trk with tag := c } }

def State.setTrackHold (s : State) (b : Bool) : State := s.modSeg 1 fun g => { g with trackHold := b }

/-- The tag check opens (R39). -/
def State.openTag (s : State) : State :=
  let occ := s.occupant 1 1
  (s.setTag (.opened { occupant := occ, image := s.trk.readerImage, openedAt := s.clock,
                       noticeHeld := occ.isSome })).setTrackHold true

/-- An arrival notice for N1 of S1, given in RUN and STOPPING (R40 to R42). -/
def State.noticeN1 (s : State) (id : Option Nat) : State :=
  match id with
  | some p => if s.moving then s.arrival 1 1 p else s
  | none => s

/-- The check goes to NONE and the track hold is cleared; then the notice and the readiness test: DEDUCED
for their order, log entry 10. -/
def State.closeTag (s : State) (notice : Option Nat) : State :=
  (((s.setTag .none).setTrackHold false).noticeN1 notice).scTest 1

/-- The pallet whose N1 notice an OPEN check holds. -/
def TagOpening.notice (o : TagOpening) : Option Nat := if o.noticeHeld then o.occupant else Option.none

def State.postTag (s : State) (kind : EventKind) (o : TagOpening) (value : Option Nat) : State :=
  s.post kind (.segment 1) o.occupant (.read value)

/-- The first fresh read of an OPEN check (R40). -/
def State.freshRead (s : State) (o : TagOpening) (value : Nat) : State :=
  if 251 ≤ value then (s.postTag .tagUnreadable o (some value)).closeTag o.notice
  else if value = o.occupant.getD 0 then s.closeTag o.notice
  else
    let kind := if value = 0 then .tagMissing
      else if o.occupant.isSome then .tagMismatch else .tagUnexpected
    (s.postTag kind o (some value)).setTag (.held o value false)

/-- A reader report (R38 to R40). -/
def State.readerReport (s : State) (sequence value : Nat) : State :=
  let s1 := { s with trk := { s.trk with readerImage := some sequence } }
  match s.trk.tag with
  | .opened o => if o.image = some sequence then s1 else s1.freshRead o value
  | _ => s1

/-- T_read passes with no fresh read (R40). -/
def State.tagReadExpires (s : State) : State :=
  match s.trk.tag with
  | .opened o =>
    if s.due { start := o.openedAt, limit := s.cfg.line.tRead } then
      (s.postTag .tagUnreadable o none).closeTag o.notice
    else s
  | _ => s

/-- A PLACE or REMOVE marks a HELD check edited (R41). -/
def State.markEdited (s : State) : State :=
  match s.trk.tag with
  | .held o v _ => s.setTag (.held o v true)
  | _ => s

/-- A HELD and edited check closes at a CONTINUE of S1 or a START (R41). -/
def State.closeEdited (s : State) : State :=
  match s.trk.tag with
  | .held _ _ true => s.closeTag (s.occupant 1 1)
  | _ => s

/-! ## Arrival notices after an index (R28, R39, R44, R45) -/

def State.giveNotices (s : State) (k : Nat) (l : List (Nat × Nat)) : State :=
  forEach (fun p x => x.arrival k p.1 p.2) l s

/-- The notices of an index of Sk; `open` says that the tag check opens and holds N1's. -/
def State.indexNotices (s : State) (k : Nat) (l : List (Nat × Nat)) (opens : Bool) : State :=
  if opens then s.openTag.giveNotices k (l.filter fun p => p.1 ≠ 1) else s.giveNotices k l

/-- The Tracking Unit's part of an index completion (R86 step 2). -/
def State.trkComplete (s : State) (k : Nat) : State :=
  match (s.segMap k).openIndex with
  | none => s
  | some oi =>
    let s1 := s.shift k oi
    s1.indexNotices k (standing (numberFrom 1 (s1.nests k))) (k = 1)

/-- CONFIRM SEGMENT with AFTER (R44). -/
def State.confirmAfter (s : State) (k : Nat) (oi : OpenIndex) : State :=
  let s1 := s.shift k oi
  if s.lsv.lineState = .run then
    s1.indexNotices k (standing (numberFrom 1 (s1.nests k))) (k = 1)
  else s1

/-- CONFIRM SEGMENT with LIST (R45). -/
def State.confirmList (s : State) (k : Nat) (oi : OpenIndex) (flag : Bool)
    (nests : List (Option Nat)) : State :=
  let s1 := s.settleByList k oi flag nests
  if s.lsv.lineState = .run then
    s1.indexNotices k (changedNests (s.nests k) nests)
      (k = 1 && (nests.head?.getD none) ≠ s.occupant 1 1)
  else s1

/-! ## Map edits (R33 to R35, R42) -/

/-- The segments in QUEUED that count on a pallet as their exit or entry pallet (R35). -/
def State.countingOn (s : State) (id : Nat) : List Nat :=
  s.segNumbers.filter fun k =>
    (s.seg k).state = .queued &&
      (s.exitPallet k = some id ||
        (((s.seg k).queued.map (·.entryTaken)).getD false && s.arrivedHead (upstreamOf k) = some id))

/-- The state of the entry at place `i` of a list. -/
def entryStateAt (l : List Entry) (i : Nat) : Option EntryState := (l[i]?).map (·.state)

/-- The map's part of taking a pallet from its place; for an IN_TRANSIT entry CVT expects one arrival
fewer (R31). -/
def State.takeOut (s : State) (id : Nat) (place : PlaceRef) : State :=
  match place with
  | .nest k _ => s.modSegMap k fun m => { m with nests := clearOccupant id m.nests }
  | .entry c i =>
    let s1 := s.setList c (removeEntry id (s.list c))
    if entryStateAt (s.list c) i = some .inTransit then s1.expectFewer c else s1

/-- Segments that counted on the pallet withdraw, and test again (R35 item 1, R79). -/
def State.withdrawCounting (s : State) (l : List Nat) : State :=
  forEach (fun k x => (x.scWithdraw k .ready true).scTest k) l s

/-- The pallet of the oldest IN_TRANSIT entry of the conveyor of a place. -/
def State.travellerAt (s : State) : PlaceRef → Option Nat
  | .nest _ _ => none
  | .entry c _ => s.oldestTraveller c

/-- What follows the departure of a pallet from its place (R35, R115, R120, R144); `was` is the pallet of the
oldest IN_TRANSIT entry before it. DESIGN CHOICE for the order, log entry 40: the withdrawals, the abandoned
CHECK, the fresh travel timer, which may jam the conveyor at once, the grant pass, the notice of the head. -/
def State.afterTaking (s : State) (id : Nat) (place : PlaceRef) (counting : List Nat)
    (was : Option Nat) : State :=
  let s1 := s.withdrawCounting counting
  match place with
  | .nest k _ => s1.scTest k
  | .entry c i =>
    let s2 := if c = .vs then s1.abandonCheck id else s1
    let s3 := (s2.syncTravel was c).grantPass c
    if i = 0 then s3.headNotice c else s3

/-- REMOVE of a placed pallet (R34, R35). -/
def State.removePallet (s : State) (id : Nat) (place : PlaceRef) : State :=
  (((s.takeOut id place).syncPlacements).afterTaking id place (s.countingOn id)
    (s.travellerAt place)).markEdited

/-- PLACE in a nest (R33, R35). -/
def State.placeInNest (s : State) (id k j : Nat) : State :=
  (((s.modSegMap k fun m => { m with nests := setOccupant j (some id) m.nests }).syncPlacements).scTest
    k).markEdited

/-- PLACE on a conveyor (R29, R33, R35). -/
def State.placeOnConveyor (s : State) (id : Nat) (c : ConvId) : State :=
  if (oldestInTransit (s.list c)).isSome then
    (((s.joinTail c id).syncPlacements).expectMore c).markEdited
  else
    let s1 := (s.setList c (s.list c ++
      [{ pallet := id, state := .arrived, entryTime := s.clock }])).syncPlacements
    (if (s.list c).isEmpty then s1.headNotice c else s1).markEdited

/-- ACCEPT TAG with a pallet ID that stands at `place`, if it is placed elsewhere (R42 steps 2 and 3). -/
def State.seatRead (s : State) (id : Nat) : State :=
  let seat := fun (x : State) =>
    (x.modSegMap 1 fun m => { m with nests := setOccupant 1 (some id) m.nests }).syncPlacements
  match s.findPallet id with
  | some place =>
    if place = .nest 1 1 then s
    else (seat (s.takeOut id place)).afterTaking id place (s.countingOn id) (s.travellerAt place)
  | none => seat s

/-- The effects of an accepted ACCEPT TAG (R42). -/
def State.acceptRead (s : State) (value : Nat) : State :=
  let s1 :=
    if value = 0 then
      (s.modSegMap 1 fun m => { m with nests := setOccupant 1 none m.nests }).syncPlacements
    else s.seatRead value
  s1.closeTag (s1.occupant 1 1)

end Sys2Proof.Machine
end

