-- ==== Sys2Proof/Machine/Segments.lean ====
section
/-! DEFINITION. The Segment Controllers in motion: faults (R89), drive reports (R81, R82, R86, R87), the
outcomes of drive commands (R84, R85, R88, R90), feed hold (R83, R84), clears (R92), and the line-state
changes (R94, R95). -/

namespace Sys2Proof.Machine

/-! ## Faults (R89) -/

/-- LIFT, ADVANCE or LOWER. -/
def SegState.inMotion : SegState → Bool
  | .lift | .advance | .lower => true
  | _ => false

/-- How far a certainty stands below CERTAIN (R25). -/
def Certainty.rank : Certainty → Nat
  | .certain => 0 | .beforeKnown => 1 | .uncertain => 2

/-- The lower of two certainties. -/
def Certainty.lower (a b : Certainty) : Certainty := if a.rank < b.rank then b else a

/-- The certainty that a fault in a motion phase gives: by the last motion report, but UNCERTAIN for
DRIVE_STATE (R89). -/
def faultCertainty (motion : DrivePhase) (cause : SegCause) : Certainty :=
  if cause = .driveState then .uncertain
  else
    match motion with
    | .atRest | .lifting | .lifted => .beforeKnown
    | _ => .uncertain

/-- TRK's certainty lowered to `c` if that is lower (R25). -/
def State.lowerCertainty (s : State) (k : Nat) (c : Certainty) : State :=
  s.modSegMap k fun m => { m with certainty := m.certainty.lower c }

/-- A segment in FAULT with an open index meets a further cause: only certainty can fall (R25, R89). -/
def State.furtherFault (s : State) (k : Nat) (cause : SegCause) : State :=
  if (s.segMap k).openIndex.isSome then s.lowerCertainty k (faultCertainty (s.seg k).motion cause)
  else s

/-- MOTION_FAULT with the certainty and index number as they stand (R89, R92). -/
def State.postMotionFault (s : State) (k : Nat) (cause : SegCause) : State :=
  s.post .motionFault (.segment k) none
    (.motion cause (s.segMap k).certainty (s.seg k).indexNumber)

/-- A superseded drive command (R84, R90): a phase command or RETURN becomes owed, but is dropped at HALT
and after a fault; RELEASE_ALL is passed to SQS. -/
def State.driveSuperseded (s : State) (k : Nat) (code : CmdCode) : State :=
  match code with
  | .releaseAll => s.commonSuperseded k
  | c =>
    if c.isPhase && s.lsv.lineState ≠ .halt && (s.seg k).state ≠ .fault then s.owe k c else s

/-- FEEDHOLD is posted, replacing an undelivered command (R72, R168). -/
def State.postFeedhold (s : State) (k : Nat) : State :=
  let a := (s.segCfg k).nodeDrive
  let s1 := s.replaceCmd a .feedhold
  match s.supersededBy a .feedhold with
  | some c => s1.driveSuperseded k c
  | none => s1

/-- A command that a fault's FEEDHOLD replaces (R89). -/
def CmdCode.stoppedByFault : CmdCode → Bool
  | .lift | .advance | .lower | .ret | .resume => true
  | _ => false

/-- The record of a segment that enters FAULT (R89). -/
def Segment.inFault (g : Segment) (cause : SegCause) : Segment :=
  { g with state := .fault, cause := some cause, phase := .stopped, feedWait := none, hold := .none,
           resumeWanted := false,
           owed := { Owed.nothing with releaseAll := g.owed.releaseAll } }

/-- Room is given up and a queued request withdrawn by a segment that leaves `was` for `target`. -/
def State.leaveQueue (s : State) (k : Nat) (was target : SegState) : State :=
  if was = .queued then s.scWithdraw k target true else s.giveUpRoom k

/-- A segment enters FAULT (R89). -/
def State.scFault (s : State) (k : Nat) (cause : SegCause) : State :=
  let g := s.seg k
  if g.state = .fault then s.furtherFault k cause
  else
    let s1 :=
      if g.state.inMotion then
        (s.lowerCertainty k (faultCertainty g.motion cause)).setPermit k false
      else s
    let s2 := (s1.modSeg k fun g => g.inFault cause).leaveQueue k g.state .fault
    let s3 := s2.postMotionFault k cause
    if cause ≠ .estop && (s3.drivePending k).any CmdCode.stoppedByFault then s3.postFeedhold k
    else s3

/-! ## Motion reports (R81, R82, R86) -/

/-- The command, start, moving and completion report of a motion phase (R81). -/
structure PhaseParts where
  code : CmdCode
  start : DrivePhase
  moving : DrivePhase
  completion : DrivePhase
  deriving DecidableEq, Repr

def SegState.parts : SegState → Option PhaseParts
  | .lift => some { code := .lift, start := .atRest, moving := .lifting, completion := .lifted }
  | .advance => some { code := .advance, start := .lifted, moving := .advancing, completion := .advanced }
  | .lower => some { code := .lower, start := .advanced, moving := .lowering, completion := .lowered }
  | _ => none

/-- An owed flag. -/
def Owed.has (o : Owed) : CmdCode → Bool
  | .lift => o.lift | .advance => o.advance | .lower => o.lower | .ret => o.ret
  | .resume => o.resume | .releaseAll => o.releaseAll
  | _ => false

/-- A command the segment had to post is neither pending nor owed: it has been delivered. -/
def State.driveDone (s : State) (k : Nat) (code : CmdCode) : Bool :=
  s.drivePending k ≠ some code && !(s.seg k).owed.has code

/-- Index completion (R86). -/
def State.indexComplete (s : State) (k : Nat) : State :=
  let entry := (s.segMap k).openIndex.bind (·.entry)
  let s1 := (s.setPermit k false).trkComplete k
  let s2 := s1.post .indexDone (.segment k) entry (.index (s.seg k).indexNumber)
  (s2.needDrive k .ret).modSeg k fun g => { g with bar := .returning, state := .work }

/-- A phase completes (R82). -/
def State.phaseComplete (s : State) (k : Nat) (st : SegState) (completion : DrivePhase) : State :=
  let s1 := s.modSeg k fun g => { g with phase := .stopped, motion := completion }
  match st with
  | .lift => (s1.modSeg k fun g => { g with state := .advance }).needDrive k .advance
  | .advance => (s1.modSeg k fun g => { g with state := .lower }).needDrive k .lower
  | _ => s1.indexComplete k

/-- A drive report in LIFT, ADVANCE or LOWER (R81). -/
def State.motionReport (s : State) (k : Nat) (st : SegState) (parts : PhaseParts) (p : DrivePhase) :
    State :=
  if p = parts.moving then s.modSeg k fun g => { g with motion := p }
  else if p = parts.start then s
  else if p = parts.completion then
    if s.driveDone k parts.code then s.phaseComplete k st p else s.scFault k .driveState
  else if p = .held then s
  else if p = .fault then s.scFault k .driveFault
  else s.scFault k .driveState

/-! ## Reports outside motion (R87, R92) -/

/-- The bar comes to rest (R87). -/
def State.barAtRest (s : State) (k : Nat) : State :=
  (s.modSeg k fun g => { g with phase := .stopped, bar := .atRest }).scMaybeReady k

/-- A drive report in OFF, WORK, READY or QUEUED (R87). -/
def State.barReport (s : State) (k : Nat) (p : DrivePhase) : State :=
  match (s.seg k).bar, p with
  | _, .fault => s.scFault k .driveFault
  | _, .held => s
  | .returning, .lowered | .returning, .returning => s
  | .returning, .atRest => if s.driveDone k .ret then s.barAtRest k else s
  | .atRest, .atRest => s
  | _, _ => s.scFault k .driveState

/-- A clear ends with the bar at rest (R92). -/
def State.segCleared (s : State) (k : Nat) : State :=
  (s.modSeg k fun g =>
    { g with state := if s.moving then .work else .off, clear := none, cause := none, bar := .atRest,
             motion := .atRest }).scMaybeReady k

/-- A drive report in FAULT (R92). -/
def State.faultReport (s : State) (k : Nat) (p : DrivePhase) : State :=
  if (s.seg k).clear.isSome && s.drivePending k ≠ some .resetFault && p = .atRest then s.segCleared k
  else s

/-- A drive report: stored, and in HALT nothing more (R81, R87, R95). -/
def State.driveReport (s : State) (k : Nat) (p : DrivePhase) : State :=
  let s1 := s.modSeg k fun g => { g with report := some p }
  if s.lsv.lineState = .halt then s1
  else
    match (s.seg k).state.parts with
    | some parts => s1.motionReport k (s.seg k).state parts p
    | none => if (s.seg k).state = .fault then s1.faultReport k p else s1.barReport k p

/-! ## Command outcomes -/

/-- The phase timer starts with a limit at the delivery of its command (R81, R87). -/
def State.startPhase (s : State) (k limit : Nat) : State :=
  if (s.seg k).state = .fault then s
  else s.modSeg k fun g => { g with phase := .running (s.timerFor limit) }

/-- A running phase timer paused with its remainder (R84). -/
def PhaseTimer.pause (now : LineTime) : PhaseTimer → PhaseTimer
  | .running t => .paused (t.limit - elapsed t.start now)
  | p => p

/-- A paused phase timer restarted (R85). -/
def PhaseTimer.restart (now : LineTime) : PhaseTimer → PhaseTimer
  | .paused r => .running { start := now, limit := r }
  | p => p

/-- FEEDHOLD delivered (R84). -/
def State.feedholdDelivered (s : State) (k : Nat) : State :=
  if (s.seg k).hold = .holding then
    let s1 := s.modSeg k fun g => { g with phase := g.phase.pause s.clock, hold := .held }
    if (s.seg k).resumeWanted then
      (s1.modSeg k fun g => { g with hold := .resuming, resumeWanted := false }).needDrive k .resume
    else s1
  else s

/-- RESUME delivered (R85); the owed phase command or RETURN is posted with the other owed ones. -/
def State.resumeDelivered (s : State) (k : Nat) : State :=
  if (s.seg k).hold = .resuming then
    s.modSeg k fun g => { g with hold := .none, phase := g.phase.restart s.clock }
  else s

/-- What a delivered drive command does (R81, R84, R85, R87, R88). -/
def State.actOnDelivery (s : State) (k : Nat) (code : CmdCode) : State :=
  match code with
  | .lift => s.startPhase k (s.segCfg k).tLiftMax
  | .advance => s.startPhase k (s.segCfg k).tAdvanceMax
  | .lower => s.startPhase k (s.segCfg k).tLowerMax
  | .ret => s.startPhase k (s.segCfg k).tReturnMax
  | .feedhold => s.feedholdDelivered k
  | .resume => s.resumeDelivered k
  | .releaseAll => s.commonDelivered k
  | _ => s

/-- A drive command is delivered; then the owed commands (R72). -/
def State.driveDelivered (s : State) (k : Nat) (code : CmdCode) : State :=
  (s.actOnDelivery k code).postOwed k

/-- A clear ends without success (R92). -/
def State.segClearFails (s : State) (k : Nat) (cause : SegCause) : State :=
  (s.modSeg k fun g => { g with clear := none }).postMotionFault k cause

/-- What a refused drive command does (R90). -/
def State.actOnRefusal (s : State) (k : Nat) (code : CmdCode) : State :=
  match code with
  | .releaseAll => s.commonRefused k
  | .resetFault => if (s.seg k).clear.isSome then s.segClearFails k .refused else s
  | _ => if (s.seg k).state = .fault then s else s.scFault k .refused

def State.driveRefused (s : State) (k : Nat) (code : CmdCode) : State :=
  (s.actOnRefusal k code).postOwed k

/-- The drive node is LOST (R90, R92). -/
def State.driveLost (s : State) (k : Nat) : State :=
  let s1 := s.modSeg k fun g => { g with node := .lost }
  if (s.seg k).state = .fault && (s.seg k).clear.isSome then
    (s1.modSeg k fun g => { g with cause := some .linkLost }).segClearFails k .linkLost
  else s1.scFault k .linkLost

/-! ## HOLD and CONTINUE (R83, R84) -/

/-- HOLD's part by the hold status (R84). An owed RESUME is dropped: DESIGN CHOICE, log entry 18. -/
def State.feedHold (s : State) (k : Nat) : State :=
  match (s.seg k).hold with
  | .none =>
    if (s.seg k).state.inMotion then
      (s.modSeg k fun g => { g with hold := .holding }).postFeedhold k
    else s
  | .holding => s.modSeg k fun g => { g with resumeWanted := false }
  | .held => s
  | .resuming =>
    (s.modSeg k fun g =>
      { g with hold := .holding, owed := g.owed.set .resume false }).postFeedhold k

/-- HOLD at one segment (R83). -/
def State.holdSegment (s : State) (k : Nat) : State :=
  let s1 := (s.modSeg k fun g => { g with held := true }).feedHold k
  match (s.seg k).state with
  | .ready => (s1.giveUpRoom k).stopFeed k
  | .queued => s1.scWithdraw k .ready true
  | _ => s1

/-- CONTINUE's part by the hold status (R84). -/
def State.feedContinue (s : State) (k : Nat) : State :=
  match (s.seg k).hold with
  | .holding => s.modSeg k fun g => { g with resumeWanted := true }
  | .held => (s.modSeg k fun g => { g with hold := .resuming }).needDrive k .resume
  | _ => s

/-- CONTINUE at one segment; for S1 it may close an edited tag check (R83, R41). DESIGN CHOICE for the place of that
close, log entry 43: at S1, before the other named segments' part. -/
def State.continueSegment (s : State) (k : Nat) : State :=
  let s1 := ((s.modSeg k fun g => { g with held := false }).feedContinue k).scTest k
  if k = 1 then s1.closeEdited else s1

/-! ## Line states (R94, R95) -/

/-- START at one segment. -/
def State.startSegment (s : State) (k : Nat) : State :=
  if (s.seg k).state = .off then (s.modSeg k fun g => { g with state := .work }).scMaybeReady k else s

/-- STOP at one segment. -/
def State.stopSegment (s : State) (k : Nat) : State :=
  match (s.seg k).state with
  | .queued => s.scWithdraw k .ready true
  | .ready => (s.giveUpRoom k).stopFeed k
  | _ => s

/-- Leaving STOPPING for IDLE at one segment. -/
def Segment.rest (g : Segment) : Segment :=
  if g.state = .work || g.state = .ready then { g with state := .off } else g

/-- A segment is settled (R94). -/
def Segment.settled (g : Segment) : Bool :=
  match g.state with
  | .off | .ready | .fault => true
  | .work => g.bar = .atRest
  | _ => false

/-- Entry into HALT at one segment (R95). -/
def State.haltSegment (s : State) (k : Nat) : State :=
  let g := s.seg k
  let s1 :=
    match g.state with
    | .lift | .advance | .lower => s.scFault k .estop
    | .work =>
      if g.bar = BarState.returning || g.owed.ret then s.scFault k .estop
      else s.modSeg k fun g => { g with state := .off }
    | .queued => s.scWithdraw k .off true
    | .ready => ((s.giveUpRoom k).stopFeed k).modSeg k fun g => { g with state := .off }
    | .off => s
    | .fault => (s.furtherFault k .estop).modSeg k fun g => { g with clear := none }
  s1.modSeg k fun g => { g with owed := g.owed.set .releaseAll false }

/-! ## Timer expiries -/

/-- The phase timer expires (R81, R87). -/
def State.phaseExpires (s : State) (k : Nat) : State :=
  match (s.seg k).phase with
  | .running t => if s.due t then s.scFault k .phaseTimeout else s
  | _ => s

/-- The feed-wait timer expires (R77). -/
def State.feedWaitExpires (s : State) (k : Nat) : State :=
  match (s.seg k).feedWait with
  | some t =>
    if s.due t then
      (s.post .feedGap (.segment k) none (.duration (s.segCfg k).tFeedWait)).scEnqueue k false
    else s
  | none => s

/-- The clear timer expires (R92). -/
def State.segClearExpires (s : State) (k : Nat) : State :=
  match (s.seg k).clear with
  | some t => if s.due t then s.segClearFails k .phaseTimeout else s
  | none => s

end Sys2Proof.Machine
end

