-- ==== Sys2Proof/Machine/Bus.lean ====
section
/-! DEFINITION. The Station Bus Master (chapter 9): broadcasts, polls, the judging of replies, node
states, command outcomes and the hand-over to the owners, with the HPU reports (R98, R99). -/

namespace Sys2Proof.Machine

/-! ## Frames on the bus (11 section 11.4) -/

/-- A frame: the address with its mark, the other characters without, and the CRC-8 (R188). -/
def busFrame (address : Nat) (rest : List Byte) : List BusChar :=
  [{ data := byteOf address, mark := true, stopFound := true }]
    ++ (rest ++ [crc8 (byteOf address :: rest)]).map fun b =>
        { data := b, mark := false, stopFound := true }

/-- SCAN_SYNC: a broadcast with command code SYNC (R160); DESIGN CHOICE for D7, the toggle, which is 0, log entry
44. -/
def syncBroadcast : List BusChar := busFrame Config.broadcastAddress [1]

/-- The ESTOP broadcast (R170, R171); DESIGN CHOICE for D7, the toggle, which is 0, log entry 44. -/
def estopBroadcast : List BusChar := busFrame Config.broadcastAddress [2]

/-- D7 of a control or echo character. -/
def toggleBit (t : Bool) : Nat := if t then 128 else 0

/-- The control character: D0 to D5 the code, D7 the toggle; NONE without a command, DESIGN CHOICE for its D7,
which is 0, log entry 44. -/
def controlByte : Option (CmdCode × Bool) → Byte
  | none => 0
  | some (code, toggle) => byteOf (code.code + toggleBit toggle)

/-! ## Scan and polls (R160, R161, R166) -/

/-- The command a poll of the node carries: pending, with an echo image and no resync (R166). -/
def Node.transmittable (n : Node) : Option (PendingCmd × Bool) :=
  match n.pending, n.echo, n.resync with
  | some c, some e, false => some (c, !e.toggle)
  | _, _, _ => none

/-- The characters of a poll (R161). -/
def pollFrame (address : Nat) (n : Node) : List BusChar :=
  match n.transmittable with
  | some (c, t) => busFrame address (controlByte (some (c.code, t)) :: c.args)
  | none => busFrame address [controlByte none]

/-- The node after its poll: the command's transmitted toggle is set (R166). -/
def Node.polled (n : Node) : Node :=
  match n.transmittable with
  | some (c, t) => { n with pending := some { c with sent := some t } }
  | none => n

/-- Slots `a` to `b`−1 of the schedule are all disabled. -/
def slotsDisabled (schedule : List Nat) (a b : Nat) : Bool :=
  ((schedule.take b).drop a).all (· = 0)

/-- No response window stands open, but for one that HALT closed (R170). -/
def windowOver : Option Window → Bool
  | none => true
  | some w => w.cut

/-- The boundary of slot `slot` may come now: slots go in order, and one is passed over only when it is
disabled or a HALT broadcast has taken its time (R160, R170); log entry 14. -/
def Sbm.atSlot (b : Sbm) (slot : Nat) : Bool :=
  match b.scan with
  | .silent | .ending => false
  | .scanning next cut =>
    next ≤ slot && slot ≤ b.schedule.length && windowOver b.window
      && (cut || slotsDisabled b.schedule next slot)

def State.modSbm (s : State) (f : Sbm → Sbm) : State := { s with sbm := f s.sbm }

/-- UNCOMMIT's second step: at the end of the slot in progress the bus falls silent (R159). -/
def State.fallSilent (s : State) : State := s.modSbm fun b => { b with scan := .silent, tx := [] }

/-- A scan begins at the end of the last slot: SCAN_SYNC, and in HALT the ESTOP broadcast (R160, R171). After
UNCOMMIT the boundary ends the slot in progress (R159). -/
def State.scanStarts (s : State) : State :=
  if s.sbm.scan = .ending then s.fallSilent
  else if s.sbm.atSlot s.sbm.schedule.length then
    s.modSbm fun b =>
      { b with scan := .scanning 0 false, window := none,
               tx := syncBroadcast ++ (if s.lsv.lineState = .halt then estopBroadcast else []) }
  else s

/-- The poll of an enabled slot (R161). After UNCOMMIT the boundary ends the slot in progress (R159). -/
def State.slotPolls (s : State) (slot : Nat) : State :=
  if s.sbm.scan = .ending then s.fallSilent
  else match s.sbm.schedule[slot]? with
  | none => s
  | some address =>
    if s.sbm.atSlot slot && address ≠ 0 then
      match s.node address with
      | none => s
      | some n =>
        (s.modNode address Node.polled).modSbm fun b =>
          { b with scan := .scanning (slot + 1) false,
                   window := some { address := address, cut := false }, tx := pollFrame address n }
    else s

/-! ## Judging a reply (R162, R172, R188) -/

/-- The status character of a role's kind (11 section 11.4). -/
def Role.kindCode : Role → Nat
  | .station _ => 1 | .drive _ => 2 | .conveyor _ => 3 | .reader => 4 | .verify => 5 | .hpu => 6

/-- The commands a node of a role may be sent (R173). -/
def Role.takes : Role → CmdCode → Bool
  | .station _, .clamp | .station _, .start | .station _, .retract | .station _, .unclamp
  | .station _, .resetFault => true
  | .drive _, .lift | .drive _, .advance | .drive _, .lower | .drive _, .ret | .drive _, .feedhold
  | .drive _, .resume | .drive _, .releaseAll | .drive _, .resetFault => true
  | .conveyor .vs, .release => true
  | .verify, .check => true
  | _, _ => false

/-- The echo character, if its code is NONE or a command of the role (R172 note 1). -/
def decodeEcho (r : Role) (b : Byte) : Option Echo :=
  let code := b.toNat % 64
  let e : Option CmdCode → Echo := fun c =>
    { toggle := b.getLsbD 7, code := c, refused := b.getLsbD 6 }
  if code = 0 then some (e none)
  else
    match CmdCode.ofCode code with
    | some c => if r.takes c then some (e (some c)) else none
    | none => none

/-- The report places 1 to 4 of a kind (R172). -/
def decodeReport (r : Role) (p1 p2 p3 p4 : Nat) : Option Report :=
  match r with
  | .station _ =>
    if p3 = 0 ∧ p4 = 0 then (StationReport.ofCode p1).map fun st => .station st p2 else none
  | .drive _ =>
    if p2 = 0 ∧ p3 = 0 ∧ p4 = 0 then (DrivePhase.ofCode p1).map .drive else none
  | .conveyor _ =>
    if p2 < 4 ∧ p3 = 0 ∧ p4 = 0 then some (.conveyor p1 (p2 % 2 = 1) (p2 / 2 = 1)) else none
  | .reader => if p3 = 0 ∧ p4 = 0 then some (.reader p1 p2) else none
  | .verify =>
    if p3 = 0 ∧ p4 = 0 then (VerifyState.ofCode p1).map fun st => .verify st p2 else none
  | .hpu => if p1 < 4 ∧ p2 = 0 ∧ p3 = 0 ∧ p4 = 0 then some (.hpu (p1 % 2 = 1) (p1 / 2 = 1)) else none

/-- A character other than the first: no mark, stop bit found. -/
def BusChar.plain (c : BusChar) : Bool := c.stopFound && !c.mark

/-- A good reply of the polled node, with its echo and report; none is a miss (R162, R188). -/
def judgeReply (address : Nat) (r : Role) (chars : List BusChar) : Option (Echo × Report) :=
  match chars with
  | [a, status, echo, p1, p2, p3, p4, crc] =>
    if a.stopFound && a.mark && a.data = byteOf address
        && [status, echo, p1, p2, p3, p4, crc].all BusChar.plain
        && crc.data = crc8 ([a, status, echo, p1, p2, p3, p4].map (·.data))
        && status.data.toNat = r.kindCode then
      match decodeEcho r echo.data,
          decodeReport r p1.data.toNat p2.data.toNat p3.data.toNat p4.data.toNat with
      | some e, some rep => some (e, rep)
      | _, _ => none
    else none
  | _ => none

/-! ## The HPU node (R98, R99) -/

/-- An HPU report (R98). -/
def State.hpuReport (s : State) (pump alarm : Bool) : State :=
  let s1 := s.modAda fun a => { a.update s.cfg.line s.clock with hpu := .online, pump := pump }
  let s2 :=
    if alarm && !s.ada.alarm then
      (s1.modAda fun a => { a with alarm := true, r := 0, c := 0 }).post .admissionBlocked .hpu none
        (.blocked .alarm)
    else if !alarm && s.ada.alarm then s1.modAda fun a => { a with alarm := false }
    else s1
  let s3 :=
    if alarm ≠ s.ada.reportedAlarm then
      (s2.post .hpuAlarm .hpu none (.alarm alarm)).modAda fun a => { a with reportedAlarm := alarm }
    else s2
  s3.adaEvaluate

/-- The HPU node is LOST (R99). -/
def State.hpuLost (s : State) : State :=
  let s1 := s.modAda fun a => { a.update s.cfg.line s.clock with hpu := .lost, pump := false }
  let s2 :=
    if s.ada.alarm then s1
    else
      (s1.modAda fun a => { a with alarm := true, r := 0, c := 0 }).post .admissionBlocked .hpu none
        (.blocked .hpuLost)
  s2.adaEvaluate

/-! ## Owners (00 section 3.2, R163, R164) -/

/-- The owner takes a state notice other than LOST; `isReturn` marks the return from LOST. -/
def State.ownerNotice (s : State) (r : Role) (st : NodeStatus) (isReturn : Bool) : State :=
  match r with
  | .drive k => s.modSeg k fun g => { g with node := st }
  | .station n => s.modStation n fun x => { x with node := st }
  | .conveyor c => s.convNotice c st isReturn
  | .reader => s
  | .verify => s.modRtu fun x => { x with node := st }
  | .hpu => s.modAda fun a => { a with hpu := st }

/-- The owner is told that its node is LOST. -/
def State.ownerLost (s : State) (r : Role) : State :=
  match r with
  | .drive k => s.driveLost k
  | .station n => s.sqsLost n
  | .conveyor c => s.convLost c
  | .reader => s
  | .verify => s.modRtu fun x => { x with node := .lost }
  | .hpu => s.hpuLost

/-- The owner is told that its command was delivered (R167). -/
def State.ownerDelivered (s : State) (r : Role) (code : CmdCode) : State :=
  match r with
  | .drive k => s.driveDelivered k code
  | .station n => s.sqsDelivered n code
  | .conveyor _ => s.releaseDelivered
  | .verify => s.checkDelivered
  | .reader | .hpu => s

/-- The owner is told that its command was refused (R167). -/
def State.ownerRefused (s : State) (r : Role) (code : CmdCode) : State :=
  match r with
  | .drive k => s.driveRefused k code
  | .station n => s.sqsRefused n code
  | .conveyor _ => s.releaseRefused
  | .verify => s.checkRefused
  | .reader | .hpu => s

/-- The owner takes a report (R172). -/
def State.ownerReport (s : State) (r : Role) (rep : Report) : State :=
  match r, rep with
  | .drive k, .drive p => s.driveReport k p
  | .station n, .station st code => s.sqsReport n st code
  | .conveyor c, .conveyor count jam head => s.conveyorReport c count jam head
  | .reader, .reader seq value => s.readerReport seq value
  | .verify, .verify st seq => s.verifyReport st seq
  | .hpu, .hpu pump alarm => s.hpuReport pump alarm
  | _, _ => s

/-! ## Poll outcomes (R163, R164, R167, R171) -/

/-- The subject that NODE_LOST and NODE_BACK carry (R163 note 1). -/
def Role.subject : Role → Subject
  | .drive k => Subject.segment k
  | .station n => Subject.station n
  | .conveyor c => Subject.conveyor c
  | .reader => Subject.reader
  | .verify => Subject.verify
  | .hpu => Subject.hpu

/-- The echo decides the pending command: it has been transmitted, with this toggle and code (R167). -/
def Node.decided (n : Node) (e : Echo) : Option CmdCode :=
  match n.pending with
  | some c => if c.sent = some e.toggle && e.code = some c.code then some c.code else none
  | none => none

/-- The state notice of a good reply (R163). -/
def State.nodeAnswers (s : State) (a : Nat) (n : Node) : State :=
  let s1 := s.modNode a fun x => { x with state := .online, misses := 0 }
  match n.state with
  | .online => s1
  | .unseen | .missing => s1.ownerNotice n.role .online false
  | .lost => (s1.post .nodeBack n.role.subject none (.address a)).ownerNotice n.role .online true

/-- The echo becomes the echo image, ends a resync, and may decide the pending command (R167, R171). -/
def State.nodeEchoes (s : State) (a : Nat) (n : Node) (e : Echo) : State :=
  match n.decided e with
  | none => s.modNode a fun x => { x with echo := some e, resync := false }
  | some code =>
    let s1 := s.modNode a fun x => { x with echo := some e, resync := false, pending := none }
    if e.refused then s1.ownerRefused n.role code else s1.ownerDelivered n.role code

/-- A good reply: state notice, outcome and report, in this order (R164). -/
def State.goodReply (s : State) (a : Nat) (n : Node) (e : Echo) (rep : Report) : State :=
  (((s.nodeAnswers a n).nodeEchoes a n e).modNode a fun x =>
    { x with report := some rep }).ownerReport n.role rep

/-- A node goes LOST: NODE_LOST is posted and the owner told; DESIGN CHOICE for the order of their events,
log entry 24. -/
def State.nodeLost (s : State) (a : Nat) (n : Node) (misses : Nat) : State :=
  ((s.modNode a fun x => { x with state := .lost, misses := misses }).post .nodeLost n.role.subject none
    (.address a)).ownerLost n.role

/-- A miss (R163). -/
def State.nodeMisses (s : State) (a : Nat) (n : Node) : State :=
  let limit := s.cfg.bus.missLimit
  match n.state with
  | .unseen | .lost => s
  | .online =>
    if limit ≤ 1 then s.nodeLost a n 1
    else
      (s.modNode a fun x => { x with state := .missing, misses := 1 }).ownerNotice n.role .missing false
  | .missing =>
    if limit ≤ n.misses + 1 then s.nodeLost a n (n.misses + 1)
    else s.modNode a fun x => { x with misses := n.misses + 1 }

/-- The response window is over. -/
def State.closeWindow (s : State) : State := s.modSbm fun b => { b with window := none }

/-- A reply that started in the response window is judged (R162); outside a window it is ignored. -/
def State.replyHeard (s : State) (chars : List BusChar) : State :=
  match s.sbm.window with
  | none => s
  | some w =>
    match s.node w.address with
    | none => s.closeWindow
    | some n =>
      match judgeReply w.address n.role chars with
      | some (e, rep) => s.closeWindow.goodReply w.address n e rep
      | none => s.closeWindow.nodeMisses w.address n

/-- The response window ends with no reply started: a miss, unless HALT had closed it (R162, R170). -/
def State.windowExpires (s : State) : State :=
  match s.sbm.window with
  | none => s
  | some w =>
    if w.cut then s.closeWindow
    else
      match s.node w.address with
      | none => s.closeWindow
      | some n => s.closeWindow.nodeMisses w.address n

/-! ## Entry into HALT (R170) -/

/-- The commands that the entry into HALT supersedes at a role's node (R170). -/
def Role.haltSupersedes : Role → CmdCode → Bool
  | .drive _, .resetFault => false
  | .drive _, _ => true
  | .conveyor .vs, .release => true
  | .verify, .check => true
  | _, _ => false

/-- The owner is told that its command was superseded at HALT. -/
def State.ownerSuperseded (s : State) (r : Role) (code : CmdCode) : State :=
  match r with
  | .drive k => s.driveSuperseded k code
  | .conveyor _ => s.releaseSuperseded
  | .verify => s.checkSuperseded
  | .station _ | .reader | .hpu => s

/-- One node at the entry into HALT: its command is superseded and resync set. -/
def State.haltNode (s : State) (a : Nat) : State :=
  match s.node a with
  | none => s
  | some n =>
    match n.pending with
    | none => s
    | some c =>
      if n.role.haltSupersedes c.code then
        (s.modNode a fun x => { x with pending := none, resync := true }).ownerSuperseded n.role c.code
      else s

/-- A scan that the ESTOP broadcast has cut into. -/
def Scan.cutInto : Scan → Scan
  | .silent => .silent
  | .scanning next _ => .scanning next true
  | .ending => .ending

/-- SBM at an UNCOMMIT (R159): the node table, every pending command and the schedule are discarded at once,
with the response window, so that a reply still arriving is ignored; a scan in progress ends with its slot, and
the characters sent stand until then. -/
def Sbm.uncommitted (b : Sbm) : Sbm :=
  match b.scan with
  | .silent => .reset
  | .scanning _ _ | .ending =>
    { nodes := [], schedule := [], scan := .ending, window := none, tx := b.tx }

/-- SBM's part of the entry into HALT (R170): the broadcast, and the supersessions by ascending address. -/
def State.haltBus (s : State) : State :=
  let s1 := s.modSbm fun b =>
    { b with scan := b.scan.cutInto, window := b.window.map fun w => { w with cut := true },
             tx := estopBroadcast }
  forEach (fun a x => x.haltNode a) (s1.sbm.nodes.map (·.1)) s1

/-! ## The node table at COMMIT (R159) -/

/-- A node-table entry as COMMIT creates it. -/
def Node.fresh (r : Role) : Node :=
  { role := r, state := .unseen, misses := 0, echo := none, pending := none, resync := false,
    report := none }

/-- One entry for each role address, by ascending address. -/
def nodeTable : List (Nat × Role) → List (Nat × Node)
  | [] => []
  | (a, r) :: rest => tableInsert a (Node.fresh r) (nodeTable rest)

/-- SBM after COMMIT: the tables, and the first scan begun (R159, R160). -/
def Sbm.committed (roles : List (Nat × Role)) (slots : List Nat) : Sbm :=
  { nodes := nodeTable roles, schedule := slots, scan := .scanning 0 false, window := none,
    tx := syncBroadcast }

end Sys2Proof.Machine
end

