-- ==== Sys2Proof/Machine/Commit.lean ====
section
/-! DEFINITION. COMMIT's eleven checks (R10 to R15) and the tables it derives (R8, R9, R12, R16). -/

namespace Sys2Proof.Machine

/-! ## The line in service -/

/-- The numbers 1 to `n`. -/
def upTo (n : Nat) : List Nat := List.range' 1 n

def ConfigStore.seg (c : ConfigStore) (k : Nat) : SegmentRecord :=
  (tableGet k c.segments).getD .default

/-- Elements of the loop (R8). -/
inductive Element where
  | seg (k : Nat)
  | conv (c : ConvId)
  deriving DecidableEq, Repr

/-- The elements of the line in flow order with their run lengths (R8). -/
def ConfigStore.elements (c : ConfigStore) : List (Element × Nat) :=
  ((upTo c.line.nseg).flatMap fun k =>
    (Element.seg k, (c.seg k).nests) ::
      (if k < c.line.nseg then [(Element.conv (bufferId k), c.line.capacity (bufferId k))] else []))
    ++ [(Element.conv .vs, c.line.capVs), (Element.conv .rc, c.line.capRc)]

/-- Each element's first position and run length (R9). -/
def runsFrom (pos : Nat) : List (Element × Nat) → List (Element × Nat × Nat)
  | [] => []
  | (e, len) :: rest => (e, pos, len) :: runsFrom (pos + len) rest

def segRunsOf : List (Element × Nat × Nat) → List (Nat × Nat × Nat)
  | [] => []
  | (.seg k, r) :: rest => (k, r) :: segRunsOf rest
  | (.conv _, _) :: rest => segRunsOf rest

def convRunsOf : List (Element × Nat × Nat) → List (ConvId × Nat × Nat)
  | [] => []
  | (.conv c, r) :: rest => (c, r) :: convRunsOf rest
  | (.seg _, _) :: rest => convRunsOf rest

/-- The roles of the line in role order with their node addresses (R12). -/
def ConfigStore.roles (c : ConfigStore) : List (Nat × Role) :=
  (upTo c.line.nseg).map (fun k => ((c.seg k).nodeDrive, Role.drive k))
    ++ c.stations.map (fun p => (p.2.node, Role.station p.1))
    ++ (convsInService c.line.nseg).map (fun v => (c.line.convNode v, Role.conveyor v))
    ++ [(c.line.nodeReader, .reader), (c.line.nodeVerify, .verify), (c.line.nodeHpu, .hpu)]

/-- The tables that COMMIT derives (R9, R16). -/
def ConfigStore.derive (c : ConfigStore) : Derived :=
  let runs := runsFrom 0 c.elements
  { segRuns := segRunsOf runs, convRuns := convRunsOf runs,
    p := (c.elements.map (·.2)).sum, roles := c.roles }

/-! ## The checks -/

/-- The first number of a list for which `p` holds. -/
def firstWhere (p : Nat → Bool) : List Nat → Option Nat
  | [] => none
  | n :: rest => if p n then some n else firstWhere p rest

/-- Check 1 fails at a station that stands outside the segments and nests in service (R11). -/
def ConfigStore.check1 (c : ConfigStore) : Option Subject :=
  (c.stations.find? fun p =>
    c.line.nseg < p.2.segment || (c.seg p.2.segment).nests < p.2.nest).map fun p => Subject.station p.1

/-- The first station, in ascending order, that stands on a nest of an earlier one. -/
def firstShared (seen : List (Nat × Nat)) : List (Nat × StationRecord) → Option Nat
  | [] => none
  | (n, r) :: rest =>
    if seen.contains (r.segment, r.nest) then some n
    else firstShared ((r.segment, r.nest) :: seen) rest

/-- Check 2 (R11). -/
def ConfigStore.check2 (c : ConfigStore) : Option Subject :=
  (firstShared [] c.stations).map Subject.station

/-- Exactly one station of a kind, standing on a nest (R11). -/
def ConfigStore.single (c : ConfigStore) (kind : StationKind) (segment nest : Nat) : Option Subject :=
  match c.stations.filter fun p => p.2.kind = kind with
  | [] => some Subject.line
  | [(n, r)] => if r.segment = segment && r.nest = nest then none else some (Subject.station n)
  | _ :: (n, _) :: _ => some (Subject.station n)

/-- Check 3: the LOAD station at S1.N1 (R11). -/
def ConfigStore.check3 (c : ConfigStore) : Option Subject := c.single .load 1 1

/-- Check 4: the UNLOAD station at the exit nest of the last segment (R11). -/
def ConfigStore.check4 (c : ConfigStore) : Option Subject :=
  c.single .unload c.line.nseg (c.seg c.line.nseg).nests

/-- Check 5: every role has an address (R12). -/
def ConfigStore.check5 (c : ConfigStore) : Option Subject :=
  (c.roles.find? fun p => p.1 = 0).map fun p => p.2.subject

/-- The first role whose address an earlier one names. -/
def firstRepeated (seen : List Nat) : List (Nat × Role) → Option Role
  | [] => none
  | (a, r) :: rest => if seen.contains a then some r else firstRepeated (a :: seen) rest

/-- Check 6: no two roles name one address (R12). -/
def ConfigStore.check6 (c : ConfigStore) : Option Subject :=
  (firstRepeated [] c.roles).map Role.subject

/-- Check 7: every role address stands in a slot (R13). -/
def ConfigStore.check7 (c : ConfigStore) : Option Subject :=
  (c.roles.find? fun p => !c.bus.slots.contains p.1).map fun p => p.2.subject

/-- The first slot, from number `i`, that is enabled and holds no role address. -/
def firstStray (addresses : List Nat) (i : Nat) : List Nat → Option Nat
  | [] => none
  | a :: rest =>
    if a ≠ 0 && !addresses.contains a then some i else firstStray addresses (i + 1) rest

/-- Check 8: every enabled slot holds a role address (R13). -/
def ConfigStore.check8 (c : ConfigStore) : Option Subject :=
  (firstStray (c.roles.map (·.1)) 0 c.bus.slots).map fun i => { kind := .slot, number := i }

/-- Check 9: the largest demand with the floor fits Cap (R14). -/
def ConfigStore.check9 (c : ConfigStore) : Option Subject :=
  (firstWhere (fun k =>
    c.line.cap < (c.seg k).l + (c.seg k).k * (c.seg k).nests + c.line.f)
    (upTo c.line.nseg)).map Subject.segment

/-- Check 10: a poll and its reply fit a slot (R15). -/
def ConfigStore.check10 (c : ConfigStore) : Option Subject :=
  if (c.bus.deLead + 165 + c.bus.deLag) * c.bus.bitRate.bitTime + c.bus.tResponse
      ≤ c.bus.slotTime * 1000 then none
  else some Subject.line

/-- The scan period in µs (R15). -/
def ConfigStore.scanPeriod (c : ConfigStore) : Nat :=
  33 * c.bus.bitRate.bitTime + c.bus.scanOffset * 1000
    + c.bus.slots.length * c.bus.slotTime * 1000

/-- Check 11: the scan period (R15). -/
def ConfigStore.check11 (c : ConfigStore) : Option Subject :=
  if c.scanPeriod ≤ 1000000 ∧ c.scanPeriod < c.line.tRead * 1000 then none else some Subject.line

/-- The first failing check, numbered from `i`. -/
def firstFailing (i : Nat) : List (Option Subject) → Option (Nat × Subject)
  | [] => none
  | some subject :: _ => some (i, subject)
  | none :: rest => firstFailing (i + 1) rest

/-- The outcome of the checks in number order (R10). -/
def ConfigStore.failure (c : ConfigStore) : Option (Nat × Subject) :=
  firstFailing 1 [c.check1, c.check2, c.check3, c.check4, c.check5, c.check6, c.check7, c.check8,
    c.check9, c.check10, c.check11]

/-! ## Putting the configuration into service (R16) -/

/-- The Nest Map as COMMIT creates it (R24). -/
def Trk.committed (t : Trk) (c : ConfigStore) : Trk :=
  { pallets := t.pallets,
    segs := (upTo c.line.nseg).map fun k =>
      (k, { nests := List.replicate (c.seg k).nests none, certainty := .certain, openIndex := none }),
    lists := (convsInService c.line.nseg).map fun v => (v, []),
    tag := .none, readerImage := none }

/-- Every block's state as COMMIT sets it, with the line still in CONFIG (R16, R24, R46, R71, R96, R114,
R129, R145, R159). -/
def State.putIntoService (s : State) : State :=
  let c := s.cfg
  { s with
    cfg := { c with committed := true, derived := some c.derive },
    trk := s.trk.committed c,
    rtu := { Rtu.reset with serial := c.line.firstSerial },
    sqs := { stations := c.stations.map fun p => (p.1, Station.fresh),
             common := (upTo c.line.nseg).map fun k => (k, .none) },
    sc := (upTo c.line.nseg).map fun k => (k, Segment.fresh),
    ada := { Ada.reset with tLast := s.clock },
    cvt := { convs := (convsInService c.line.nseg).map fun v => (v, Conveyor.fresh),
             passOver := 0, staleRelease := false },
    sbm := Sbm.committed c.roles c.bus.slots,
    lsv := { s.lsv with mode := .auto, permits := (upTo c.line.nseg).map fun k => (k, false) } }

end Sys2Proof.Machine
end

