-- ==== Sys2Proof/Machine/Supervisor.lean ====
section
/-! DEFINITION. The Line Supervisor: changes of line state (R145 to R156), settled notices and the end of
STOPPING (R94, R148, R149), entry into HALT (R151 to R153), and the resets. -/

namespace Sys2Proof.Machine

/-! ## Line state and its event (R146) -/

/-- The line state changes and LINE_STATE is posted. -/
def State.enterLine (s : State) (st : LineState) (cause : LineCause) : State :=
  (s.modLsv fun l => { l with lineState := st }).post .lineState .line none (.lineState st cause)

/-! ## Settled notices (R94, R48, R149) -/

/-- Every station is settled (R48). -/
def State.stationsAllSettled (s : State) : Bool := s.sqs.stations.all fun p => p.2.settled

/-- LSV holds the last notices of the Segment Controllers and of SQS. -/
def State.takeNotices (s : State) : State :=
  s.modLsv fun l =>
    { l with segSettled := s.sc.map fun p => (p.1, p.2.settled),
             stationsSettled := some s.stationsAllSettled }

/-- The condition for leaving STOPPING (R149). -/
def Lsv.allSettled (l : Lsv) : Bool :=
  l.segSettled.all (·.2) && l.stationsSettled = some true

/-- STOPPING ends: IDLE, and segments in WORK or READY go to OFF (R149, R94). -/
def State.leaveStopping (s : State) : State :=
  let s1 := s.enterLine .idle .settled
  { s1 with sc := s1.sc.map fun p => (p.1, p.2.rest) }

/-- The end of an event outside CONFIG: the notices are taken, and a settled STOPPING line enters IDLE in
the same event (R148, R149); DEDUCED for the place of the test, log entry 12. -/
def State.closeEvent (s : State) : State :=
  if s.lsv.lineState = .config then s
  else
    let s1 := s.takeNotices
    if s1.lsv.lineState = .stopping && s1.lsv.allSettled then s1.leaveStopping else s1

/-! ## HALT (R152) -/

/-- Entry into HALT: LINE_STATE, then each block's part in the order of R152's table; DESIGN CHOICE for
the order of the blocks, log entry 11. -/
def State.enterHalt (s : State) (cause : LineCause) : State :=
  let s1 := (s.enterLine .halt cause).haltBus
  let s2 := forEach (fun k x => x.haltSegment k) s1.segNumbers s1
  s2.haltStations.stopTravel

/-- The ESTOP image takes an accepted level, and the filter of ESTOP_IN counts anew (R151, R189). -/
def State.setEstop (s : State) (asserted : Bool) : State :=
  { s with estopHeld := 0, lsv := { s.lsv with estop := asserted } }

/-- An assertion of ESTOP_IN (R151). -/
def State.estopOn (s : State) : State :=
  if s.lsv.estop then s
  else
    let s1 := (s.setEstop true).post .estopOn .line none .none
    match s.lsv.lineState with
    | .idle | .run | .stopping => s1.enterHalt .estop
    | .config | .halt => s1

/-- A release of ESTOP_IN (R151). -/
def State.estopOff (s : State) : State :=
  if s.lsv.estop then (s.setEstop false).post .estopOff .line none .none else s

/-- The filter of ESTOP_IN may accept a change of level: 2 ms or more have passed since it accepted the level
in force, or since the reset, in which the new level can have held for 2 ms (R189); DESIGN CHOICE for a change
offered earlier, log entry 15. -/
def State.filterPasses (s : State) : Bool := Config.estopFilter ≤ s.estopHeld

/-! ## COMMIT and UNCOMMIT -/

/-- The bus at a COMMIT taken while ESTOP_IN is asserted: the first scan begins with SCAN_SYNC and the
ESTOP broadcast (R171). -/
def State.firstScanInHalt (s : State) : State :=
  s.modSbm fun b =>
    { b with scan := .scanning 0 false, window := none, tx := syncBroadcast ++ estopBroadcast }

/-- A successful COMMIT (R16, R151); DESIGN CHOICE for the entry into HALT at an ESTOP image that stood ASSERTED,
which posts LINE_STATE and no second ESTOP_ON, log entry 39. -/
def State.commitLine (s : State) : State :=
  let s1 := (s.putIntoService).enterLine .idle .commit
  if s.lsv.estop then (s1.enterHalt .estop).firstScanInHalt else s1

/-- UNCOMMIT (R155, R24, R96, R129, R159). -/
def State.uncommitLine (s : State) : State :=
  let s1 := s.enterLine .config .uncommit
  { s1 with
    cfg := { s.cfg with committed := false, derived := none },
    trk := { pallets := s.trk.pallets.map fun p => (p.1, { p.2 with placement := none }),
             segs := [], lists := [], tag := .none, readerImage := none },
    rtu := { Rtu.reset with serial := s.rtu.serial },
    sqs := .reset, sc := [], ada := .reset, cvt := .reset, sbm := s.sbm.uncommitted,
    lsv := { s1.lsv with segSettled := [], stationsSettled := none, permits := [] } }

/-! ## START, STOP, MODE, RECOVER -/

/-- START's change (R147, R128); DESIGN CHOICE for the order of the blocks, the Segment Controllers ascending,
TRK, CVT, RTU, log entry 38. -/
def State.startLine (s : State) (m : Mode) : State :=
  let s1 := (s.modLsv fun l => { l with mode := m }).enterLine .run .start
  let s2 := forEach (fun k x => x.startSegment k) s1.segNumbers s1
  ((s2.closeEdited).grantPass .rc).tryCheck

/-- STOP's change (R148); the settled test follows at the end of the event. -/
def State.stopLine (s : State) : State :=
  let s1 := s.enterLine .stopping .stop
  let s2 := forEach (fun k x => x.stopSegment k) s1.segNumbers s1
  (s2.grantPass .rc).tryCheck

/-- MODE at one segment (R150): in STEP a QUEUED segment without a permit withdraws; otherwise the
readiness test is made. -/
def State.modeSegment (s : State) (k : Nat) : State :=
  if s.lsv.mode = .step && !s.permit k && (s.seg k).state = .queued then s.scWithdraw k .ready true
  else s.scTest k

/-- MODE's change (R150); DESIGN CHOICE for the order of the segments, ascending, log entry 38. -/
def State.modeLine (s : State) (m : Mode) : State :=
  if s.lsv.mode = m then s
  else
    let s1 := s.modLsv fun l => { l with mode := m }
    forEach (fun k x => x.modeSegment k) s1.segNumbers s1

/-- A STEP GRANT at one segment: a clear permit is set, which is an input of the readiness test (R93). -/
def State.grantPermit (s : State) (k : Nat) : State :=
  if s.permit k then s else (s.setPermit k true).scTest k

/-- RECOVER's change (R154). -/
def State.recoverLine (s : State) : State :=
  ((s.enterLine .idle .recover).recoverStations).restartTravel

/-! ## Resets (R145, R189) -/

/-- The part after a hardware reset with the pins at the given levels; the waiting commands are the
model's own and stay. -/
def State.afterReset (waiting : List Instr) (estopAsserted : Bool) (br : BitVec 2) : State :=
  let s1 := { State.reset with pending := waiting, clp := { Clp.reset with rate := br } }
  if estopAsserted then s1.estopOn else s1

end Sys2Proof.Machine
end

