-- ==== Sys2Proof/Machine/Flags.lean ====
section
/-! DEFINITION. The levels and status values that are functions of the state: RDY (R176), ATN (R186), the
wait reason of a segment (R182), the STEP permits a mask names (R93). -/

namespace Sys2Proof.Machine

/-- RDY: the request queue has room (R176). -/
def State.rdy (s : State) : Bool := s.clp.requests.length < Config.requestQueueCapacity

/-- ATN: the Event Queue holds a record (R186). -/
def State.atn (s : State) : Bool := !s.clp.events.isEmpty

/-- The levels of the output lines (11 section 11.5). TXD, BTX and BDE are none where the model does not hold
their level, since a bit of a frame and a character of a poll have no extent in its time (log entry 15). -/
structure Outputs where
  txd : Option Bool
  rdy : Bool
  atn : Bool
  btx : Option Bool
  bde : Option Bool
  deriving DecidableEq, Repr

/-- The output lines under a level of RESETn: while it is low every output and BDE are held low (R189), and on a
silent bus BDE is not driven (R159). A HARDWARE_RESET command is the whole low pulse, so every state stands at a
high RESETn. -/
def State.outputs (s : State) (resetnHigh : Bool) : Outputs :=
  if resetnHigh then
    { txd := none, rdy := s.rdy, atn := s.atn, btx := none,
      bde := if s.sbm.scan = .silent then some false else none }
  else { txd := some false, rdy := false, atn := false, btx := some false, bde := some false }

/-- The wait reasons, in the order of R182's table. -/
inductive WaitReason where
  | none | line | hold | trackHold | permit | noPallet | room | feed
  deriving DecidableEq, Repr

/-- The wait reason's code; DESIGN CHOICE, log entry 7. -/
def WaitReason.code : WaitReason → Nat
  | .none => 0 | .line => 1 | .hold => 2 | .trackHold => 3 | .permit => 4 | .noPallet => 5
  | .room => 6 | .feed => 7

/-- The room is HELD. -/
def Room.isHeld : Room → Bool
  | .held _ => true
  | _ => false

/-- The wait reason of a segment: in READY the first that holds, otherwise NONE (R182). -/
def State.waitReason (s : State) (k : Nat) : WaitReason :=
  let g := s.seg k
  if g.state ≠ .ready then .none
  else if s.lsv.lineState ≠ .run then .line
  else if g.held then .hold
  else if g.trackHold then .trackHold
  else if s.lsv.mode = .step && !s.permit k then .permit
  else if occupied (s.nests k) = 0 && (s.arrivedHead (upstreamOf k)).isNone then .noPallet
  else if (s.exitPallet k).isSome && !g.room.isHeld then .room
  else if g.feedWait.isSome then .feed
  else .none

/-- The segments a mask names, ascending: bit 0 for S1 up to bit 3 for S4 (11 section 11.1). -/
def maskSegments (mask : Byte) : List Nat :=
  (upTo 4).filter fun k => mask.getLsbD (k - 1)

/-- A segment mask is refused: a bit above bit 3, none named, or one above NSEG (R83, R93, R187). -/
def maskRefused (nseg : Nat) (mask : Byte) : Bool :=
  16 ≤ mask.toNat || (maskSegments mask).isEmpty || (maskSegments mask).any fun k => nseg < k

end Sys2Proof.Machine
end

