-- ==== Sys2Proof/Machine/Operands.lean ====
section
/-! DEFINITION. The fields of the request bodies: their widths, the range checks of the SET requests (R3 to
R7), and the bytes a request type requires (11 section 11.2). -/

namespace Sys2Proof.Machine

/-! ## Fields -/

/-- The numbers that fields of the given widths spell, in field order. -/
def parseFields : List Nat → List Byte → List Nat
  | [], _ => []
  | w :: rest, bs => beNat (bs.take w) :: parseFields rest (bs.drop w)

/-- The number of the first field outside its range, from field `i` (R3). -/
def firstOutside (i : Nat) : List (Nat × Nat) → List Nat → Option Nat
  | (lo, hi) :: ranges, v :: values =>
    if v < lo || hi < v then some i else firstOutside (i + 1) ranges values
  | _, _ => none

/-- The value of field `no`, numbered from 1. -/
def field (values : List Nat) (no : Nat) : Nat := (values[no - 1]?).getD 0

/-- The byte at an index of a body. -/
def byteAt (body : List Byte) (i : Nat) : Nat := ((body[i]?).getD 0).toNat

/-! ## LINE SET (R4) -/

/-- Field widths of the LINE record (01 section 1.2, 11 section 11.1): 57 bytes. -/
def lineWidths : List Nat :=
  [1, 1, 1, 1, 1, 1, 4, 4, 4, 4, 4, 1, 1, 1, 1, 1, 1, 1, 1, 2, 2, 2, 1, 2, 2, 4, 2, 1, 1, 1, 1, 2]

/-- The range of a node's address; 0 leaves the role without one (R4). -/
abbrev addressRange : Nat × Nat := (0, 62)

/-- Ranges of the LINE record's fields; F is held to the Cap of the same request. -/
def lineRanges (cap : Nat) : List (Nat × Nat) :=
  [(1, 4), (1, 8), (1, 8), (1, 8), (1, 4), (4, 24),
   (1000, 120000), (1000, 120000), (1000, 120000), (1000, 120000), (1000, 120000),
   addressRange, addressRange, addressRange, addressRange, addressRange, addressRange, addressRange,
   addressRange, (1000, 60000), (0, cap - 1), (100, 20000), (1, 6), (500, 60000), (0, 10000), (1000, 120000),
   (100, 5000), (1, 64), (0, 16), (1, 8), (0, 1), (1, 65535)]

/-- The LINE record of a body's values. -/
def lineRecordOf (v : List Nat) : LineRecord :=
  { nseg := field v 1, capB1 := field v 2, capB2 := field v 3, capB3 := field v 4,
    capVs := field v 5, capRc := field v 6,
    travelB1 := field v 7, travelB2 := field v 8, travelB3 := field v 9, travelVs := field v 10,
    travelRc := field v 11,
    nodeB1 := field v 12, nodeB2 := field v 13, nodeB3 := field v 14, nodeVs := field v 15,
    nodeRc := field v 16, nodeReader := field v 17, nodeVerify := field v 18, nodeHpu := field v 19,
    cap := field v 20, f := field v 21, q := field v 22, wMax := field v 23, tWindow := field v 24,
    tStagger := field v 25, tUrgent := field v 26, tRead := field v 27, vLaps := field v 28,
    vGrace := field v 29, m := field v 30, skipRejects := field v 31 = 1,
    firstSerial := field v 32 }

/-- The first LINE field that fails (R3, R4). -/
def lineFailure (v : List Nat) : Option Nat := firstOutside 1 (lineRanges (field v 20)) v

/-! ## SEGMENT SET (R5) -/

/-- Field widths of the SEGMENT record: 23 bytes. -/
def segmentWidths : List Nat := [1, 1, 1, 2, 2, 4, 2, 2, 2, 2, 2, 2]

def segmentRanges : List (Nat × Nat) :=
  [(1, 4), (2, 12), (0, 62), (0, 20000), (0, 2000), (1000, 600000), (0, 60000), (200, 20000),
   (200, 30000), (200, 30000), (200, 30000), (200, 30000)]

def segmentRecordOf (v : List Nat) : SegmentRecord :=
  { nests := field v 2, nodeDrive := field v 3, l := field v 4, k := field v 5,
    tIndexMin := field v 6, tFeedWait := field v 7, tReleaseCommon := field v 8,
    tLiftMax := field v 9, tAdvanceMax := field v 10, tLowerMax := field v 11,
    tReturnMax := field v 12 }

def segmentFailure (v : List Nat) : Option Nat := firstOutside 1 segmentRanges v

/-! ## STATION SET (R6) -/

/-- Field widths of the STATION record: 21 bytes. -/
def stationWidths : List Nat := [1, 1, 1, 1, 1, 1, 1, 2, 2, 4, 4, 2]

/-- KIND's codes: NONE 0, LOAD 1, UNLOAD 2, MACHINE 3 (01 section 1.4). -/
def StationKind.ofCode : Nat → Option StationKind
  | 1 => some .load | 2 => some .unload | 3 => some .machine | _ => none

/-- Ranges of the STATION record's fields, with the two conditions of R6: MASK is full for LOAD and UNLOAD,
and T_cycle_max is greater than T_cycle_min. -/
def stationRanges (kind cycleMin : Nat) : List (Nat × Nat) :=
  [(1, 32), (0, 3), (1, 4), (1, 12), (1, 62), (if kind = 3 then 1 else 15, 15), (0, 1), (0, 5000),
   (100, 30000), (0, 600000), (max 1000 (cycleMin + 1), 600000), (100, 30000)]

def stationRecordOf (kind : StationKind) (v : List Nat) : StationRecord :=
  { kind := kind, segment := field v 3, nest := field v 4, node := field v 5,
    mask := BitVec.ofNat 4 (field v 6), autoRelease := field v 7 = 1, tSettle := field v 8,
    tClampMax := field v 9, tCycleMin := field v 10, tCycleMax := field v 11,
    tUnclampMax := field v 12 }

/-- The first STATION field that fails; with KIND = NONE only field 1 is examined (R6). -/
def stationFailure (v : List Nat) : Option Nat :=
  if field v 2 = 0 then firstOutside 1 [(1, 32)] v
  else firstOutside 1 (stationRanges (field v 2) (field v 10)) v

/-! ## BUS SET (R7) -/

/-- Widths of the fixed BUS fields: 9 bytes. -/
def busWidths : List Nat := [1, 1, 1, 2, 1, 1, 1, 1]

def busRanges : List (Nat × Nat) :=
  [(0, 2), (0, 31), (0, 31), (100, 5000), (2, 20), (0, 20), (1, 48), (1, 8)]

/-- The bytes of a BUS body after its fixed fields. -/
def busSlots (body : List Byte) : List Nat := (body.drop 9).map (·.toNat)

/-- The first BUS field that fails: the fixed fields, the slot entries, then an entry beyond S (R7). -/
def busFailure (v slots : List Nat) : Option Nat :=
  match firstOutside 1 busRanges v with
  | some i => some i
  | none =>
    match firstOutside 9 (List.replicate (field v 7) (0, 62)) slots with
    | some i => some i
    | none => if field v 7 < slots.length then some (9 + field v 7) else none

def busRecordOf (v slots : List Nat) : BusRecord :=
  { bitRate := (BitRate.ofCode (field v 1)).getD .r500000, deLead := field v 2, deLag := field v 3,
    tResponse := field v 4, slotTime := field v 5, scanOffset := field v 6, missLimit := field v 8,
    slots := slots }

/-! ## Body lengths (R177, 11 section 11.2) -/

/-- The bytes a request of the type requires in its body; none for an unknown type. -/
def bodyRequired (type : Byte) (body : List Byte) : Option Nat :=
  match type.toNat with
  | 0x10 => some 57
  | 0x11 => some 23
  | 0x12 => some 21
  | 0x13 => some (9 + byteAt body 7)
  | 0x14 | 0x15 | 0x22 | 0x23 | 0x24 | 0x28 | 0x45 | 0x61 => some 0
  | 0x20 | 0x21 | 0x25 | 0x26 | 0x27 | 0x31 | 0x41 | 0x42 | 0x44 | 0x60 | 0x62 => some 1
  | 0x30 | 0x32 | 0x40 | 0x43 | 0x47 | 0x50 => some 2
  | 0x46 => some (if byteAt body 1 = 2 then 4 + byteAt body 3 else 2)
  | _ => none

end Sys2Proof.Machine
end

