-- ==== Sys2Proof/Machine/Requests.lean ====
section
/-! DEFINITION. The requests at their owners (R181): each gives the state after the request and its
answer. An answer other than OK leaves the state as it was (R179). Where a rule names no field number an
ARG answer carries 0, and where it is an enumerated field or a mask bit above bit 3 it carries that field's
number (R179, R187); DEDUCED, log entry 6. Line states are checked first; DEDUCED, log entry 9. -/

namespace Sys2Proof.Machine

/-- A line state among those a request is accepted in. -/
def State.lineIn (s : State) (l : List LineState) : Bool := l.contains s.lsv.lineState

/-- OK with no data. -/
def okEmpty : Answer := .ok []

/-! ## Configuration (R3 to R7, R10, R155) -/

def State.requestLineSet (s : State) (body : List Byte) : State × Answer :=
  let v := parseFields lineWidths body
  if s.lsv.lineState ≠ .config then (s, .state)
  else
    match lineFailure v with
    | some i => (s, .arg i)
    | none => ({ s with cfg := { s.cfg with line := lineRecordOf v } }, okEmpty)

def State.requestSegmentSet (s : State) (body : List Byte) : State × Answer :=
  let v := parseFields segmentWidths body
  if s.lsv.lineState ≠ .config then (s, .state)
  else
    match segmentFailure v with
    | some i => (s, .arg i)
    | none =>
      ({ s with cfg := { s.cfg with
          segments := tableInsert (field v 1) (segmentRecordOf v) s.cfg.segments } }, okEmpty)

def State.requestStationSet (s : State) (body : List Byte) : State × Answer :=
  let v := parseFields stationWidths body
  if s.lsv.lineState ≠ .config then (s, .state)
  else
    match stationFailure v with
    | some i => (s, .arg i)
    | none =>
      match StationKind.ofCode (field v 2) with
      | none =>
        ({ s with cfg := { s.cfg with stations := tableErase (field v 1) s.cfg.stations } }, okEmpty)
      | some kind =>
        ({ s with cfg := { s.cfg with
            stations := tableInsert (field v 1) (stationRecordOf kind v) s.cfg.stations } }, okEmpty)

def State.requestBusSet (s : State) (body : List Byte) : State × Answer :=
  let v := parseFields busWidths body
  let slots := busSlots body
  if s.lsv.lineState ≠ .config then (s, .state)
  else
    match busFailure v slots with
    | some i => (s, .arg i)
    | none => ({ s with cfg := { s.cfg with bus := busRecordOf v slots } }, okEmpty)

/-- COMMIT (R10, R16): the reply carries P and the scan period. -/
def State.requestCommit (s : State) : State × Answer :=
  if s.lsv.lineState ≠ .config then (s, .state)
  else
    match s.cfg.failure with
    | some (n, subject) => (s, .check n subject)
    | none =>
      (s.commitLine.closeEvent,
        .ok (byteOf s.cfg.derive.p :: beBytes 4 s.cfg.scanPeriod))

def State.requestUncommit (s : State) : State × Answer :=
  if s.lsv.lineState ≠ .idle then (s, .state) else (s.uncommitLine, okEmpty)

/-! ## The line (R83, R93, R147 to R156) -/

def State.requestStart (s : State) (mode : Nat) : State × Answer :=
  if s.lsv.lineState ≠ .idle then (s, .state)
  else
    match Mode.ofCode mode with
    | none => (s, .arg 1)
    | some m => ((s.startLine m).closeEvent, okEmpty)

def State.requestStop (s : State) : State × Answer :=
  if s.lsv.lineState ≠ .run then (s, .state) else (s.stopLine.closeEvent, okEmpty)

def State.requestMode (s : State) (mode : Nat) : State × Answer :=
  if s.lsv.lineState ≠ .run then (s, .state)
  else
    match Mode.ofCode mode with
    | none => (s, .arg 1)
    | some m => ((s.modeLine m).closeEvent, okEmpty)

/-- The field number of a refused mask. -/
def maskArg (mask : Byte) : Answer := .arg (if 16 ≤ mask.toNat then 1 else 0)

/-- STEP GRANT (R93): the reply carries the "already" flag. DESIGN CHOICE for the order of the segments, ascending,
each permit set and its segment tested before the next one's, log entry 42. -/
def State.requestStepGrant (s : State) (mask : Byte) : State × Answer :=
  if s.lsv.lineState ≠ .run then (s, .state)
  else if maskRefused s.nseg mask then (s, maskArg mask)
  else
    ((forEach (fun k x => x.grantPermit k) (maskSegments mask) s).closeEvent,
      .ok [flagByte ((maskSegments mask).any fun k => s.permit k)])

def State.requestHold (s : State) (mask : Byte) : State × Answer :=
  if !s.lineIn [.run, .stopping] then (s, .state)
  else if maskRefused s.nseg mask then (s, maskArg mask)
  else ((forEach (fun k x => x.holdSegment k) (maskSegments mask) s).closeEvent, okEmpty)

def State.requestContinue (s : State) (mask : Byte) : State × Answer :=
  if !s.lineIn [.run, .stopping] then (s, .state)
  else if maskRefused s.nseg mask then (s, maskArg mask)
  else ((forEach (fun k x => x.continueSegment k) (maskSegments mask) s).closeEvent, okEmpty)

def State.requestHalt (s : State) : State × Answer :=
  match s.lsv.lineState with
  | .config => (s, .state)
  | .halt => (s, okEmpty)
  | .idle | .run | .stopping => ((s.enterHalt .haltRequest).closeEvent, okEmpty)

def State.requestRecover (s : State) : State × Answer :=
  if s.lsv.lineState ≠ .halt then (s, .state)
  else if s.lsv.estop then (s, .interlock)
  else (s.recoverLine.closeEvent, okEmpty)

/-- RESTART (R156): no further frame is taken; the reset follows the reply. -/
def State.requestRestart (s : State) : State × Answer :=
  if !s.lineIn [.config, .idle, .halt] then (s, .state)
  else (s.modClp fun c => { c with restarting := true }, okEmpty)

/-! ## Stations (R62, R64, R65, R66) -/

def stationNumberBad (n : Nat) : Bool := n = 0 || 32 < n

/-- The segment is in LIFT, ADVANCE or LOWER. -/
def State.segmentMoving (s : State) (k : Nat) : Bool := (s.seg k).state.inMotion

/-- The node is LOST or UNSEEN. -/
def NodeStatus.absent : NodeStatus → Bool
  | .lost | .unseen => true
  | _ => false

def State.requestBypassOn (s : State) (n : Nat) : State × Answer :=
  if !s.lineIn [.idle, .run] then (s, .state)
  else if stationNumberBad n then (s, .arg 0)
  else
    match s.stationCfg n with
    | none => (s, .notFound)
    | some r =>
      let st := s.station n
      if r.kind ≠ .machine then (s, .state)
      else if st.state = .skipped then (s, okEmpty)
      else if st.state = .released then
        (((s.stationIdle n .skipped).sqsAfter r.segment).closeEvent, okEmpty)
      else if st.state = .fault && st.reportsUnclamped then
        if (s.stationPending n).isSome then (s, .interlock)
        else (((s.stationIdle n .skipped).sqsAfter r.segment).closeEvent, okEmpty)
      else (s, .state)

def State.requestBypassOff (s : State) (n : Nat) : State × Answer :=
  if !s.lineIn [.idle, .run] then (s, .state)
  else if stationNumberBad n then (s, .arg 0)
  else
    match s.stationCfg n with
    | none => (s, .notFound)
    | some r =>
      let st := s.station n
      if st.state = .released then (s, okEmpty)
      else if st.state = .skipped && !s.segmentMoving r.segment && !st.node.absent
          && (s.stationPending n).isNone then
        if st.reportsUnclamped then
          (((s.stationIdle n .released).sqsAfter r.segment).closeEvent, okEmpty)
        else if st.reportsLockout then
          (((s.stationIdle n .lockout).sqsAfter r.segment).closeEvent, okEmpty)
        else (s, .state)
      else (s, .state)

/-- BYPASS with its setting, OFF 0 and ON 1; DESIGN CHOICE for the codes, log entry 7, and for a setting beyond
them, log entry 37: with a station number outside 1..32 the ARG answer names the number, field 0, and at an empty
station place it is ARG and not NOTFOUND. -/
def State.requestBypass (s : State) (n setting : Nat) : State × Answer :=
  match setting with
  | 0 => s.requestBypassOff n
  | 1 => s.requestBypassOn n
  | _ =>
    if !s.lineIn [.idle, .run] then (s, .state)
    else if stationNumberBad n then (s, .arg 0)
    else (s, .arg 2)

/-- The abort of a job in hand (R62): RETRACT, the outcome, and UNCLAMPING with no timer. -/
def State.abortStation (s : State) (n : Nat) (r : StationRecord) : State :=
  let s1 :=
    if (s.station n).state = .cycle then
      (s.handOn n (.defect .aborted (s.cycleElapsed n))).stationRetract n
    else (s.stationRetract n).handOn n .missed
  (s1.modStation n fun st => { st with state := .unclamping, timer := none }).sqsAfter r.segment

def State.requestAbortCycle (s : State) (n : Nat) : State × Answer :=
  if s.lsv.lineState ≠ .run then (s, .state)
  else if stationNumberBad n then (s, .arg 0)
  else
    match s.stationCfg n with
    | none => (s, .notFound)
    | some r =>
      match (s.station n).state with
      | .clamping | .clamped | .cycle => ((s.abortStation n r).closeEvent, okEmpty)
      | _ => (s, .state)

/-- The way out of a station fault follows the last report (R66). -/
def State.clearStationBy (s : State) (n : Nat) (r : StationRecord) (rep : StationReport) : State :=
  match rep with
  | .unclamped => (s.stationIdle n .released).sqsAfter r.segment
  | .lockout => (s.stationIdle n .lockout).sqsAfter r.segment
  | .clamped | .cycleDone => (s.stationUnclamp n r.tUnclampMax).sqsAfter r.segment
  | .fault =>
    (s.postCmd r.node .resetFault []).modStation n fun st =>
      { st with clearPending := true, timer := some (s.stationTimer .clear r.tUnclampMax) }
  | .cycling => s

/-- The segment's motion forbids the clear, but for UNCLAMPED and LOCKOUT (R66). -/
def State.clearBlocked (s : State) (r : StationRecord) (rep : StationReport) : Bool :=
  rep = .cycling || (s.segmentMoving r.segment && rep ≠ .unclamped && rep ≠ .lockout)

/-- CLEAR FAULT of a station (R66); DESIGN CHOICE for a clear that is pending already, which is answered OK
before the cases of INTERLOCK are looked at, log entry 35. -/
def State.requestClearStation (s : State) (n : Nat) : State × Answer :=
  if !s.lineIn [.idle, .run] then (s, .state)
  else if stationNumberBad n then (s, .arg 0)
  else
    match s.stationCfg n with
    | none => (s, .notFound)
    | some r =>
      let st := s.station n
      if st.state ≠ .fault then (s, .state)
      else if st.clearPending then (s, okEmpty)
      else if st.node.absent || (s.stationPending n).isSome then (s, .interlock)
      else
        match st.report with
        | none => (s, .interlock)
        | some (rep, _) =>
          if s.clearBlocked r rep then (s, .interlock)
          else ((s.clearStationBy n r rep).closeEvent, okEmpty)

/-! ## Segments and conveyors (R91, R124) -/

/-- CLEAR FAULT of a segment (R91); DESIGN CHOICE for a clear that is pending already, which is answered OK
before the cases of INTERLOCK are looked at, log entry 35. -/
def State.requestClearSegment (s : State) (k : Nat) : State × Answer :=
  if k = 0 || 4 < k then (s, .arg 0)
  else if s.lsv.lineState = .config then (s, .state)
  else if s.nseg < k then (s, .arg 0)
  else if !s.lineIn [.idle, .run] then (s, .state)
  else if (s.seg k).state ≠ .fault then (s, .state)
  else if (s.seg k).clear.isSome then (s, okEmpty)
  else if !s.certain k || (s.seg k).node.absent || (s.drivePending k).isSome then (s, .interlock)
  else
    (((s.postDrive k .resetFault).modSeg k fun g =>
      { g with clear := some (s.timerFor (s.segCfg k).tReturnMax) }).closeEvent, okEmpty)

/-- A conveyor's clear (R124). -/
def State.clearConveyor (s : State) (c : ConvId) : State :=
  let s1 := s.modConv c fun v => { v with state := .flowing, cause := none }
  let s2 := s1.setList c (restampInTransit s.clock (s1.list c))
  (s2.setTravel c).grantPass c

/-- The last report lets a jam be cleared: no jam flag, and the head agrees (R124). -/
def State.clearAgrees (s : State) (c : ConvId) : Bool :=
  match (s.conv c).report with
  | some (_, jam, head) => !jam && headAgrees head (s.list c)
  | none => false

def State.requestClearConveyor (s : State) (number : Nat) : State × Answer :=
  if !s.lineIn [.idle, .run] then (s, .state)
  else
    match ConvId.ofNumber number with
    | none => (s, .arg 0)
    | some c =>
      if !(convsInService s.nseg).contains c then (s, .arg 0)
      else if (s.conv c).state = .flowing then (s, .state)
      else if (s.conv c).node.absent || !s.clearAgrees c then (s, .interlock)
      else ((s.clearConveyor c).closeEvent, okEmpty)

/-- CLEAR FAULT with its subject kind (R181): SEGMENT 1, STATION 2, CONVEYOR 3, the codes of R10's table;
DEDUCED, log entry 7. -/
def State.requestClearFault (s : State) (kind number : Nat) : State × Answer :=
  match kind with
  | 1 => s.requestClearSegment number
  | 2 => s.requestClearStation number
  | 3 => s.requestClearConveyor number
  | _ => (s, .arg 1)

/-! ## Pallet records (R32) -/

def palletIdBad (id : Nat) : Bool := id = 0 || 250 < id

/-- A new record (R32). -/
def Pallet.fresh (v : Variant) : Pallet :=
  { variant := v, service := .inService, placement := none, laps := 0, indexCount := 0,
    overdue := false, workpiece := none }

/-- PALLET DEFINE (R32). DESIGN CHOICE for the field number where the ID and the variant are both out of range,
the ID's, log entry 41. -/
def State.requestPalletDefine (s : State) (id variant : Nat) : State × Answer :=
  if palletIdBad id then (s, .arg 0)
  else
    match Variant.ofCode variant with
    | none => (s, .arg 2)
    | some v =>
      if (s.pallet id).isSome then (s, .occupied)
      else if Config.palletCapacity ≤ s.trk.pallets.length then (s, .full)
      else
        ({ s with trk := { s.trk with pallets := tableInsert id (Pallet.fresh v) s.trk.pallets } },
          okEmpty)

def State.requestPalletDelete (s : State) (id : Nat) : State × Answer :=
  if palletIdBad id then (s, .arg 0)
  else
    match s.pallet id with
    | none => (s, .notFound)
    | some p =>
      if p.placement.isSome then (s, .state)
      else ({ s with trk := { s.trk with pallets := tableErase id s.trk.pallets } }, okEmpty)

/-! ## Map edits (R33, R34, R42) -/

/-- IDLE, HALT or RUN. -/
def State.editOpen (s : State) : Bool := s.lineIn [.idle, .halt, .run]

/-- The segment concerned by an edit of a place (R33). -/
def State.concerned (s : State) : PlaceRef → Nat
  | .nest k _ => k
  | .entry .b1 _ => 2
  | .entry .b2 _ => 3
  | .entry .b3 _ => 4
  | .entry .rc _ => 1
  | .entry .vs _ => s.nseg

/-- A nest's station lets the nest be edited (R33, R34). -/
def State.nestStationFree (s : State) (k j : Nat) : Bool :=
  match stationAt k j s.cfg.stations with
  | none => true
  | some (n, _) =>
    match (s.station n).state with
    | .released | .skipped | .lockout => true
    | .fault => (s.station n).reportsUnclamped
    | _ => false

/-- The tag check is OPEN. -/
def TagCheck.isOpen : TagCheck → Bool
  | .opened _ => true
  | _ => false

/-- In RUN the segment concerned is held or track-held, in READY or WORK, and has no station in CLAMPING
or CYCLE (R33, R34). -/
def State.runAllows (s : State) (place : PlaceRef) : Bool :=
  s.lsv.lineState ≠ .run ||
    (let k := s.concerned place
     let g := s.seg k
     (g.held || g.trackHold) && (g.state = .ready || g.state = .work)
       && (s.stationsOn k).all fun p => p.2.state ≠ .clamping && p.2.state ≠ .cycle)

/-- The nest is S1.N1 and its check is OPEN. -/
def State.tagBlocks (s : State) (k j : Nat) : Bool := k = 1 && j = 1 && s.trk.tag.isOpen

/-- The placement that a PLACE's reply returns. -/
def State.placementReply (s : State) (id : Nat) : Answer :=
  .ok [positionByte ((s.pallet id).bind (·.placement))]

def State.requestPlace (s : State) (id position : Nat) : State × Answer :=
  if !s.editOpen then (s, .state)
  else if palletIdBad id || s.loopCount ≤ position then (s, .arg 0)
  else
    match s.pallet id with
    | none => (s, .notFound)
    | some p =>
      if p.placement.isSome then (s, .occupied)
      else
        match s.placeAt position with
        | none => (s, .arg 0)
        | some (.nest k j) =>
          if (s.occupant k j).isSome then (s, .occupied)
          else if !s.certain k || !s.nestStationFree k j || s.tagBlocks k j
              || !s.runAllows (.nest k j) then (s, .interlock)
          else
            let s1 := (s.placeInNest id k j).closeEvent
            (s1, s1.placementReply id)
        | some (.entry c i) =>
          if s.cfg.line.capacity c ≤ s.roomTaken c then (s, .full)
          else if !s.runAllows (.entry c i) then (s, .interlock)
          else
            let s1 := (s.placeOnConveyor id c).closeEvent
            (s1, s1.placementReply id)

/-- An open index names the pallet as its entry or exit pallet (R34). -/
def State.inOpenIndex (s : State) (id : Nat) : Bool :=
  s.trk.segs.any fun p =>
    match p.2.openIndex with
    | some oi => oi.entry = some id || oi.exit = some id
    | none => false

/-- The nest conditions of REMOVE (R34). -/
def State.nestRemovable (s : State) (k j : Nat) : Bool :=
  !s.segmentMoving k && s.certain k && s.nestStationFree k j

/-- The conditions that R34 answers INTERLOCK when they fail, with the OPEN check left out on demand. -/
def State.removable (s : State) (id : Nat) (place : PlaceRef) : Bool :=
  !s.inOpenIndex id &&
    (match place with
      | .nest k j => s.nestRemovable k j && !s.tagBlocks k j
      | .entry _ _ => true)
    && s.runAllows place

def State.requestRemove (s : State) (id : Nat) : State × Answer :=
  if !s.editOpen then (s, .state)
  else if palletIdBad id then (s, .arg 0)
  else
    match s.pallet id with
    | none => (s, .notFound)
    | some _ =>
      match s.findPallet id with
      | none => (s, .state)
      | some place =>
        if s.removable id place then ((s.removePallet id place).closeEvent, okEmpty)
        else (s, .interlock)

/-- The read pallet may be taken from where it stands: it is UNPLACED, stands in N1 of S1 already, or
passes R34's conditions (R42). -/
def State.readMovable (s : State) (value : Nat) : Bool :=
  value = 0 ||
    (match s.findPallet value with
      | none => true
      | some place => place = .nest 1 1 || s.removable value place)

/-- ACCEPT TAG (R42); S1 must be CERTAIN (R25): DEDUCED for the place of that check, log entry 23. -/
def State.requestAcceptTag (s : State) : State × Answer :=
  if !s.editOpen then (s, .state)
  else
    match s.trk.tag with
    | .held _ value _ =>
      if value ≠ 0 && (s.pallet value).isNone then (s, .notFound)
      else if !s.readMovable value || !s.certain 1 then (s, .interlock)
      else ((s.acceptRead value).closeEvent, okEmpty)
    | _ => (s, .state)

/-! ## CONFIRM SEGMENT (R43 to R45) -/

/-- The segment is in FAULT with certainty other than CERTAIN: its open index. -/
def State.unsettled (s : State) (k : Nat) : Option OpenIndex :=
  if (s.seg k).state = .fault && !s.certain k then (s.segMap k).openIndex else none

def segmentNumberBad (s : State) (k : Nat) : Bool := k = 0 || s.nseg < k

def State.requestConfirmBefore (s : State) (k : Nat) : State × Answer :=
  if !s.editOpen then (s, .state)
  else if segmentNumberBad s k then (s, .arg 0)
  else
    match s.unsettled k with
    | none => (s, .state)
    | some oi => ((s.settleBefore k oi).closeEvent, okEmpty)

def State.requestConfirmAfter (s : State) (k : Nat) : State × Answer :=
  if !s.editOpen then (s, .state)
  else if segmentNumberBad s k then (s, .arg 0)
  else
    match s.unsettled k with
    | none => (s, .state)
    | some oi => ((s.confirmAfter k oi).closeEvent, okEmpty)

/-- An occupant byte: 0 for EMPTY. -/
def occupantOf (b : Byte) : Option Nat := if b = 0 then none else some b.toNat

/-- Some pallet is named twice. -/
def namedTwice : List (Option Nat) → Bool
  | [] => false
  | none :: rest => namedTwice rest
  | some id :: rest => rest.contains (some id) || namedTwice rest

/-- The occupant list of a CONFIRM SEGMENT with LIST is refused (R45). -/
def State.listRefused (s : State) (k : Nat) (oi : OpenIndex) (flag : Bool)
    (nests : List (Option Nat)) : Bool :=
  nests.length ≠ (s.nests k).length
    || (nests.any fun o => o.isSome && !((s.nests k).contains o || oi.entry = o))
    || namedTwice nests
    || (flag && oi.exit.isNone)
    || (flag && oi.exit.isSome && nests.contains oi.exit)

/-- CONFIRM SEGMENT with LIST (R43, R45). DESIGN CHOICE for the check of the destination flag's byte, log entry
41: after the STATE of a segment with nothing to settle, and before the check of the occupants. -/
def State.requestConfirmList (s : State) (k flag : Nat) (occupants : List Byte) : State × Answer :=
  let nests := occupants.map occupantOf
  if !s.editOpen then (s, .state)
  else if segmentNumberBad s k then (s, .arg 0)
  else
    match s.unsettled k with
    | none => (s, .state)
    | some oi =>
      if 1 < flag then (s, .arg 3)
      else if s.listRefused k oi (flag = 1) nests then (s, .arg 0)
      else ((s.confirmList k oi (flag = 1) nests).closeEvent, okEmpty)

/-- CONFIRM SEGMENT with its choice: BEFORE 0, AFTER 1, LIST 2 (R43). DESIGN CHOICE for the field number where the
segment number and the choice are both out of range, the segment number's, log entry 41. -/
def State.requestConfirm (s : State) (body : List Byte) : State × Answer :=
  let k := byteAt body 0
  match byteAt body 1 with
  | 0 => s.requestConfirmBefore k
  | 1 => s.requestConfirmAfter k
  | 2 => s.requestConfirmList k (byteAt body 2) ((body.drop 4).take (byteAt body 3))
  | _ =>
    if !s.editOpen then (s, .state)
    else if segmentNumberBad s k then (s, .arg 0)
    else (s, .arg 2)

/-! ## RESERVE SET (R100) -/

def State.requestReserveSet (s : State) (volume : Nat) : State × Answer :=
  if s.lsv.lineState = .config then (s, .state)
  else if s.ada.alarm then (s, .interlock)
  else
    let r := min volume s.cfg.line.cap
    (((s.modAda fun a => { a with r := r, c := 0, tLast := s.clock }).adaEvaluate).closeEvent,
      .ok (beBytes 2 r))

/-! ## EVENTS TAKE (R185) -/

/-- The count of an EVENTS TAKE, taken into 1 to 8. -/
def eventsCount (count : Nat) : Nat := min 8 (max 1 count)

def State.requestEventsTake (s : State) (count : Nat) : State × Answer :=
  let n := eventsCount count
  let taken := s.clp.events.take n
  let rest := s.clp.events.drop n
  (s.modClp fun c => { c with events := rest, gap := false },
    .ok (flagByte s.clp.gap :: byteOf rest.length :: byteOf taken.length :: taken.flatMap Event.bytes))

end Sys2Proof.Machine
end

