-- ==== Sys2Proof/Machine/Status.lean ====
section
/-! DEFINITION. The reads and their reply bodies: STATUS (R182), IDENTIFY (R183), MAP READ (R36) and PALLET
READ (R37), laid out by 11 section 11.3. -/

namespace Sys2Proof.Machine

/-! ## STATUS (R182) -/

/-- ASSERTED 0, RELEASED 1, the order of 08 section 8.1. -/
def estopCode (asserted : Bool) : Nat := if asserted then 0 else 1

/-- RUNNING 0, STOPPED 1, the order of 05 section 5.1. -/
def pumpCode (running : Bool) : Nat := if running then 0 else 1

/-- OFF 0, ON 1. -/
def alarmCode (on : Bool) : Nat := if on then 1 else 0

/-- One queued request in section 0 (R113). -/
def AdaRequest.statusBytes (q : AdaRequest) : List Byte :=
  [byteOf q.segment, byteOf q.cls.code] ++ beBytes 2 q.demand
    ++ optionBytes 4 (q.earliest.map (·.toNat))

/-- The fixed fields of section 0; DEDUCED for their widths, log entry 8. -/
def State.lineSection (s : State) : List Byte :=
  [byteOf s.loopCount, byteOf s.trk.pallets.length, byteOf s.trk.tag.code] ++ beBytes 2 s.ada.r
    ++ [byteOf (pumpCode s.ada.pump), byteOf (alarmCode s.ada.alarm), byteOf s.ada.hpu.code,
        byteOf s.ada.h.length] ++ beBytes 2 s.rtu.serial
    ++ [byteOf s.rtu.check.code, palletByte s.rtu.checkPallet, byteOf s.cvt.passOver]

/-- One segment in section 1 (R182); DEDUCED for the width of the index number, log entry 8, and DESIGN CHOICE for the
STEP permit, sent as a flag, set 1 and clear 0, log entry 45. -/
def State.segmentEntry (s : State) (k : Nat) : List Byte :=
  let g := s.seg k
  [byteOf g.state.code, byteOf (s.segMap k).certainty.code, flagByte g.held, flagByte g.trackHold,
    byteOf g.bar.code, byteOf (segCauseCode g.cause), byteOf (s.waitReason k).code,
    flagByte (s.permit k)] ++ beBytes 2 g.indexNumber

/-- One station in section 2. -/
def Station.statusBytes (st : Station) : List Byte :=
  [byteOf st.state.code, byteOf (stationCauseCode st.cause)]

/-- One conveyor in section 3. -/
def State.conveyorEntry (s : State) (c : ConvId) (v : Conveyor) : List Byte :=
  [byteOf v.state.code, byteOf (jamCauseCode v.cause), byteOf (s.list c).length,
    byteOf v.reservations.length, byteOf v.requests.length, byteOf v.node.code]

/-- One node in section 4. -/
def Node.statusBytes (a : Nat) (n : Node) : List Byte :=
  [byteOf a, byteOf n.state.code, byteOf n.misses]

/-- The fixed fields and the entries of a section. -/
def State.section (s : State) (number : Nat) : List Byte × List (List Byte) :=
  match number with
  | 0 => (s.lineSection, s.ada.queue.map AdaRequest.statusBytes)
  | 1 => ([], s.segNumbers.map s.segmentEntry)
  | 2 => ([], s.sqs.stations.map fun p => p.2.statusBytes)
  | 3 => ([], s.cvt.convs.map fun p => s.conveyorEntry p.1 p.2)
  | _ => ([], s.sbm.nodes.map fun p => p.2.statusBytes p.1)

/-- The 16 bytes of the common part (11 section 11.3). -/
def State.commonPart (s : State) (number entries : Nat) : List Byte :=
  timeBytes s.clock
    ++ [byteOf s.lsv.lineState.code, byteOf s.lsv.mode.code, byteOf (estopCode s.lsv.estop),
        flagByte s.clp.linkError, flagByte s.clp.overrun, byteOf s.clp.events.length,
        flagByte s.clp.gap, byteOf number, byteOf entries, 0, 0, 0]

/-- STATUS: the reply, and both link flags cleared (R180, R182). -/
def State.requestStatus (s : State) (number : Nat) : State × Answer :=
  if 4 < number then (s, .arg 0)
  else
    let (fixed, entries) := s.section number
    (s.modClp fun c => { c with linkError := false, overrun := false },
      .ok (s.commonPart number entries.length ++ fixed ++ entries.flatten))

/-! ## IDENTIFY (R183) -/

/-- The items of R183's table in their order: 18 bytes. -/
def State.identity (s : State) : List Byte :=
  beBytes 2 Config.partCode
    ++ [byteOf Config.revisionCode, 4, 12, 32, 100, byteOf Config.palletCapacity, 1, 62,
        byteOf Config.requestQueueCapacity, byteOf Config.eventQueueCapacity, byteOf Config.maxBody,
        flagByte s.cfg.committed, byteOf s.sc.length, byteOf s.loopCount,
        byteOf s.sqs.stations.length, byteOf s.trk.pallets.length]

def State.requestIdentify (s : State) : State × Answer := (s, .ok s.identity)

/-! ## MAP READ (R36) -/

/-- The element byte: 1 to 4 for a segment, 5 to 9 for B1, B2, B3, VS, RC. -/
def PlaceRef.element : PlaceRef → Nat
  | .nest k _ => k
  | .entry c _ => 4 + c.number

def PlaceRef.nestNumber : PlaceRef → Nat
  | .nest _ j => j
  | .entry _ _ => 0

/-- The occupant that a place shows (R23). -/
def State.shown (s : State) : PlaceRef → Option Nat
  | .nest k j => s.occupant k j
  | .entry c i => ((s.list c)[i]?).map (·.pallet)

/-- The entry state byte of a place. -/
def State.shownState (s : State) : PlaceRef → Nat
  | .nest _ _ => 0
  | .entry c i => entryStateCode (entryStateAt (s.list c) i)

/-- The certainty byte of a place: 0 none, then 1 to 3 (11 section 11.3). -/
def State.shownCertainty (s : State) : PlaceRef → Nat
  | .nest k _ => (s.segMap k).certainty.code + 1
  | .entry _ _ => 0

/-- The six bytes of a map entry (11 section 11.3). -/
def State.mapEntry (s : State) (position : Nat) : List Byte :=
  match s.placeAt position with
  | none => []
  | some place =>
    [byteOf position, byteOf place.element, byteOf place.nestNumber, palletByte (s.shown place),
      byteOf (s.shownState place), byteOf (s.shownCertainty place)]

/-- The count of a MAP READ, taken into 1 to 16. -/
def mapCount (count : Nat) : Nat := min 16 (max 1 count)

/-- The positions of a MAP READ: rising by one, and after P−1 from 0 again. -/
def mapPositions (p start count : Nat) : List Nat :=
  (List.range count).map fun i => (start + i) % p

def State.requestMapRead (s : State) (start count : Nat) : State × Answer :=
  if s.lsv.lineState = .config then (s, .state)
  else if s.loopCount ≤ start then (s, .arg 0)
  else
    (s, .ok (byteOf (mapCount count) ::
      (mapPositions s.loopCount start (mapCount count)).flatMap s.mapEntry))

/-! ## PALLET READ (R37) -/

/-- A count and the numbers of a set, ascending. -/
def setBytes (l : List Nat) : List Byte := byteOf l.length :: l.map byteOf

def Defect.bytes (d : Defect) : List Byte :=
  [byteOf d.station, byteOf d.cause.code] ++ beBytes 4 d.elapsed

def Workpiece.bytes (w : Workpiece) : List Byte :=
  beBytes 2 w.serial ++ setBytes w.opsDone ++ setBytes w.opsMissed
    ++ [byteOf w.defects.length] ++ w.defects.flatMap Defect.bytes
    ++ [flagByte w.moreDefects, flagByte w.holdOver]

/-- The entry state of a placed conveyor entry. -/
def State.entryStateOf (s : State) (id : Nat) : Nat :=
  match s.findPallet id with
  | some place => s.shownState place
  | none => 0

def State.palletBytes (s : State) (id : Nat) (p : Pallet) : List Byte :=
  [byteOf id, byteOf p.variant.code, byteOf p.service.code, positionByte p.placement,
    byteOf (s.entryStateOf id), byteOf p.laps] ++ beBytes 2 p.indexCount
    ++ [flagByte p.overdue, flagByte p.workpiece.isSome]
    ++ (match p.workpiece with
        | some w => w.bytes
        | none => [])

def State.requestPalletRead (s : State) (id : Nat) : State × Answer :=
  if palletIdBad id then (s, .arg 0)
  else
    match s.pallet id with
    | none => (s, .notFound)
    | some p => (s, .ok (s.palletBytes id p))

end Sys2Proof.Machine
end

