-- ==== Sys2Proof/Machine/Link.lean ====
section
/-! DEFINITION. The Cell Link Port: the receiver (R174), frames and their check (R175, R187), the request
and reply queues (R176 to R178), and the hand-over of requests to their owners (R177, R181). -/

namespace Sys2Proof.Machine

/-! ## Requests -/

/-- A request of a known type goes to its owner (R181, 11 section 11.2). -/
def State.owner (s : State) (type : Byte) (body : List Byte) : State × Answer :=
  match type.toNat with
  | 0x10 => s.requestLineSet body
  | 0x11 => s.requestSegmentSet body
  | 0x12 => s.requestStationSet body
  | 0x13 => s.requestBusSet body
  | 0x14 => s.requestCommit
  | 0x15 => s.requestUncommit
  | 0x20 => s.requestStart (byteAt body 0)
  | 0x21 => s.requestMode (byteAt body 0)
  | 0x22 => s.requestStop
  | 0x23 => s.requestHalt
  | 0x24 => s.requestRecover
  | 0x25 => s.requestStepGrant (byteOf (byteAt body 0))
  | 0x26 => s.requestHold (byteOf (byteAt body 0))
  | 0x27 => s.requestContinue (byteOf (byteAt body 0))
  | 0x28 => s.requestRestart
  | 0x30 => s.requestBypass (byteAt body 0) (byteAt body 1)
  | 0x31 => s.requestAbortCycle (byteAt body 0)
  | 0x32 => s.requestClearFault (byteAt body 0) (byteAt body 1)
  | 0x40 => s.requestPalletDefine (byteAt body 0) (byteAt body 1)
  | 0x41 => s.requestPalletDelete (byteAt body 0)
  | 0x42 => s.requestPalletRead (byteAt body 0)
  | 0x43 => s.requestPlace (byteAt body 0) (byteAt body 1)
  | 0x44 => s.requestRemove (byteAt body 0)
  | 0x45 => s.requestAcceptTag
  | 0x46 => s.requestConfirm body
  | 0x47 => s.requestMapRead (byteAt body 0) (byteAt body 1)
  | 0x50 => s.requestReserveSet (beNat (body.take 2))
  | 0x60 => s.requestStatus (byteAt body 0)
  | 0x61 => s.requestIdentify
  | 0x62 => s.requestEventsTake (byteAt body 0)
  | _ => (s, .type)

/-- A taken frame's type and body length are checked, and then its owner answers (R177). -/
def State.answer (s : State) (f : Frame) : State × Answer :=
  match bodyRequired f.type f.body with
  | none => (s, .type)
  | some n => if f.body.length < n then (s, .arg 0) else s.owner f.type f.body

/-- The reply to a frame (R177, R179). -/
def Frame.reply (f : Frame) (a : Answer) : Reply := { type := f.type, tag := f.tag, body := a.body }

/-- A reply joins the back of the reply queue. -/
def Clp.addReply (c : Clp) (r : Reply) : Clp := { c with replies := c.replies ++ [r] }

/-- The head frame `f` is taken: it leaves the queue, is executed, and its reply is queued (R177). -/
def State.takeFrame (s : State) (f : Frame) (rest : List Frame) : State :=
  let x := (s.modClp fun c => { c with requests := rest }).answer f
  x.1.modClp (·.addReply (f.reply x.2))

/-- A frame may be taken: the reply queue has room and RESTART has not been executed (R156, R177). -/
def Clp.mayTake (c : Clp) : Bool :=
  c.replies.length < Config.replyQueueCapacity && !c.restarting

/-- Frames are taken as long as they may be; the first argument bounds their number. -/
def State.takeFrames : Nat → State → State
  | 0, s => s
  | n + 1, s =>
    match s.clp.requests with
    | [] => s
    | f :: rest => if s.clp.mayTake then State.takeFrames n (s.takeFrame f rest) else s

def State.takeAll (s : State) : State := State.takeFrames s.clp.requests.length s

/-- A good frame is offered to the request queue (R175, R176). -/
def State.offer (s : State) (f : Frame) : State :=
  if s.clp.requests.length < Config.requestQueueCapacity then
    (s.modClp fun c => { c with requests := c.requests ++ [f] }).takeAll
  else s.modClp fun c => { c with overrun := true }

/-- The receiver hunts for the next sync byte. -/
def State.hunt (s : State) : State := s.modClp fun c => { c with rx := .hunting }

/-- A frame is lost: LINK_ERROR is set and the receiver hunts (R174, R175, R180). -/
def State.linkError (s : State) : State := s.modClp fun c => { c with rx := .hunting, linkError := true }

/-! ## Reception (R174, R175) -/

/-- The bytes a frame's check covers: length, type, tag and body (R187). -/
def checkedBytes (type tag : Byte) (body : List Byte) : List Byte :=
  beBytes 2 body.length ++ [type, tag] ++ body

/-- A completed frame is judged by its check (R175). -/
def State.judgeFrame (s : State) (type tag : Byte) (body : List Byte) (check : BitVec 16) : State :=
  if crc16 (checkedBytes type tag body) = check then
    s.hunt.offer { type := type, tag := tag, body := body }
  else s.linkError

/-- A frame of the host whose fields are given: too long a body ends it by its length (R174). -/
def State.frameArrives (s : State) (type tag : Byte) (body : List Byte) (check : BitVec 16) : State :=
  if Config.maxBody < body.length then s.linkError else s.judgeFrame type tag body check

/-- A request's whole good frame arrives, its check agreeing (log entry 3). -/
def State.requestArrives (s : State) (type tag : Byte) (body : List Byte) : State :=
  s.frameArrives type tag body (crc16 (checkedBytes type tag body))

/-- The body length of the bytes after the sync byte. -/
def frameLength (bytes : List Byte) : Nat := beNat (bytes.take 2)

/-- The frame that complete bytes spell is judged (R174, R175). -/
def State.completeFrame (s : State) (bytes : List Byte) : State :=
  let n := frameLength bytes
  s.judgeFrame ((bytes[2]?).getD 0) ((bytes[3]?).getD 0) ((bytes.drop 4).take n)
    (BitVec.ofNat 16 (beNat ((bytes.drop (4 + n)).take 2)))

/-- The gap timer as a byte restarts it (R174). -/
def State.gapTimer (s : State) : Timer := s.timerFor Config.gapLimit

/-- A byte joins the frame being assembled (R174). -/
def State.assemble (s : State) (bytes : List Byte) : State :=
  if 2 ≤ bytes.length && Config.maxBody < frameLength bytes then s.linkError
  else if 6 ≤ bytes.length && frameLength bytes + 6 ≤ bytes.length then s.completeFrame bytes
  else s.modClp fun c => { c with rx := .assembling bytes s.gapTimer }

/-- A byte arrives from the host (R174). -/
def State.byteArrives (s : State) (b : Byte) : State :=
  match s.clp.rx with
  | .hunting =>
    if b = Config.syncByte then s.modClp fun c => { c with rx := .assembling [] s.gapTimer } else s
  | .assembling bytes _ => s.assemble (bytes ++ [b])

/-- The gap timer expires (R174). -/
def State.gapExpires (s : State) : State :=
  match s.clp.rx with
  | .hunting => s
  | .assembling _ gap => if s.due gap then s.linkError else s

/-- A character without its stop bit (R174). -/
def State.framingFails (s : State) : State :=
  match s.clp.rx with
  | .hunting => s
  | .assembling _ _ => s.linkError

/-! ## Sending (R178) -/

/-- The bytes of a reply frame (11 section 11.2). -/
def Reply.frame (r : Reply) : List Byte :=
  Config.syncByte :: (checkedBytes r.type r.tag r.body
    ++ beBytes 2 (crc16 (checkedBytes r.type r.tag r.body)).toNat)

/-- CTS is sampled, and the reply at the head starts when it is asserted and none is being sent. -/
def State.replyStarts (s : State) (cts : Bool) : State :=
  let s1 := s.modClp fun c => { c with cts := cts }
  match s.clp.sending, s.clp.replies with
  | none, r :: _ => if cts then s1.modClp fun c => { c with sending := some r.frame } else s1
  | _, _ => s1

/-- The last byte of a reply has gone: it leaves the queue and frames may be taken; after RESTART's reply
the part goes through the reset (R156, R178). -/
def State.replyEnds (s : State) (br : BitVec 2) : State :=
  match s.clp.sending with
  | none => s
  | some _ =>
    let s1 := s.modClp fun c => { c with replies := c.replies.drop 1, sending := none }
    if s1.clp.restarting && s1.clp.replies.isEmpty then
      State.afterReset s.pending s.lsv.estop br
    else s1.takeAll

end Sys2Proof.Machine
end

