-- ==== Sys2Proof/Machine/Expiries.lean ====
section
/-! DEFINITION. The Admission Arbiter's timer expiries (R103, R104, R107, R112). The other blocks' expiries
stand with their blocks. -/

namespace Sys2Proof.Machine

/-- The evaluation timer expires (R112). -/
def State.evaluationExpires (s : State) : State :=
  match s.ada.evalTimer with
  | some t => if s.due t then s.adaEvaluate else s
  | none => s

/-- The request of segment k, if its urgency timer is due. -/
def State.urgentDue (s : State) (k : Nat) (q : AdaRequest) : Bool :=
  q.segment = k &&
    match q.urgency with
    | some t => s.due t
    | none => false

/-- The request made URGENT, its timer stopped (R107). -/
def AdaRequest.promote (q : AdaRequest) : AdaRequest := { q with cls := .urgent, urgency := none }

/-- The queue with the request placed behind every URGENT one and before every NORMAL one (R107). -/
def placeUrgent (q : AdaRequest) (l : List AdaRequest) : List AdaRequest :=
  (l.filter fun x => x.cls = .urgent) ++ q :: l.filter fun x => x.cls ≠ .urgent

/-- The urgency timer of segment k's request expires (R107). -/
def State.urgencyExpires (s : State) (k : Nat) : State :=
  match s.ada.queue.find? (s.urgentDue k) with
  | none => s
  | some q =>
    (s.modAda fun a => { a with queue := placeUrgent q.promote (dropRequest k a.queue) }).post
      .admissionUrgent (.segment k) none (.duration s.cfg.line.tUrgent)

/-- Entries of H expire (R103). -/
def State.hExpires (s : State) : State := s.modAda fun a => a.prune s.cfg.line s.clock

/-- last_any expires (R104). -/
def State.staggerExpires (s : State) : State :=
  match s.ada.lastAny with
  | some x =>
    if s.due { start := x, limit := s.cfg.line.tStagger } then
      s.modAda fun a => { a with lastAny := none }
    else s
  | none => s

/-- last_s of segment k expires (R104). -/
def State.periodExpires (s : State) (k : Nat) : State :=
  match tableGet k s.ada.lastSeg with
  | some x =>
    if s.due { start := x, limit := (s.segCfg k).tIndexMin } then
      s.modAda fun a => { a with lastSeg := tableErase k a.lastSeg }
    else s
  | none => s

/-- The settle timer of station n expires (R51). -/
def State.settleTimerExpires (s : State) (n : Nat) : State :=
  if s.stationTimerDue n .settle then s.settleExpires n else s

/-- The travel timer of the conveyor of a number expires (R120). -/
def State.travelExpiresAt (s : State) (number : Nat) : State :=
  match ConvId.ofNumber number with
  | some c => s.travelExpires c
  | none => s

end Sys2Proof.Machine
end

