-- ==== Sys2Proof/Machine/ExecLink.lean ====
section
/-! DEFINITION. The commands of reset, pins and the cell link. Each sets the line clock to the time
of its event (log entry 1). -/

namespace Sys2Proof.Machine

/-- HARDWARE_RESET (R145). -/
def execHardwareReset (estopAsserted : Bool) (br : BitVec 2) (s : State) :
    Host.Outcome State Fault Refusal :=
  .next (State.afterReset s.pending estopAsserted br)

/-- ESTOP_IN_ASSERTED (R151), a change of level that the filter accepts at its line time (R189). -/
def execEstopInAsserted (t : LineTime) (s : State) : Host.Outcome State Fault Refusal :=
  .next (if (s.at t).filterPasses then (s.at t).estopOn.closeEvent else s.at t)

/-- ESTOP_IN_RELEASED (R151), a change of level that the filter accepts at its line time (R189). -/
def execEstopInReleased (t : LineTime) (s : State) : Host.Outcome State Fault Refusal :=
  .next (if (s.at t).filterPasses then (s.at t).estopOff else s.at t)

/-- FRAME_RECEIVED (R175). -/
def execFrameReceived (t : LineTime) (type tag : Byte) (body : List Byte) (check : BitVec 16) (s : State) :
    Host.Outcome State Fault Refusal :=
  .next ((s.at t).frameArrives type tag body check)

/-- FRAME_LENGTH_INVALID (R174). -/
def execFrameLengthInvalid (t : LineTime) (s : State) : Host.Outcome State Fault Refusal :=
  .next ((s.at t).linkError)

/-- FRAMING_ERROR (R174). -/
def execFramingError (t : LineTime) (s : State) : Host.Outcome State Fault Refusal :=
  .next ((s.at t).framingFails)

/-- GAP_TIMER_EXPIRY (R174). -/
def execGapTimerExpiry (t : LineTime) (s : State) : Host.Outcome State Fault Refusal :=
  .next ((s.at t).gapExpires)

/-- CELL_LINK_BYTE_RECEIVED (R174). -/
def execCellLinkByteReceived (t : LineTime) (b : Byte) (s : State) :
    Host.Outcome State Fault Refusal :=
  .next ((s.at t).byteArrives b)

/-- REPLY_SEND_START (R178). -/
def execReplySendStart (t : LineTime) (cts : Bool) (s : State) : Host.Outcome State Fault Refusal :=
  .next ((s.at t).replyStarts cts)

/-- REPLY_SEND_END (R178). -/
def execReplySendEnd (t : LineTime) (br : BitVec 2) (s : State) :
    Host.Outcome State Fault Refusal :=
  .next ((s.at t).replyEnds br)

/-- UNKNOWN_REQUEST_TYPE (R177). -/
def execUnknownRequestType (t : LineTime) (type tag : Byte) (body : List Byte) (s : State) :
    Host.Outcome State Fault Refusal :=
  .next ((s.at t).requestArrives type tag body)

end Sys2Proof.Machine
end

