-- ==== Sys2Proof/Machine/ExecRequests.lean ====
section
/-! DEFINITION. The host's requests: each is its whole good frame arriving on the cell link with the
type code of 11 section 11.2 (log entry 3); the owner's part stands in Requests.lean and Status.lean. -/

namespace Sys2Proof.Machine

/-- LINE_SET (R4). -/
def execLineSet (t : LineTime) (tag : Byte) (body : List Byte) (s : State) :
    Host.Outcome State Fault Refusal :=
  .next ((s.at t).requestArrives 0x10 tag body)

/-- SEGMENT_SET (R5). -/
def execSegmentSet (t : LineTime) (tag : Byte) (body : List Byte) (s : State) :
    Host.Outcome State Fault Refusal :=
  .next ((s.at t).requestArrives 0x11 tag body)

/-- STATION_SET (R6). -/
def execStationSet (t : LineTime) (tag : Byte) (body : List Byte) (s : State) :
    Host.Outcome State Fault Refusal :=
  .next ((s.at t).requestArrives 0x12 tag body)

/-- BUS_SET (R7). -/
def execBusSet (t : LineTime) (tag : Byte) (body : List Byte) (s : State) :
    Host.Outcome State Fault Refusal :=
  .next ((s.at t).requestArrives 0x13 tag body)

/-- COMMIT (R10). -/
def execCommit (t : LineTime) (tag : Byte) (s : State) : Host.Outcome State Fault Refusal :=
  .next ((s.at t).requestArrives 0x14 tag [])

/-- UNCOMMIT (R155). -/
def execUncommit (t : LineTime) (tag : Byte) (s : State) : Host.Outcome State Fault Refusal :=
  .next ((s.at t).requestArrives 0x15 tag [])

/-- START (R147). -/
def execStart (t : LineTime) (tag : Byte) (mode : Byte) (s : State) :
    Host.Outcome State Fault Refusal :=
  .next ((s.at t).requestArrives 0x20 tag [mode])

/-- STOP (R148). -/
def execStop (t : LineTime) (tag : Byte) (s : State) : Host.Outcome State Fault Refusal :=
  .next ((s.at t).requestArrives 0x22 tag [])

/-- MODE (R150). -/
def execMode (t : LineTime) (tag : Byte) (mode : Byte) (s : State) :
    Host.Outcome State Fault Refusal :=
  .next ((s.at t).requestArrives 0x21 tag [mode])

/-- STEP_GRANT (R93). -/
def execStepGrant (t : LineTime) (tag : Byte) (mask : Byte) (s : State) :
    Host.Outcome State Fault Refusal :=
  .next ((s.at t).requestArrives 0x25 tag [mask])

/-- HOLD (R83). -/
def execHold (t : LineTime) (tag : Byte) (mask : Byte) (s : State) :
    Host.Outcome State Fault Refusal :=
  .next ((s.at t).requestArrives 0x26 tag [mask])

/-- CONTINUE (R83). -/
def execContinueRun (t : LineTime) (tag : Byte) (mask : Byte) (s : State) :
    Host.Outcome State Fault Refusal :=
  .next ((s.at t).requestArrives 0x27 tag [mask])

/-- HALT (R153). -/
def execHalt (t : LineTime) (tag : Byte) (s : State) : Host.Outcome State Fault Refusal :=
  .next ((s.at t).requestArrives 0x23 tag [])

/-- RECOVER (R154). -/
def execRecover (t : LineTime) (tag : Byte) (s : State) : Host.Outcome State Fault Refusal :=
  .next ((s.at t).requestArrives 0x24 tag [])

/-- RESTART (R156). -/
def execRestart (t : LineTime) (tag : Byte) (s : State) : Host.Outcome State Fault Refusal :=
  .next ((s.at t).requestArrives 0x28 tag [])

/-- BYPASS_ON (R64). -/
def execBypassOn (t : LineTime) (tag : Byte) (station : Byte) (s : State) :
    Host.Outcome State Fault Refusal :=
  .next ((s.at t).requestArrives 0x30 tag [station, 1])

/-- BYPASS_OFF (R65). -/
def execBypassOff (t : LineTime) (tag : Byte) (station : Byte) (s : State) :
    Host.Outcome State Fault Refusal :=
  .next ((s.at t).requestArrives 0x30 tag [station, 0])

/-- ABORT_CYCLE (R62). -/
def execAbortCycle (t : LineTime) (tag : Byte) (station : Byte) (s : State) :
    Host.Outcome State Fault Refusal :=
  .next ((s.at t).requestArrives 0x31 tag [station])

/-- CLEAR_FAULT_STATION (R66). -/
def execClearFaultStation (t : LineTime) (tag : Byte) (number : Byte) (s : State) :
    Host.Outcome State Fault Refusal :=
  .next ((s.at t).requestArrives 0x32 tag [2, number])

/-- CLEAR_FAULT_SEGMENT (R91). -/
def execClearFaultSegment (t : LineTime) (tag : Byte) (number : Byte) (s : State) :
    Host.Outcome State Fault Refusal :=
  .next ((s.at t).requestArrives 0x32 tag [1, number])

/-- CLEAR_FAULT_CONVEYOR (R124). -/
def execClearFaultConveyor (t : LineTime) (tag : Byte) (number : Byte) (s : State) :
    Host.Outcome State Fault Refusal :=
  .next ((s.at t).requestArrives 0x32 tag [3, number])

/-- PALLET_DEFINE (R32). -/
def execPalletDefine (t : LineTime) (tag : Byte) (id variant : Byte) (s : State) :
    Host.Outcome State Fault Refusal :=
  .next ((s.at t).requestArrives 0x40 tag [id, variant])

/-- PALLET_DELETE (R32). -/
def execPalletDelete (t : LineTime) (tag : Byte) (id : Byte) (s : State) :
    Host.Outcome State Fault Refusal :=
  .next ((s.at t).requestArrives 0x41 tag [id])

/-- PALLET_READ (R37). -/
def execPalletRead (t : LineTime) (tag : Byte) (id : Byte) (s : State) :
    Host.Outcome State Fault Refusal :=
  .next ((s.at t).requestArrives 0x42 tag [id])

/-- PLACE (R33). -/
def execPlace (t : LineTime) (tag : Byte) (id position : Byte) (s : State) :
    Host.Outcome State Fault Refusal :=
  .next ((s.at t).requestArrives 0x43 tag [id, position])

/-- REMOVE (R34). -/
def execRemove (t : LineTime) (tag : Byte) (id : Byte) (s : State) :
    Host.Outcome State Fault Refusal :=
  .next ((s.at t).requestArrives 0x44 tag [id])

/-- ACCEPT_TAG (R42). -/
def execAcceptTag (t : LineTime) (tag : Byte) (s : State) : Host.Outcome State Fault Refusal :=
  .next ((s.at t).requestArrives 0x45 tag [])

/-- CONFIRM_SEGMENT_BEFORE (R43). -/
def execConfirmSegmentBefore (t : LineTime) (tag : Byte) (segment : Byte) (s : State) :
    Host.Outcome State Fault Refusal :=
  .next ((s.at t).requestArrives 0x46 tag [segment, 0])

/-- CONFIRM_SEGMENT_AFTER (R44). -/
def execConfirmSegmentAfter (t : LineTime) (tag : Byte) (segment : Byte) (s : State) :
    Host.Outcome State Fault Refusal :=
  .next ((s.at t).requestArrives 0x46 tag [segment, 1])

/-- CONFIRM_SEGMENT_LIST (R45). -/
def execConfirmSegmentList (t : LineTime) (tag : Byte) (segment flag : Byte) (occupants : List Byte) (s : State) :
    Host.Outcome State Fault Refusal :=
  .next ((s.at t).requestArrives 0x46 tag ([segment, 2, flag, byteOf occupants.length] ++ occupants))

/-- MAP_READ (R36). -/
def execMapRead (t : LineTime) (tag : Byte) (start count : Byte) (s : State) :
    Host.Outcome State Fault Refusal :=
  .next ((s.at t).requestArrives 0x47 tag [start, count])

/-- RESERVE_SET (R100). -/
def execReserveSet (t : LineTime) (tag : Byte) (volume : BitVec 16) (s : State) :
    Host.Outcome State Fault Refusal :=
  .next ((s.at t).requestArrives 0x50 tag (beBytes 2 volume.toNat))

/-- STATUS (R182). -/
def execStatus (t : LineTime) (tag : Byte) (sectionNo : Byte) (s : State) :
    Host.Outcome State Fault Refusal :=
  .next ((s.at t).requestArrives 0x60 tag [sectionNo])

/-- IDENTIFY (R183). -/
def execIdentify (t : LineTime) (tag : Byte) (s : State) : Host.Outcome State Fault Refusal :=
  .next ((s.at t).requestArrives 0x61 tag [])

/-- EVENTS_TAKE (R185). -/
def execEventsTake (t : LineTime) (tag : Byte) (count : Byte) (s : State) :
    Host.Outcome State Fault Refusal :=
  .next ((s.at t).requestArrives 0x62 tag [count])

end Sys2Proof.Machine
end

