-- ==== Sys2Proof/Machine/ExecBus.lean ====
section
/-! DEFINITION. The commands of the station bus. -/

namespace Sys2Proof.Machine

/-- SCAN_START (R160). -/
def execScanStart (t : LineTime) (s : State) : Host.Outcome State Fault Refusal :=
  .next ((s.at t).scanStarts)

/-- SLOT_POLL (R161). -/
def execSlotPoll (t : LineTime) (slot : Nat) (s : State) : Host.Outcome State Fault Refusal :=
  .next ((s.at t).slotPolls slot)

/-- NODE_REPLY (R162). -/
def execNodeReply (t : LineTime) (chars : List BusChar) (s : State) :
    Host.Outcome State Fault Refusal :=
  .next (((s.at t).replyHeard chars).closeEvent)

/-- RESPONSE_WINDOW_EXPIRY (R162). -/
def execResponseWindowExpiry (t : LineTime) (s : State) : Host.Outcome State Fault Refusal :=
  .next (((s.at t).windowExpires).closeEvent)

end Sys2Proof.Machine
end

