-- ==== Sys2Proof/Machine/ExecTimers.lean ====
section
/-! DEFINITION. The timer expiries. An expiry of a timer that is not running or not due changes
nothing but the clock (log entry 2). -/

namespace Sys2Proof.Machine

/-- CLAMP_TIMEOUT (R50). -/
def execClampTimeout (t : LineTime) (station : Nat) (s : State) :
    Host.Outcome State Fault Refusal :=
  .next (((s.at t).clampExpires station).closeEvent)

/-- SETTLE_EXPIRY (R51). -/
def execSettleExpiry (t : LineTime) (station : Nat) (s : State) :
    Host.Outcome State Fault Refusal :=
  .next (((s.at t).settleTimerExpires station).closeEvent)

/-- CYCLE_TIMEOUT (R55). -/
def execCycleTimeout (t : LineTime) (station : Nat) (s : State) :
    Host.Outcome State Fault Refusal :=
  .next (((s.at t).cycleExpires station).closeEvent)

/-- UNCLAMP_TIMEOUT (R56). -/
def execUnclampTimeout (t : LineTime) (station : Nat) (s : State) :
    Host.Outcome State Fault Refusal :=
  .next (((s.at t).unclampExpires station).closeEvent)

/-- COMMON_TIMER_EXPIRY (R57). -/
def execCommonTimerExpiry (t : LineTime) (segment : Nat) (s : State) :
    Host.Outcome State Fault Refusal :=
  .next (((s.at t).commonExpires segment).closeEvent)

/-- STATION_CLEAR_TIMEOUT (R67). -/
def execStationClearTimeout (t : LineTime) (station : Nat) (s : State) :
    Host.Outcome State Fault Refusal :=
  .next (((s.at t).stationClearExpires station).closeEvent)

/-- PHASE_TIMEOUT (R81). -/
def execPhaseTimeout (t : LineTime) (segment : Nat) (s : State) :
    Host.Outcome State Fault Refusal :=
  .next (((s.at t).phaseExpires segment).closeEvent)

/-- FEED_WAIT_EXPIRY (R77). -/
def execFeedWaitExpiry (t : LineTime) (segment : Nat) (s : State) :
    Host.Outcome State Fault Refusal :=
  .next (((s.at t).feedWaitExpires segment).closeEvent)

/-- SEGMENT_CLEAR_TIMEOUT (R92). -/
def execSegmentClearTimeout (t : LineTime) (segment : Nat) (s : State) :
    Host.Outcome State Fault Refusal :=
  .next (((s.at t).segClearExpires segment).closeEvent)

/-- EVALUATION_TIMER_EXPIRY (R112). -/
def execEvaluationTimerExpiry (t : LineTime) (s : State) : Host.Outcome State Fault Refusal :=
  .next (((s.at t).evaluationExpires).closeEvent)

/-- URGENCY_EXPIRY (R107). -/
def execUrgencyExpiry (t : LineTime) (segment : Nat) (s : State) :
    Host.Outcome State Fault Refusal :=
  .next ((s.at t).urgencyExpires segment)

/-- H_ENTRY_EXPIRY (R103). -/
def execHEntryExpiry (t : LineTime) (s : State) : Host.Outcome State Fault Refusal :=
  .next ((s.at t).hExpires)

/-- STAGGER_EXPIRY (R104). -/
def execStaggerExpiry (t : LineTime) (s : State) : Host.Outcome State Fault Refusal :=
  .next ((s.at t).staggerExpires)

/-- PERIOD_EXPIRY (R104). -/
def execPeriodExpiry (t : LineTime) (segment : Nat) (s : State) :
    Host.Outcome State Fault Refusal :=
  .next ((s.at t).periodExpires segment)

/-- TRAVEL_TIMEOUT (R120). -/
def execTravelTimeout (t : LineTime) (conveyor : Nat) (s : State) :
    Host.Outcome State Fault Refusal :=
  .next (((s.at t).travelExpiresAt conveyor).closeEvent)

/-- TAG_READ_TIMEOUT (R40). -/
def execTagReadTimeout (t : LineTime) (s : State) : Host.Outcome State Fault Refusal :=
  .next (((s.at t).tagReadExpires).closeEvent)

end Sys2Proof.Machine
end

