-- ==== Sys2Proof/Machine/Dispatch.lean ====
section
/-! DEFINITION. One arm for each command. -/

namespace Sys2Proof.Machine

def exec (i : Instr) (s : State) : Host.Outcome State Fault Refusal :=
  match i with
  | .hardwareReset estopAsserted br => Sys2Proof.Machine.execHardwareReset estopAsserted br s
  | .estopInAsserted t => Sys2Proof.Machine.execEstopInAsserted t s
  | .estopInReleased t => Sys2Proof.Machine.execEstopInReleased t s
  | .frameReceived t type tag body check => Sys2Proof.Machine.execFrameReceived t type tag body check s
  | .frameLengthInvalid t => Sys2Proof.Machine.execFrameLengthInvalid t s
  | .framingError t => Sys2Proof.Machine.execFramingError t s
  | .gapTimerExpiry t => Sys2Proof.Machine.execGapTimerExpiry t s
  | .replySendStart t cts => Sys2Proof.Machine.execReplySendStart t cts s
  | .replySendEnd t br => Sys2Proof.Machine.execReplySendEnd t br s
  | .unknownRequestType t type tag body => Sys2Proof.Machine.execUnknownRequestType t type tag body s
  | .lineSet t tag body => Sys2Proof.Machine.execLineSet t tag body s
  | .segmentSet t tag body => Sys2Proof.Machine.execSegmentSet t tag body s
  | .stationSet t tag body => Sys2Proof.Machine.execStationSet t tag body s
  | .busSet t tag body => Sys2Proof.Machine.execBusSet t tag body s
  | .commit t tag => Sys2Proof.Machine.execCommit t tag s
  | .uncommit t tag => Sys2Proof.Machine.execUncommit t tag s
  | .start t tag mode => Sys2Proof.Machine.execStart t tag mode s
  | .stop t tag => Sys2Proof.Machine.execStop t tag s
  | .mode t tag mode => Sys2Proof.Machine.execMode t tag mode s
  | .stepGrant t tag mask => Sys2Proof.Machine.execStepGrant t tag mask s
  | .hold t tag mask => Sys2Proof.Machine.execHold t tag mask s
  | .continueRun t tag mask => Sys2Proof.Machine.execContinueRun t tag mask s
  | .halt t tag => Sys2Proof.Machine.execHalt t tag s
  | .recover t tag => Sys2Proof.Machine.execRecover t tag s
  | .restart t tag => Sys2Proof.Machine.execRestart t tag s
  | .bypassOn t tag station => Sys2Proof.Machine.execBypassOn t tag station s
  | .bypassOff t tag station => Sys2Proof.Machine.execBypassOff t tag station s
  | .abortCycle t tag station => Sys2Proof.Machine.execAbortCycle t tag station s
  | .clearFaultStation t tag number => Sys2Proof.Machine.execClearFaultStation t tag number s
  | .clearFaultSegment t tag number => Sys2Proof.Machine.execClearFaultSegment t tag number s
  | .clearFaultConveyor t tag number => Sys2Proof.Machine.execClearFaultConveyor t tag number s
  | .palletDefine t tag id variant => Sys2Proof.Machine.execPalletDefine t tag id variant s
  | .palletDelete t tag id => Sys2Proof.Machine.execPalletDelete t tag id s
  | .palletRead t tag id => Sys2Proof.Machine.execPalletRead t tag id s
  | .place t tag id position => Sys2Proof.Machine.execPlace t tag id position s
  | .remove t tag id => Sys2Proof.Machine.execRemove t tag id s
  | .acceptTag t tag => Sys2Proof.Machine.execAcceptTag t tag s
  | .confirmSegmentBefore t tag segment => Sys2Proof.Machine.execConfirmSegmentBefore t tag segment s
  | .confirmSegmentAfter t tag segment => Sys2Proof.Machine.execConfirmSegmentAfter t tag segment s
  | .confirmSegmentList t tag segment flag occupants => Sys2Proof.Machine.execConfirmSegmentList t tag segment flag occupants s
  | .mapRead t tag start count => Sys2Proof.Machine.execMapRead t tag start count s
  | .reserveSet t tag volume => Sys2Proof.Machine.execReserveSet t tag volume s
  | .status t tag sectionNo => Sys2Proof.Machine.execStatus t tag sectionNo s
  | .identify t tag => Sys2Proof.Machine.execIdentify t tag s
  | .eventsTake t tag count => Sys2Proof.Machine.execEventsTake t tag count s
  | .scanStart t => Sys2Proof.Machine.execScanStart t s
  | .slotPoll t slot => Sys2Proof.Machine.execSlotPoll t slot s
  | .nodeReply t chars => Sys2Proof.Machine.execNodeReply t chars s
  | .responseWindowExpiry t => Sys2Proof.Machine.execResponseWindowExpiry t s
  | .clampTimeout t station => Sys2Proof.Machine.execClampTimeout t station s
  | .settleExpiry t station => Sys2Proof.Machine.execSettleExpiry t station s
  | .cycleTimeout t station => Sys2Proof.Machine.execCycleTimeout t station s
  | .unclampTimeout t station => Sys2Proof.Machine.execUnclampTimeout t station s
  | .commonTimerExpiry t segment => Sys2Proof.Machine.execCommonTimerExpiry t segment s
  | .stationClearTimeout t station => Sys2Proof.Machine.execStationClearTimeout t station s
  | .phaseTimeout t segment => Sys2Proof.Machine.execPhaseTimeout t segment s
  | .feedWaitExpiry t segment => Sys2Proof.Machine.execFeedWaitExpiry t segment s
  | .segmentClearTimeout t segment => Sys2Proof.Machine.execSegmentClearTimeout t segment s
  | .evaluationTimerExpiry t => Sys2Proof.Machine.execEvaluationTimerExpiry t s
  | .urgencyExpiry t segment => Sys2Proof.Machine.execUrgencyExpiry t segment s
  | .hEntryExpiry t => Sys2Proof.Machine.execHEntryExpiry t s
  | .staggerExpiry t => Sys2Proof.Machine.execStaggerExpiry t s
  | .periodExpiry t segment => Sys2Proof.Machine.execPeriodExpiry t segment s
  | .travelTimeout t conveyor => Sys2Proof.Machine.execTravelTimeout t conveyor s
  | .tagReadTimeout t => Sys2Proof.Machine.execTagReadTimeout t s
  | .cellLinkByteReceived t b => Sys2Proof.Machine.execCellLinkByteReceived t b s

end Sys2Proof.Machine
end

