-- ==== Sys2Proof/WellFormed.lean ====
section
/-! DEFINITION. Which commands are well formed: operands inside the ranges that their rows give.
The type codes of a request are listed in 11 section 11.2. -/

namespace Sys2Proof

/-- The request type codes of the part (11 section 11.2). -/
def requestTypeCodes : List Byte :=
  [0x10, 0x11, 0x12, 0x13, 0x14, 0x15, 0x20, 0x21, 0x22, 0x23, 0x24, 0x25, 0x26, 0x27, 0x28,
   0x30, 0x31, 0x32, 0x40, 0x41, 0x42, 0x43, 0x44, 0x45, 0x46, 0x47, 0x50, 0x60, 0x61, 0x62]

/-- A body fits one frame (R174). -/
def bodyFits (body : List Byte) : Bool := body.length ≤ Config.maxBody

def stationNumberOk (n : Nat) : Bool := 1 ≤ n && n ≤ 32
def segmentNumberOk (k : Nat) : Bool := 1 ≤ k && k ≤ 4
def conveyorNumberOk (c : Nat) : Bool := 1 ≤ c && c ≤ 5

/-- Operands in range. -/
def Instr.wellFormed : Instr → Bool
  | .hardwareReset _ _ => true
  | .estopInAsserted _ => true
  | .estopInReleased _ => true
  | .frameReceived _ _ _ body _ => bodyFits body
  | .frameLengthInvalid _ => true
  | .framingError _ => true
  | .gapTimerExpiry _ => true
  | .replySendStart _ _ => true
  | .replySendEnd _ _ => true
  | .unknownRequestType _ type _ body => bodyFits body && !requestTypeCodes.contains type
  | .lineSet _ _ body => bodyFits body
  | .segmentSet _ _ body => bodyFits body
  | .stationSet _ _ body => bodyFits body
  | .busSet _ _ body => bodyFits body
  | .commit _ _ => true
  | .uncommit _ _ => true
  | .start _ _ _ => true
  | .stop _ _ => true
  | .mode _ _ _ => true
  | .stepGrant _ _ _ => true
  | .hold _ _ _ => true
  | .continueRun _ _ _ => true
  | .halt _ _ => true
  | .recover _ _ => true
  | .restart _ _ => true
  | .bypassOn _ _ _ => true
  | .bypassOff _ _ _ => true
  | .abortCycle _ _ _ => true
  | .clearFaultStation _ _ _ => true
  | .clearFaultSegment _ _ _ => true
  | .clearFaultConveyor _ _ _ => true
  | .palletDefine _ _ _ _ => true
  | .palletDelete _ _ _ => true
  | .palletRead _ _ _ => true
  | .place _ _ _ _ => true
  | .remove _ _ _ => true
  | .acceptTag _ _ => true
  | .confirmSegmentBefore _ _ _ => true
  | .confirmSegmentAfter _ _ _ => true
  | .confirmSegmentList _ _ _ _ occupants => occupants.length + 4 ≤ Config.maxBody
  | .mapRead _ _ _ _ => true
  | .reserveSet _ _ _ => true
  | .status _ _ _ => true
  | .identify _ _ => true
  | .eventsTake _ _ _ => true
  | .scanStart _ => true
  | .slotPoll _ slot => slot < 48
  | .nodeReply _ chars => 1 ≤ chars.length && chars.length ≤ 8
  | .responseWindowExpiry _ => true
  | .clampTimeout _ n => stationNumberOk n
  | .settleExpiry _ n => stationNumberOk n
  | .cycleTimeout _ n => stationNumberOk n
  | .unclampTimeout _ n => stationNumberOk n
  | .commonTimerExpiry _ k => segmentNumberOk k
  | .stationClearTimeout _ n => stationNumberOk n
  | .phaseTimeout _ k => segmentNumberOk k
  | .feedWaitExpiry _ k => segmentNumberOk k
  | .segmentClearTimeout _ k => segmentNumberOk k
  | .evaluationTimerExpiry _ => true
  | .urgencyExpiry _ k => segmentNumberOk k
  | .hEntryExpiry _ => true
  | .staggerExpiry _ => true
  | .periodExpiry _ k => segmentNumberOk k
  | .travelTimeout _ c => conveyorNumberOk c
  | .tagReadTimeout _ => true
  | .cellLinkByteReceived _ _ => true

end Sys2Proof
end

