-- ==== Sys2Proof/Safety.lean ====
section
/-! DEFINITION. The terms of the claims: the cell link ready for one request, a state with one reply
added, the frames (what a chain of effects between the blocks leaves as it was), and the invariants. -/

namespace Sys2Proof.Machine

/-! ## The cell link -/

/-- A request whose frame arrives now is taken at once: no frame waits, the reply queue has room, and
RESTART has not been executed (R156, R176, R177). -/
def State.linkReady (s : State) : Prop :=
  s.clp.requests = [] ∧ s.clp.replies.length < Config.replyQueueCapacity ∧ s.clp.restarting = false

/-- The state in which a frame that arrives at line time `t` is executed: the clock at `t`, the receiver
hunting. -/
def State.taking (s : State) (t : LineTime) : State :=
  { s.at t with clp := { s.clp with rx := .hunting } }

/-- The state with the reply of a request joined to the back of the reply queue (R177). -/
def State.replied (s : State) (type tag : Byte) (a : Answer) : State :=
  { s with clp := { s.clp with
      replies := s.clp.replies ++ [{ type := type, tag := tag, body := a.body }] } }

/-! ## Frames

Two views of a state with parts blanked. Two states with equal views agree in every part that the view
keeps. -/

/-- What no effect between the blocks changes while the line state stands: the clock, the configuration,
the waiting commands, the cell link but for the Event Queue, line state, mode and ESTOP image, the
schedule and scan of the bus, and which records every table holds. -/
def State.fixed (s : State) : State :=
  { s with
    clp := { s.clp with events := [], gap := false },
    lsv := { s.lsv with segSettled := [], stationsSettled := none,
                        permits := s.lsv.permits.map fun p => (p.1, false) },
    trk := { pallets := s.trk.pallets.map fun p => (p.1, Pallet.fresh p.2.variant),
             segs := s.trk.segs.map fun p =>
               (p.1, { nests := [], certainty := .certain, openIndex := none }),
             lists := s.trk.lists.map fun p => (p.1, []), tag := .none, readerImage := none },
    rtu := Rtu.reset,
    sqs := { stations := s.sqs.stations.map fun p => (p.1, Station.fresh),
             common := s.sqs.common.map fun p => (p.1, .none) },
    sc := s.sc.map fun p => (p.1, Segment.fresh),
    ada := Ada.reset,
    cvt := { convs := s.cvt.convs.map fun p => (p.1, Conveyor.fresh), passOver := 0,
             staleRelease := false },
    sbm := { s.sbm with nodes := s.sbm.nodes.map fun p => (p.1, Node.fresh p.2.role) } }

/-- What the flow of segments (readiness, room, admission, withdrawal) leaves as it was: `fixed` keeps
less. Blanked are the segment records, the Admission Arbiter, common releases, open indexes, overdue flags
and the postponement note, reservations and room requests, pending commands, and posted events. -/
def State.still (s : State) : State :=
  { s with
    clp := { s.clp with events := [], gap := false },
    lsv := { s.lsv with segSettled := [], stationsSettled := none },
    trk := { s.trk with
             pallets := s.trk.pallets.map fun p => (p.1, { p.2 with overdue := false }),
             segs := s.trk.segs.map fun p => (p.1, { p.2 with openIndex := none }) },
    rtu := { s.rtu with note := none },
    sqs := { s.sqs with common := s.sqs.common.map fun p => (p.1, .none) },
    sc := s.sc.map fun p => (p.1, Segment.fresh),
    ada := Ada.reset,
    cvt := { s.cvt with
             convs := s.cvt.convs.map fun p => (p.1, { p.2 with reservations := [], requests := [] }),
             passOver := 0 },
    sbm := { s.sbm with nodes := s.sbm.nodes.map fun p => (p.1, { p.2 with pending := none }) } }

/-- `u` comes of `y` by the flow of segments and, from STOPPING, by the settling of the line (R149):
everything that `still` keeps is as in `y`. -/
def State.flowsTo (y u : State) : Prop :=
  u.still = { y with lsv := { y.lsv with lineState := u.lsv.lineState } }.still
    ∧ (u.lsv.lineState = y.lsv.lineState
      ∨ (y.lsv.lineState = .stopping ∧ u.lsv.lineState = .idle))

/-- `u` comes of `y` by effects between the blocks and, from STOPPING, by the settling of the line: everything
that `fixed` keeps is as in `y`. -/
def State.worksTo (y u : State) : Prop :=
  u.fixed = { y with lsv := { y.lsv with lineState := u.lsv.lineState } }.fixed
    ∧ (u.lsv.lineState = y.lsv.lineState
      ∨ (y.lsv.lineState = .stopping ∧ u.lsv.lineState = .idle))

/-- The Cell Link Port with further events posted, in this order (R184). -/
def Clp.posted (c : Clp) (events : List Event) : Clp := events.foldl Clp.postEvent c

/-! ## Bounds -/

/-- The Reserve Model and the lift history stay in their ranges: R at most Cap, the carry below 1000, H at
most W_max entries (05 section 5.1, R97, R101, R103). -/
def Ada.within (a : Ada) (l : LineRecord) : Prop :=
  a.r ≤ l.cap ∧ a.c ≤ 999 ∧ a.h.length ≤ l.wMax

/-- The Event Queue, the Admission Arbiter and the merge arbiter's count stay in their ranges (R184,
05 section 5.1, R125). -/
def State.within (s : State) : Prop :=
  s.clp.events.length ≤ Config.eventQueueCapacity ∧ s.ada.within s.cfg.line
    ∧ s.cvt.passOver ≤ s.cfg.line.m

/-- The queues of the cell link and the Pallet Table stay within their capacities, a reply being sent stands
in the reply queue, and a frame waits only while the reply queue is full or RESTART has been executed (R17,
R156, R176 to R178, R184). -/
structure State.QueuesWithin (s : State) : Prop where
  requests : s.clp.requests.length ≤ Config.requestQueueCapacity
  replies : s.clp.replies.length ≤ Config.replyQueueCapacity
  events : s.clp.events.length ≤ Config.eventQueueCapacity
  pallets : s.trk.pallets.length ≤ Config.palletCapacity
  sending : s.clp.sending.isSome = true → s.clp.replies ≠ []
  waiting : s.clp.requests ≠ [] →
    s.clp.replies.length = Config.replyQueueCapacity ∨ s.clp.restarting = true

/-! ## The shape of the state (R1, R9, R16, R155) -/

/-- In CONFIG no block holds anything of a configuration in service; the bus may still run the slot that was in
progress at UNCOMMIT to its end (R159). -/
structure State.OutOfService (s : State) : Prop where
  committed : s.cfg.committed = false
  derived : s.cfg.derived = none
  stations : s.sqs = .reset
  segments : s.sc = []
  admission : s.ada = .reset
  conveyors : s.cvt = .reset
  bus : s.sbm = .reset
    ∨ s.sbm = { nodes := [], schedule := [], scan := .ending, window := none, tx := s.sbm.tx }
  nests : s.trk.segs = []
  lists : s.trk.lists = []
  tag : s.trk.tag = .none
  reader : s.trk.readerImage = none
  route : s.rtu = { Rtu.reset with serial := s.rtu.serial }
  permits : s.lsv.permits = []
  notices : s.lsv.segSettled = [] ∧ s.lsv.stationsSettled = none
  unplaced : ∀ p ∈ s.trk.pallets, p.2.placement = none

/-- Outside CONFIG the configuration has passed every check, the derived tables are those of the records,
and every block holds one record for each unit in service. -/
structure State.InService (s : State) : Prop where
  committed : s.cfg.committed = true
  derived : s.cfg.derived = some s.cfg.derive
  checked : s.cfg.failure = none
  segments : s.sc.map (·.1) = upTo s.cfg.line.nseg
  nests : s.trk.segs.map (·.1) = upTo s.cfg.line.nseg
  permits : s.lsv.permits.map (·.1) = upTo s.cfg.line.nseg
  common : s.sqs.common.map (·.1) = upTo s.cfg.line.nseg
  stations : s.sqs.stations.map (·.1) = s.cfg.stations.map (·.1)
  lists : s.trk.lists.map (·.1) = convsInService s.cfg.line.nseg
  conveyors : s.cvt.convs.map (·.1) = convsInService s.cfg.line.nseg
  nodes : s.sbm.nodes.map (fun p => (p.1, p.2.role))
    = (nodeTable s.cfg.roles).map fun p => (p.1, p.2.role)
  schedule : s.sbm.schedule = s.cfg.bus.slots

/-- The line is in CONFIG exactly while nothing is in service. -/
def State.shaped (s : State) : Prop :=
  (s.lsv.lineState = .config → s.OutOfService) ∧ (s.lsv.lineState ≠ .config → s.InService)

/-! ## The end of STOPPING (R48, R94, R149) and of a tag check (R40) -/

/-- Every segment is OFF, READY or in FAULT, or in WORK with its bar AT_REST (R94), and every station RELEASED,
SKIPPED, in FAULT or LOCKOUT (R48): the condition on which STOPPING ends (R149). -/
def State.lineSettled (s : State) : Prop :=
  (∀ p ∈ s.sc, p.2.state = .off ∨ p.2.state = .ready ∨ p.2.state = .fault
    ∨ (p.2.state = .work ∧ p.2.bar = .atRest))
  ∧ ∀ p ∈ s.sqs.stations, p.2.state = .released ∨ p.2.state = .skipped ∨ p.2.state = .fault
    ∨ p.2.state = .lockout

/-- The close of an OPEN tag check: it is NONE, the track hold of S1 is cleared, the held N1 notice is given in RUN
and STOPPING, and S1 is tested (R40); DEDUCED for the notice before the test, log entry 10. -/
def State.tagClosed (y : State) (o : TagOpening) : State :=
  let z := ({ y with trk := { y.trk with tag := .none } } : State).modSeg 1 fun g => { g with trackHold := false }
  let z' : State := match (if o.noticeHeld then o.occupant else none) with
    | some id => if y.lsv.lineState = .run ∨ y.lsv.lineState = .stopping then z.arrival 1 1 id else z
    | none => z
  z'.scTest 1

/-! ## Placements (R18) -/

/-- Every pallet record shows the place that the map gives its pallet. -/
def State.placementsAgree (s : State) : Prop :=
  ∀ p ∈ s.trk.pallets, p.2.placement = s.placementInMap p.1

/-! ## Commands -/

/-- The line time a command bears; a hardware reset restarts the clock and bears none. -/
def lineTimeOf : Instr → Option LineTime
  | .hardwareReset _ _ => none
  | .estopInAsserted t => some t
  | .estopInReleased t => some t
  | .frameReceived t _ _ _ _ => some t
  | .frameLengthInvalid t => some t
  | .framingError t => some t
  | .gapTimerExpiry t => some t
  | .replySendStart t _ => some t
  | .replySendEnd t _ => some t
  | .unknownRequestType t _ _ _ => some t
  | .lineSet t _ _ => some t
  | .segmentSet t _ _ => some t
  | .stationSet t _ _ => some t
  | .busSet t _ _ => some t
  | .commit t _ => some t
  | .uncommit t _ => some t
  | .start t _ _ => some t
  | .stop t _ => some t
  | .mode t _ _ => some t
  | .stepGrant t _ _ => some t
  | .hold t _ _ => some t
  | .continueRun t _ _ => some t
  | .halt t _ => some t
  | .recover t _ => some t
  | .restart t _ => some t
  | .bypassOn t _ _ => some t
  | .bypassOff t _ _ => some t
  | .abortCycle t _ _ => some t
  | .clearFaultStation t _ _ => some t
  | .clearFaultSegment t _ _ => some t
  | .clearFaultConveyor t _ _ => some t
  | .palletDefine t _ _ _ => some t
  | .palletDelete t _ _ => some t
  | .palletRead t _ _ => some t
  | .place t _ _ _ => some t
  | .remove t _ _ => some t
  | .acceptTag t _ => some t
  | .confirmSegmentBefore t _ _ => some t
  | .confirmSegmentAfter t _ _ => some t
  | .confirmSegmentList t _ _ _ _ => some t
  | .mapRead t _ _ _ => some t
  | .reserveSet t _ _ => some t
  | .status t _ _ => some t
  | .identify t _ => some t
  | .eventsTake t _ _ => some t
  | .scanStart t => some t
  | .slotPoll t _ => some t
  | .nodeReply t _ => some t
  | .responseWindowExpiry t => some t
  | .clampTimeout t _ => some t
  | .settleExpiry t _ => some t
  | .cycleTimeout t _ => some t
  | .unclampTimeout t _ => some t
  | .commonTimerExpiry t _ => some t
  | .stationClearTimeout t _ => some t
  | .phaseTimeout t _ => some t
  | .feedWaitExpiry t _ => some t
  | .segmentClearTimeout t _ => some t
  | .evaluationTimerExpiry t => some t
  | .urgencyExpiry t _ => some t
  | .hEntryExpiry t => some t
  | .staggerExpiry t => some t
  | .periodExpiry t _ => some t
  | .travelTimeout t _ => some t
  | .tagReadTimeout t => some t
  | .cellLinkByteReceived t _ => some t

/-- The commands that may complete a frame of any type, or take one that waits. An UNKNOWN_REQUEST_TYPE
that is not well formed, since it names a type the part has, carries that request's frame. -/
def carriesFrames : Instr → Bool
  | .frameReceived _ _ _ _ _ | .cellLinkByteReceived _ _ | .replySendEnd _ _ => true
  | .unknownRequestType _ type _ _ => requestTypeCodes.contains type
  | _ => false

/-- The line states in which the causes of R146 let a command leave a line that is in `l`; STOPPING may
settle into IDLE in any event (R149). -/
def linesReached (c : Instr) (l : LineState) : List LineState :=
  match c, l with
  | .hardwareReset _ _, _ => [.config]
  | .commit _ _, .config => [.config, .idle, .halt]
  | .start _ _ _, .idle => [.idle, .run]
  | .stop _ _, .run => [.stopping, .idle]
  | .estopInAsserted _, .idle | .estopInAsserted _, .run => [l, .halt]
  | .estopInAsserted _, .stopping => [.stopping, .idle, .halt]
  | .halt _ _, .idle | .halt _ _, .run | .halt _ _, .stopping => [.halt]
  | .recover _ _, .halt => [.halt, .idle]
  | .uncommit _ _, .idle => [.config]
  | _, .stopping => [.stopping, .idle]
  | _, _ => [l]

/-- The types of the frames that a command may complete or let be taken. -/
def frameTypes (c : Instr) (s : State) : List Byte :=
  match c with
  | .frameReceived _ type _ _ _ | .unknownRequestType _ type _ _ => [type]
  | .cellLinkByteReceived _ b =>
    match s.clp.rx with
    | .assembling bytes _ => [((bytes ++ [b])[2]?).getD 0]
    | .hunting => []
  | .replySendEnd _ _ => s.clp.requests.map (·.type)
  | _ => []

/-- The line states, besides the present one, that a frame of a type can bring about (R146). -/
def linesAnswered (type : Byte) (l : LineState) : List LineState :=
  match type.toNat, l with
  | 0x14, .config => [.idle, .halt]
  | 0x15, .idle => [.config]
  | 0x20, .idle => [.run]
  | 0x22, .run => [.stopping, .idle]
  | 0x23, .idle | 0x23, .run | 0x23, .stopping => [.halt]
  | 0x24, .halt => [.idle]
  | _, _ => []

/-- The bytes of a character stream taken one after another at one line time. -/
def State.hear (t : LineTime) : List Byte → State → State
  | [], s => s
  | b :: rest, s =>
    match exec (.cellLinkByteReceived t b) s with
    | .next u => State.hear t rest u
    | .fault _ | .refused _ => s

/-! ## Records as the host sends them (01, 11 section 11.1) -/

/-- A LINE record within the ranges of 01 section 1.2. -/
structure LineRecord.InRange (r : LineRecord) : Prop where
  nseg : 1 ≤ r.nseg ∧ r.nseg ≤ 4
  capB : (1 ≤ r.capB1 ∧ r.capB1 ≤ 8) ∧ (1 ≤ r.capB2 ∧ r.capB2 ≤ 8) ∧ (1 ≤ r.capB3 ∧ r.capB3 ≤ 8)
  capVs : 1 ≤ r.capVs ∧ r.capVs ≤ 4
  capRc : 4 ≤ r.capRc ∧ r.capRc ≤ 24
  travel : (1000 ≤ r.travelB1 ∧ r.travelB1 ≤ 120000) ∧ (1000 ≤ r.travelB2 ∧ r.travelB2 ≤ 120000)
    ∧ (1000 ≤ r.travelB3 ∧ r.travelB3 ≤ 120000) ∧ (1000 ≤ r.travelVs ∧ r.travelVs ≤ 120000)
    ∧ (1000 ≤ r.travelRc ∧ r.travelRc ≤ 120000)
  nodes : r.nodeB1 ≤ 62 ∧ r.nodeB2 ≤ 62 ∧ r.nodeB3 ≤ 62 ∧ r.nodeVs ≤ 62 ∧ r.nodeRc ≤ 62
    ∧ r.nodeReader ≤ 62 ∧ r.nodeVerify ≤ 62 ∧ r.nodeHpu ≤ 62
  cap : 1000 ≤ r.cap ∧ r.cap ≤ 60000
  floor : r.f < r.cap
  q : 100 ≤ r.q ∧ r.q ≤ 20000
  wMax : 1 ≤ r.wMax ∧ r.wMax ≤ 6
  tWindow : 500 ≤ r.tWindow ∧ r.tWindow ≤ 60000
  tStagger : r.tStagger ≤ 10000
  tUrgent : 1000 ≤ r.tUrgent ∧ r.tUrgent ≤ 120000
  tRead : 100 ≤ r.tRead ∧ r.tRead ≤ 5000
  vLaps : 1 ≤ r.vLaps ∧ r.vLaps ≤ 64
  vGrace : r.vGrace ≤ 16
  m : 1 ≤ r.m ∧ r.m ≤ 8
  firstSerial : 1 ≤ r.firstSerial ∧ r.firstSerial ≤ 65535

/-- The 57 bytes of a LINE SET body. -/
def LineRecord.bytes (r : LineRecord) : List Byte :=
  [byteOf r.nseg, byteOf r.capB1, byteOf r.capB2, byteOf r.capB3, byteOf r.capVs, byteOf r.capRc]
    ++ beBytes 4 r.travelB1 ++ beBytes 4 r.travelB2 ++ beBytes 4 r.travelB3 ++ beBytes 4 r.travelVs
    ++ beBytes 4 r.travelRc
    ++ [byteOf r.nodeB1, byteOf r.nodeB2, byteOf r.nodeB3, byteOf r.nodeVs, byteOf r.nodeRc,
        byteOf r.nodeReader, byteOf r.nodeVerify, byteOf r.nodeHpu]
    ++ beBytes 2 r.cap ++ beBytes 2 r.f ++ beBytes 2 r.q ++ [byteOf r.wMax] ++ beBytes 2 r.tWindow
    ++ beBytes 2 r.tStagger ++ beBytes 4 r.tUrgent ++ beBytes 2 r.tRead
    ++ [byteOf r.vLaps, byteOf r.vGrace, byteOf r.m, flagByte r.skipRejects]
    ++ beBytes 2 r.firstSerial

/-- A SEGMENT record within the ranges of 01 section 1.3. -/
structure SegmentRecord.InRange (r : SegmentRecord) : Prop where
  nests : 2 ≤ r.nests ∧ r.nests ≤ 12
  nodeDrive : r.nodeDrive ≤ 62
  l : r.l ≤ 20000
  k : r.k ≤ 2000
  tIndexMin : 1000 ≤ r.tIndexMin ∧ r.tIndexMin ≤ 600000
  tFeedWait : r.tFeedWait ≤ 60000
  tReleaseCommon : 200 ≤ r.tReleaseCommon ∧ r.tReleaseCommon ≤ 20000
  phases : (200 ≤ r.tLiftMax ∧ r.tLiftMax ≤ 30000) ∧ (200 ≤ r.tAdvanceMax ∧ r.tAdvanceMax ≤ 30000)
    ∧ (200 ≤ r.tLowerMax ∧ r.tLowerMax ≤ 30000) ∧ (200 ≤ r.tReturnMax ∧ r.tReturnMax ≤ 30000)

/-- The 23 bytes of a SEGMENT SET body. -/
def SegmentRecord.bytes (k : Nat) (r : SegmentRecord) : List Byte :=
  [byteOf k, byteOf r.nests, byteOf r.nodeDrive] ++ beBytes 2 r.l ++ beBytes 2 r.k
    ++ beBytes 4 r.tIndexMin ++ beBytes 2 r.tFeedWait ++ beBytes 2 r.tReleaseCommon
    ++ beBytes 2 r.tLiftMax ++ beBytes 2 r.tAdvanceMax ++ beBytes 2 r.tLowerMax
    ++ beBytes 2 r.tReturnMax

/-- NONE 0, LOAD 1, UNLOAD 2, MACHINE 3 (01 section 1.4). -/
def StationKind.code : StationKind → Nat
  | .load => 1 | .unload => 2 | .machine => 3

/-- A STATION record within the ranges of 01 section 1.4 and the two conditions of R6. -/
structure StationRecord.InRange (r : StationRecord) : Prop where
  segment : 1 ≤ r.segment ∧ r.segment ≤ 4
  nest : 1 ≤ r.nest ∧ r.nest ≤ 12
  node : 1 ≤ r.node ∧ r.node ≤ 62
  mask : r.mask ≠ 0 ∧ (r.kind ≠ .machine → r.mask = 15)
  tSettle : r.tSettle ≤ 5000
  tClampMax : 100 ≤ r.tClampMax ∧ r.tClampMax ≤ 30000
  tCycleMin : r.tCycleMin ≤ 600000
  tCycleMax : 1000 ≤ r.tCycleMax ∧ r.tCycleMax ≤ 600000
  cycle : r.tCycleMin < r.tCycleMax
  tUnclampMax : 100 ≤ r.tUnclampMax ∧ r.tUnclampMax ≤ 30000

/-- The 21 bytes of a STATION SET body. -/
def StationRecord.bytes (n : Nat) (r : StationRecord) : List Byte :=
  [byteOf n, byteOf r.kind.code, byteOf r.segment, byteOf r.nest, byteOf r.node,
    byteOf r.mask.toNat, flagByte r.autoRelease]
    ++ beBytes 2 r.tSettle ++ beBytes 2 r.tClampMax ++ beBytes 4 r.tCycleMin ++ beBytes 4 r.tCycleMax
    ++ beBytes 2 r.tUnclampMax

/-- BIT_RATE's codes (11 section 11.1). -/
def BitRate.code : BitRate → Nat
  | .r250000 => 0 | .r500000 => 1 | .r1000000 => 2

/-- A BUS record within the ranges of 01 section 1.5. -/
structure BusRecord.InRange (r : BusRecord) : Prop where
  deLead : r.deLead ≤ 31
  deLag : r.deLag ≤ 31
  tResponse : 100 ≤ r.tResponse ∧ r.tResponse ≤ 5000
  slotTime : 2 ≤ r.slotTime ∧ r.slotTime ≤ 20
  scanOffset : r.scanOffset ≤ 20
  slotCount : 1 ≤ r.slots.length ∧ r.slots.length ≤ 48
  missLimit : 1 ≤ r.missLimit ∧ r.missLimit ≤ 8
  slots : ∀ a ∈ r.slots, a ≤ 62

/-- The 9 fixed bytes of a BUS SET body, then one byte for each slot. -/
def BusRecord.bytes (r : BusRecord) : List Byte :=
  [byteOf r.bitRate.code, byteOf r.deLead, byteOf r.deLag] ++ beBytes 2 r.tResponse
    ++ [byteOf r.slotTime, byteOf r.scanOffset, byteOf r.slots.length, byteOf r.missLimit]
    ++ r.slots.map byteOf

/-! ## The ranges of the records as checks in field order (R3 to R7)

A row is a field's value with the least and the greatest it may have. -/

/-- The number of the first row, counted from `i`, whose value is out of its range. -/
def firstBad : Nat → List (Nat × Nat × Nat) → Option Nat
  | _, [] => none
  | i, (v, lo, hi) :: rest => if lo ≤ v ∧ v ≤ hi then firstBad (i + 1) rest else some i

/-- The 32 fields of a LINE record (01 section 1.2); F lies below the Cap of the same record. -/
def LineRecord.checks (r : LineRecord) : List (Nat × Nat × Nat) :=
  [(r.nseg, 1, 4), (r.capB1, 1, 8), (r.capB2, 1, 8), (r.capB3, 1, 8), (r.capVs, 1, 4),
   (r.capRc, 4, 24), (r.travelB1, 1000, 120000), (r.travelB2, 1000, 120000),
   (r.travelB3, 1000, 120000), (r.travelVs, 1000, 120000), (r.travelRc, 1000, 120000),
   (r.nodeB1, 0, 62), (r.nodeB2, 0, 62), (r.nodeB3, 0, 62), (r.nodeVs, 0, 62), (r.nodeRc, 0, 62),
   (r.nodeReader, 0, 62), (r.nodeVerify, 0, 62), (r.nodeHpu, 0, 62), (r.cap, 1000, 60000),
   (r.f, 0, r.cap - 1), (r.q, 100, 20000), (r.wMax, 1, 6), (r.tWindow, 500, 60000),
   (r.tStagger, 0, 10000), (r.tUrgent, 1000, 120000), (r.tRead, 100, 5000), (r.vLaps, 1, 64),
   (r.vGrace, 0, 16), (r.m, 1, 8), (0, 0, 1), (r.firstSerial, 1, 65535)]

/-- Every field of the record fits the width it has in the body. -/
def LineRecord.fits (r : LineRecord) : Prop :=
  (∀ v ∈ [r.nseg, r.capB1, r.capB2, r.capB3, r.capVs, r.capRc, r.nodeB1, r.nodeB2, r.nodeB3, r.nodeVs,
      r.nodeRc, r.nodeReader, r.nodeVerify, r.nodeHpu, r.wMax, r.vLaps, r.vGrace, r.m], v < 256)
  ∧ (∀ v ∈ [r.cap, r.f, r.q, r.tWindow, r.tStagger, r.tRead, r.firstSerial], v < 65536)
  ∧ ∀ v ∈ [r.travelB1, r.travelB2, r.travelB3, r.travelVs, r.travelRc, r.tUrgent], v < 4294967296

/-- The 12 fields of a SEGMENT SET for segment `k` (01 section 1.3). -/
def SegmentRecord.checks (k : Nat) (r : SegmentRecord) : List (Nat × Nat × Nat) :=
  [(k, 1, 4), (r.nests, 2, 12), (r.nodeDrive, 0, 62), (r.l, 0, 20000), (r.k, 0, 2000),
   (r.tIndexMin, 1000, 600000), (r.tFeedWait, 0, 60000), (r.tReleaseCommon, 200, 20000),
   (r.tLiftMax, 200, 30000), (r.tAdvanceMax, 200, 30000), (r.tLowerMax, 200, 30000),
   (r.tReturnMax, 200, 30000)]

def SegmentRecord.fits (k : Nat) (r : SegmentRecord) : Prop :=
  (∀ v ∈ [k, r.nests, r.nodeDrive], v < 256)
  ∧ (∀ v ∈ [r.l, r.k, r.tFeedWait, r.tReleaseCommon, r.tLiftMax, r.tAdvanceMax, r.tLowerMax,
      r.tReturnMax], v < 65536)
  ∧ r.tIndexMin < 4294967296

/-- The 12 fields of a STATION SET for station `n` (01 section 1.4), with the two conditions of R6: a LOAD or
UNLOAD station has the full MASK, and T_cycle_max lies above T_cycle_min. -/
def StationRecord.checks (n : Nat) (r : StationRecord) : List (Nat × Nat × Nat) :=
  [(n, 1, 32), (0, 0, 3), (r.segment, 1, 4), (r.nest, 1, 12), (r.node, 1, 62),
   (r.mask.toNat, if r.kind = .machine then 1 else 15, 15), (0, 0, 1), (r.tSettle, 0, 5000),
   (r.tClampMax, 100, 30000), (r.tCycleMin, 0, 600000),
   (r.tCycleMax, max 1000 (r.tCycleMin + 1), 600000), (r.tUnclampMax, 100, 30000)]

def StationRecord.fits (n : Nat) (r : StationRecord) : Prop :=
  (∀ v ∈ [n, r.segment, r.nest, r.node], v < 256)
  ∧ (∀ v ∈ [r.tSettle, r.tClampMax, r.tUnclampMax], v < 65536)
  ∧ r.tCycleMin < 4294967296 ∧ r.tCycleMax < 4294967296

/-- The 8 fixed fields of a BUS record and its slots (01 section 1.5). -/
def BusRecord.checks (r : BusRecord) : List (Nat × Nat × Nat) :=
  [(0, 0, 2), (r.deLead, 0, 31), (r.deLag, 0, 31), (r.tResponse, 100, 5000), (r.slotTime, 2, 20),
   (r.scanOffset, 0, 20), (r.slots.length, 1, 48), (r.missLimit, 1, 8)]
    ++ r.slots.map fun a => (a, 0, 62)

def BusRecord.fits (r : BusRecord) : Prop :=
  (∀ v ∈ [r.deLead, r.deLag, r.slotTime, r.scanOffset, r.missLimit] ++ r.slots, v < 256)
  ∧ r.tResponse < 65536 ∧ r.slots.length ≤ 200

/-- An enumerated value in one byte: its place in the table that lists the values, the first one at `first`
(11 section 11.1). -/
def numberIn {α : Type} [DecidableEq α] (first : Nat) (values : List α) (a : α) : Byte :=
  byteOf (first + values.idxOf a)

/-! ## Node replies (11 section 11.4, R172) -/

/-- The echo character. -/
def Echo.byte (e : Echo) : Byte :=
  byteOf ((match e.code with | some c => c.code | none => 0) + (if e.refused then 64 else 0)
    + toggleBit e.toggle)

def StationReport.code : StationReport → Nat
  | .unclamped => 0 | .clamped => 1 | .cycling => 2 | .cycleDone => 3 | .fault => 4 | .lockout => 5

def DrivePhase.code : DrivePhase → Nat
  | .atRest => 0 | .lifting => 1 | .lifted => 2 | .advancing => 3 | .advanced => 4 | .lowering => 5
  | .lowered => 6 | .returning => 7 | .held => 8 | .fault => 9

def VerifyState.code : VerifyState → Nat
  | .idle => 0 | .checking => 1 | .pass => 2 | .fail => 3

/-- A flag character: D0 and D1. -/
def flagPair (d0 d1 : Bool) : Nat := (if d0 then 1 else 0) + (if d1 then 2 else 0)

/-- The four report places. -/
def Report.places : Report → List Byte
  | .station st code => [byteOf st.code, byteOf code, 0, 0]
  | .drive p => [byteOf p.code, 0, 0, 0]
  | .conveyor count jam head => [byteOf count, byteOf (flagPair jam head), 0, 0]
  | .reader sequence value => [byteOf sequence, byteOf value, 0, 0]
  | .verify st sequence => [byteOf st.code, byteOf sequence, 0, 0]
  | .hpu pump alarm => [byteOf (flagPair pump alarm), 0, 0, 0]

/-- A report that a node of the role may make: of its kind, with numbers of one character. -/
def Report.fits : Role → Report → Prop
  | .station _, .station _ code => code < 256
  | .drive _, .drive _ => True
  | .conveyor _, .conveyor count _ _ => count < 256
  | .reader, .reader sequence value => sequence < 256 ∧ value < 256
  | .verify, .verify _ sequence => sequence < 256
  | .hpu, .hpu _ _ => True
  | _, _ => False

/-- An echo that a node of the role may give: NONE or a command of its kind. -/
def Echo.fits (r : Role) (e : Echo) : Prop := ∀ c, e.code = some c → r.takes c = true

/-- The characters of a node's good reply (R172, R188). -/
def nodeReplyChars (address : Nat) (r : Role) (e : Echo) (rep : Report) : List BusChar :=
  busFrame address ([byteOf r.kindCode, e.byte] ++ rep.places)

/-- The part hears a good reply of the polled node `n` at address `a`, with its echo and report. -/
structure State.hears (s : State) (chars : List BusChar) (a : Nat) (n : Node) (e : Echo) (rep : Report) :
    Prop where
  window : ∃ w, s.sbm.window = some w ∧ w.address = a
  node : s.node a = some n
  judged : judgeReply a n.role chars = some (e, rep)

/-- The bus after a good reply and before its report is stored: the window is over, the node is ONLINE with
no misses and no resync, its echo image is the reply's, and a decided command is no longer pending (R163,
R167, R171). -/
def State.heardFrom (s : State) (t : LineTime) (a : Nat) (e : Echo) (decided : Bool) : State :=
  { s.at t with sbm := { s.sbm with
      window := none,
      nodes := tableModify a (fun m =>
        { m with state := .online, misses := 0, echo := some e, resync := false,
                 pending := if decided then none else m.pending }) s.sbm.nodes } }

/-- The report stored as the node's last (R164). -/
def State.reported (s : State) (a : Nat) (rep : Report) : State :=
  s.modNode a fun m => { m with report := some rep }

/-- What the owner hears of its node's good reply before the echo: an UNSEEN or MISSING node is ONLINE now, and one
that was LOST is back, with NODE_BACK posted first (R163, R164 step 1). -/
def State.noticed (x : State) (a : Nat) (n : Node) : State :=
  match n.state with
  | .online => x
  | .unseen | .missing => x.ownerNotice n.role .online false
  | .lost => (x.post .nodeBack n.role.subject none (.address a)).ownerNotice n.role .online true

/-- What the owner hears of the command that the echo decides (R164 step 2, R167). -/
def State.concluded (x : State) (n : Node) (e : Echo) : State :=
  match n.decided e with
  | none => x
  | some code => if e.refused then x.ownerRefused n.role code else x.ownerDelivered n.role code

/-- The state in which the owner takes the report of a good reply (R164 step 3). -/
def State.beforeReport (s : State) (t : LineTime) (a : Nat) (n : Node) (e : Echo) (rep : Report) : State :=
  (((s.heardFrom t a e (n.decided e).isSome).noticed a n).concluded n e).reported a rep

/-! ## The map and what counts on it (R22, R25, R26, R115 to R118) -/

/-- The pallets that stand in the Nest Map, nests first. -/
def Trk.standing (t : Trk) : List Nat :=
  (t.segs.flatMap fun p => p.2.nests.filterMap fun o => o) ++ t.lists.flatMap fun p => p.2.map (·.pallet)

/-- The Pallet Table holds one record for each ID, ascending; a pallet stands in at most one place, and only with a
record; and the ARRIVED entries of a list are a run from its head (R17, R22). -/
structure Trk.Sound (t : Trk) : Prop where
  records : t.pallets.Pairwise fun a b => a.1 < b.1
  once : t.standing.Nodup
  recorded : ∀ id ∈ t.standing, id ∈ t.pallets.map (·.1)
  arrivedFirst : ∀ p ∈ t.lists, p.2.Pairwise fun a b => a.state = .inTransit → b.state = .inTransit

/-- A conveyor to which the exit pallet of a segment may go: Bk from Sk below NSEG, VS or RC from the last
segment (R76, R116). -/
abbrev State.mayReach (s : State) (k : Nat) (c : ConvId) : Prop :=
  (k < s.nseg ∧ k ≤ 3 ∧ c.number = k) ∨ (k = s.nseg ∧ (c = .vs ∨ c = .rc))

/-- The conveyor on which a room is sought or held. -/
def Room.conveyor : Room → Option ConvId
  | .none => Option.none
  | .requested c | .held c => Option.some c

/-- One segment with its part of the map: it has an open index exactly while it is in motion or in FAULT and not
CERTAIN, with its exit pallet, a destination exactly for that, and an ARRIVED head of the upstream conveyor (R25,
R26); a clear is pending only in FAULT and CERTAIN (R91); its request is in the admission queue exactly while it is
QUEUED (R78, R106), and what its room says is what the conveyors hold for it, on a destination of its own (R76, R116,
R117); in IDLE and HALT it is OFF or
in FAULT, and it seeks nothing outside RUN (R94, R95). -/
structure State.SegmentSound (s : State) (k : Nat) : Prop where
  width : (s.nests k).length = (s.segCfg k).nests
  certain : (s.seg k).state ≠ .fault → s.certain k = true
  openIndex : (s.segMap k).openIndex.isSome = ((s.seg k).state.inMotion || !s.certain k)
  contents : ∀ oi ∈ (s.segMap k).openIndex, oi.exit = s.exitPallet k ∧ oi.dest.isSome = oi.exit.isSome
    ∧ (∀ id ∈ oi.entry, s.arrivedHead (upstreamOf k) = some id)
    ∧ ∀ c ∈ oi.dest, { holder := .segment k, status := .carried } ∈ (s.conv c).reservations
  clear : (s.seg k).clear.isSome = true → (s.seg k).state = .fault ∧ s.certain k = true
  queued : (s.seg k).queued.isSome = decide ((s.seg k).state = .queued)
    ∧ ((s.seg k).state = .queued ↔ k ∈ s.ada.queue.map (·.segment))
  feed : (s.seg k).feedWait.isSome = true → (s.seg k).state = .ready
  room : (s.seg k).room ≠ .none → (s.seg k).state = .ready ∨ (s.seg k).state = .queued
  roomHeld : ((s.seg k).state = .queued ∨ (s.seg k).feedWait.isSome = true) →
    (s.exitPallet k).isSome = true → (s.seg k).room.isHeld = true
  held : ∀ c ∈ (s.seg k).room.heldDest, { holder := .segment k, status := .held } ∈ (s.conv c).reservations
  own : (∀ c ∈ (s.seg k).room.conveyor, s.mayReach k c)
    ∧ ∀ oi ∈ (s.segMap k).openIndex, ∀ c ∈ oi.dest, s.mayReach k c
  trackHeld : k = 1 → s.trk.tag ≠ .none → (s.seg 1).trackHold = true ∧ (s.seg 1).state ≠ .queued
    ∧ (s.seg 1).state.inMotion = false
  line : s.lsv.lineState = .idle ∨ s.lsv.lineState = .halt →
    (s.seg k).state = .off ∨ (s.seg k).state = .fault
  seeks : (s.seg k).state = .queued ∨ (s.seg k).room ≠ .none ∨ (s.seg k).feedWait.isSome = true →
    s.lsv.lineState = .run

/-- A reservation that a conveyor holds: HELD for a segment whose room it is, CARRIED for a segment whose open index
goes there, RELEASING on RC for the pallet whose check is PASSED (R117, R127). -/
def State.reservationSound (s : State) (c : ConvId) (r : Reservation) : Prop :=
  match r.holder, r.status with
  | .segment k, .held => (s.seg k).room = .held c
  | .segment k, .carried => ∃ oi ∈ (s.segMap k).openIndex, oi.dest = some c
  | .spur, .releasing => c = .rc ∧ s.rtu.check = .passed
  | _, _ => False

/-- One conveyor: entries and reservations stay within its capacity, the expected arrivals are its IN_TRANSIT
entries, and each holder has one request or reservation there (R115, R116, R118). -/
structure State.ConveyorSound (s : State) (c : ConvId) : Prop where
  capacity : (s.list c).length + (s.conv c).reservations.length ≤ s.cfg.line.capacity c
  expected : (s.conv c).expected = (s.list c).countP fun e => e.state = .inTransit
  holders : ((s.conv c).reservations.map (·.holder) ++ (s.conv c).requests).Nodup
  reservations : ∀ r ∈ (s.conv c).reservations, s.reservationSound c r
  requests : ∀ h ∈ (s.conv c).requests, match h with
    | .segment k => (s.seg k).room = .requested c
    | .spur => c = .rc ∧ s.rtu.check = .passed

/-- The map is sound in every segment and conveyor; each queued request is of one segment in service; and a check in
hand is that of the ARRIVED head of VS, whose PASSED check has its SPUR request or reservation (R22, R106, R139,
R141). -/
structure State.MapSound (s : State) : Prop where
  map : s.trk.Sound
  segments : ∀ k ∈ s.segNumbers, s.SegmentSound k
  conveyors : ∀ c ∈ s.cvt.convs.map (·.1), s.ConveyorSound c
  queue : (s.ada.queue.map (·.segment)).Nodup ∧ ∀ q ∈ s.ada.queue, q.segment ∈ s.segNumbers
  check : s.rtu.check ≠ .idle → s.rtu.checkPallet = s.arrivedHead .vs ∧ s.rtu.checkPallet.isSome = true
  passed : s.rtu.check = .passed →
    .spur ∈ (s.conv .rc).reservations.map (·.holder) ++ (s.conv .rc).requests

/-! ## Entry into HALT (R152) -/

/-- What an entry into HALT leaves of a state `s` (R152): the line is in HALT, no segment moves or waits, no
station works, no common release and no travel timer runs, the ESTOP broadcast goes out, and the mode, the
configuration, the map, the lift history and the cell link but for its events are kept. -/
structure State.HaltedFrom (s u : State) : Prop where
  line : u.lsv.lineState = .halt ∧ u.lsv.mode = s.lsv.mode
  segments : ∀ k ∈ s.segNumbers, (u.seg k).state = .off ∨ (u.seg k).state = .fault
  stations : ∀ n ∈ s.stationNumbers, (u.station n).state = .fault ∨ (u.station n).state = .skipped
  common : ∀ p ∈ u.sqs.common, p.2 = .none
  travel : ∀ p ∈ u.cvt.convs, p.2.travel = none
  broadcast : u.sbm.tx = estopBroadcast
  tables : u.cfg = s.cfg
  nests : u.trk.segs.map (fun p => (p.1, p.2.nests, p.2.openIndex))
    = s.trk.segs.map fun p => (p.1, p.2.nests, p.2.openIndex)
  lists : u.trk.lists = s.trk.lists
  tag : u.trk.tag = s.trk.tag
  lifts : u.ada.h = s.ada.h.filter (fun x => elapsed x s.clock < s.cfg.line.tWindow) ∨ u.ada.h = s.ada.h
  spacing : u.ada.lastAny = s.ada.lastAny ∧ u.ada.lastSeg = s.ada.lastSeg
  link : { u.clp with events := s.clp.events, gap := s.clp.gap } = s.clp
  clock : u.clock = s.clock

end Sys2Proof.Machine
end

