-- ==== Sys2Proof/Certificates/Slice0/Obligations.lean ====
section
/-! DEFINITION. The statements for the provers. R<n> are the numbered rules of spec/; "log entry <n>" is a
row of notes/assumptions, and a clause that names one states the model's choice. -/

open Sys2Proof Sys2Proof.Machine

/-! ## The step and the reset -/

/-- A step runs the command at the front of the queue on the state with the queue's rest. -/
def Obligations.StepRunsTheFrontCommand : Prop :=
  ∀ (c : Instr) (rest : List Instr) (s : State),
    step { s with pending := c :: rest } = exec c { s with pending := rest }

/-- Every command answers a next state; it leaves the waiting commands alone and sets the line clock to its
own line time (log entry 1), but for the last byte of RESTART's reply and a hardware reset, which restart
the clock at 0 (R145, R156). -/
def Obligations.EveryCommandGoesOnAndSetsTheClock : Prop :=
  ∀ (c : Instr) (s : State), ∃ u : State, exec c s = .next u ∧ u.pending = s.pending
    ∧ (u.clock = (lineTimeOf c).getD 0
      ∨ (∃ t br, c = .replySendEnd t br) ∧ s.clp.restarting = true ∧ u.clock = 0)

/-- A hardware reset gives the reset state, line clock 0 and the part in CONFIG, with ESTOP_IN released; an
asserted ESTOP_IN is taken as an assertion, so that ESTOP_ON stands alone in the Event Queue and the line is in
CONFIG (R145, R151). BR1, BR0 are sampled, and while RESETn is low every output and BDE are low (R189). The reset
state is in CONFIG and AUTO, with the ESTOP image RELEASED, an empty Pallet Table, empty queues, no flags, and the
silent bus. The model's choice, not the spec's, are the level of CTS, deasserted, in the reset state, that the
command itself carries the levels of ESTOP_IN, BR1 and BR0 (both log entry 4), that the filter of ESTOP_IN counts
from the reset (log entry 15), and that the waiting commands stay. On the silent bus BDE is not driven (R159); the
levels of TXD, BTX and BDE about a frame or a poll are left out (log entry 15). -/
def Obligations.HardwareResetGivesTheResetState : Prop :=
  (∀ (br : BitVec 2) (s : State),
    exec (.hardwareReset false br) s =
      .next { State.reset with pending := s.pending, clp := { Clp.reset with rate := br } }
    ∧ exec (.hardwareReset true br) s =
      .next { State.reset with
        pending := s.pending,
        lsv := { Lsv.reset with estop := true },
        clp := { Clp.reset with
          rate := br,
          events := [{ kind := .estopOn, time := 0, subject := { kind := .line, number := 0 },
                       pallet := none, detail := .none }] } })
  ∧ (∀ s : State,
    s.outputs false = { txd := some false, rdy := false, atn := false, btx := some false, bde := some false }
    ∧ (s.outputs true).rdy = s.rdy ∧ (s.outputs true).atn = s.atn
    ∧ (s.sbm.scan = .silent → (s.outputs true).bde = some false))
  ∧ State.reset.lsv.lineState = .config ∧ State.reset.lsv.mode = .auto
  ∧ State.reset.lsv.estop = false ∧ State.reset.lsv.permits = [] ∧ State.reset.clock = 0
  ∧ State.reset.estopHeld = 0
  ∧ State.reset.trk.pallets = [] ∧ State.reset.clp.requests = [] ∧ State.reset.clp.replies = []
  ∧ State.reset.clp.events = [] ∧ State.reset.clp.gap = false ∧ State.reset.clp.linkError = false
  ∧ State.reset.clp.overrun = false ∧ State.reset.clp.rx = .hunting
  ∧ State.reset.rdy = true ∧ State.reset.atn = false
  ∧ State.reset.sbm.scan = .silent ∧ State.reset.sbm.nodes = [] ∧ State.reset.rtu.serial = 1

/-- R2: what a hardware reset and the reset after RESTART leave in the configuration store, with which COMMIT
fails at check 3; what UNCOMMIT keeps and discards, so that a following COMMIT takes the same checks and derives the same
tables; and that the changes between IDLE, RUN, STOPPING and HALT leave the store and its tables alone. -/
def Obligations.ConfigurationStoreIsKeptAsR2Says : Prop :=
  (∀ (estop : Bool) (br : BitVec 2) (s u : State),
    exec (.hardwareReset estop br) s = .next u → u.cfg = .reset)
  ∧ (∀ (t : LineTime) (br : BitVec 2) (s u : State) (frame : List Byte) (r : Reply),
    s.clp.sending = some frame → s.clp.replies = [r] → s.clp.restarting = true →
    exec (.replySendEnd t br) s = .next u → u.cfg = .reset)
  ∧ (ConfigStore.reset.line = .default ∧ ConfigStore.reset.bus = .default
    ∧ (∀ k, 1 ≤ k → k ≤ 4 → ConfigStore.reset.seg k = .default) ∧ SegmentRecord.default.nodeDrive = 0
    ∧ (∀ n, tableGet n ConfigStore.reset.stations = none) ∧ ConfigStore.reset.committed = false)
  ∧ (∀ (t : LineTime) (tag : Byte),
    exec (.commit t tag) State.reset =
      .next ((State.reset.taking t).replied 0x14 tag (.check 3 { kind := .line, number := 0 })))
  ∧ (∀ (t : LineTime) (tag : Byte) (s u : State), s.linkReady → s.lsv.lineState = .idle →
    exec (.uncommit t tag) s = .next u →
    u.cfg = { s.cfg with committed := false, derived := none }
      ∧ u.cfg.failure = s.cfg.failure ∧ u.cfg.derive = s.cfg.derive ∧ u.sbm.schedule = [])
  ∧ (∀ (c : Instr) (s u : State), s.linkReady → s.lsv.lineState ≠ .config → carriesFrames c = false →
    (∀ estop br, c ≠ .hardwareReset estop br) → (∀ t tag, c ≠ .uncommit t tag) →
    exec c s = .next u → u.cfg = s.cfg)

/-- The line state changes only by the causes of R146: a command at a ready link leaves the line in one of the
states that R146's table lets it lead to, STOPPING settling into IDLE in any event (R148, R149). In every state
whose queues are within their capacities a step leaves the line as it was, settles STOPPING, follows the table for
the command or for the frame that it takes, or is the reset after RESTART. Faults of stations, segments, conveyors
and nodes leave it alone (R157). In such a state a change but by a reset posts LINE_STATE with the new state, which
only an overflow of the Event Queue, shown by GAP, removes again. -/
def Obligations.LineStateChangesOnlyByItsCauses : Prop :=
  (∀ (c : Instr) (s u : State), s.linkReady → carriesFrames c = false → exec c s = .next u →
    u.lsv.lineState ∈ linesReached c s.lsv.lineState)
  ∧ (∀ (c : Instr) (rest : List Instr) (s u : State), s.QueuesWithin → s.pending = c :: rest →
    step s = .next u →
    u.lsv.lineState = s.lsv.lineState
    ∨ (s.lsv.lineState = .stopping ∧ u.lsv.lineState = .idle)
    ∨ u.lsv.lineState ∈ linesReached c s.lsv.lineState
    ∨ (∃ type ∈ frameTypes c s, u.lsv.lineState ∈ linesAnswered type s.lsv.lineState)
    ∨ ((∃ t br, c = .replySendEnd t br) ∧ s.clp.restarting = true ∧ u.lsv.lineState = .config))
  ∧ ∀ (c : Instr) (rest : List Instr) (s u : State), s.QueuesWithin → s.pending = c :: rest →
    step s = .next u →
    (∀ estop br, c ≠ .hardwareReset estop br) →
    ((∃ t br, c = .replySendEnd t br) → s.clp.restarting = false) →
    u.lsv.lineState ≠ s.lsv.lineState →
    u.clp.gap = true ∨ ∃ cause, { kind := .lineState, time := u.clock,
                                   subject := { kind := .line, number := 0 }, pallet := none,
                                   detail := .lineState u.lsv.lineState cause } ∈ u.clp.events

/-! ## ESTOP_IN and HALT -/

/-- R151, R152, R189: an assertion of ESTOP_IN that the 2 ms filter accepts sets the ESTOP image and posts
ESTOP_ON; in CONFIG and HALT it does nothing more, and in IDLE, RUN and STOPPING the line enters HALT: LINE_STATE
(HALT, ESTOP) follows ESTOP_ON, and only the faults that the halt causes follow both. A release clears the image,
posts ESTOP_OFF and changes no line state. A level that is the image already does nothing (log entry 31), and one
that comes less than 2 ms after the last accepted change, or after the reset, is not accepted (log entry 15). -/
def Obligations.EstopInputIsTaken : Prop :=
  ∀ (t : LineTime) (s : State),
    let line : Subject := { kind := .line, number := 0 }
    let taken := fun (level : Bool) (kind : EventKind) =>
      ({ s.at t with
        estopHeld := 0, lsv := { s.lsv with estop := level },
        clp := s.clp.postEvent { kind := kind, time := t, subject := line, pallet := none,
                                 detail := .none } } : State)
    let held := s.estopHeld + (t - s.clock).toNat
    (2 ≤ held →
      (s.lsv.estop = false →
        (s.lsv.lineState = .config →
          exec (.estopInAsserted t) s = .next (taken true .estopOn))
        ∧ (s.lsv.lineState = .halt →
          exec (.estopInAsserted t) s = .next (taken true .estopOn).takeNotices)
        ∧ (s.lsv.lineState = .idle ∨ s.lsv.lineState = .run ∨ s.lsv.lineState = .stopping →
          ∃ u : State, ∃ faults : List Event, exec (.estopInAsserted t) s = .next u
            ∧ u.lsv.estop = true ∧ u.estopHeld = 0 ∧ (s.at t).HaltedFrom u
            ∧ u.clp = (s.clp.posted
                [{ kind := .estopOn, time := t, subject := line, pallet := none, detail := .none },
                 { kind := .lineState, time := t, subject := line, pallet := none,
                   detail := .lineState .halt .estop }]).posted faults
            ∧ ∀ e ∈ faults, e.time = t ∧ (e.kind = .motionFault ∨ e.kind = .stationFault))
        ∧ exec (.estopInReleased t) s = .next (s.at t))
      ∧ (s.lsv.estop = true →
        exec (.estopInReleased t) s = .next (taken false .estopOff)
        ∧ exec (.estopInAsserted t) s = .next (s.at t).closeEvent))
    ∧ (held < 2 →
      exec (.estopInAsserted t) s = .next (s.at t)
      ∧ exec (.estopInReleased t) s = .next (s.at t))

/-- R153: HALT in IDLE, RUN and STOPPING enters HALT as an assertion of ESTOP_IN does, with the ESTOP image
as it stood: LINE_STATE (HALT, HALT_REQUEST) is posted first, and only the faults that the halt causes follow it
(R152). In HALT it is answered OK, and in CONFIG STATE, and nothing changes. -/
def Obligations.HaltRequestHaltsTheLine : Prop :=
  ∀ (t : LineTime) (tag : Byte) (s : State), s.linkReady →
    (s.lsv.lineState = .idle ∨ s.lsv.lineState = .run ∨ s.lsv.lineState = .stopping →
      ∃ u : State, ∃ faults : List Event,
        exec (.halt t tag) s = .next (u.replied 0x23 tag (.ok [])) ∧ u.lsv.estop = s.lsv.estop
        ∧ (s.taking t).HaltedFrom u
        ∧ u.clp = ((s.taking t).clp.posted
            [{ kind := .lineState, time := t, subject := { kind := .line, number := 0 }, pallet := none,
               detail := .lineState .halt .haltRequest }]).posted faults
        ∧ ∀ e ∈ faults, e.time = t ∧ (e.kind = .motionFault ∨ e.kind = .stationFault))
    ∧ (s.lsv.lineState = .halt →
      exec (.halt t tag) s = .next ((s.taking t).replied 0x23 tag (.ok [])))
    ∧ (s.lsv.lineState = .config →
      exec (.halt t tag) s = .next ((s.taking t).replied 0x23 tag .state))

/-! ## The cell link -/

/-- R175: a frame whose check disagrees is discarded with LINK_ERROR set and no reply; one whose check agrees
is offered to the request queue, whatever its type and body, and the receiver hunts in either case. A frame
offered while 4 wait is discarded with OVERRUN set; one that cannot be taken yet waits; one that can is
executed and its one reply queued (R176, R177). -/
def Obligations.FramesAreJudgedByTheirCheck : Prop :=
  ∀ (t : LineTime) (type tag : Byte) (body : List Byte) (check : BitVec 16) (s : State),
    body.length ≤ Config.maxBody →
    let x := s.taking t
    (check ≠ crc16 (beBytes 2 body.length ++ [type, tag] ++ body) →
      exec (.frameReceived t type tag body check) s =
        .next { x with clp := { x.clp with linkError := true } })
    ∧ (check = crc16 (beBytes 2 body.length ++ [type, tag] ++ body) →
      (Config.requestQueueCapacity ≤ s.clp.requests.length →
        exec (.frameReceived t type tag body check) s =
          .next { x with clp := { x.clp with overrun := true } })
      ∧ (s.clp.requests.length < Config.requestQueueCapacity →
        (Config.replyQueueCapacity ≤ s.clp.replies.length ∨ s.clp.restarting = true) →
        exec (.frameReceived t type tag body check) s =
          .next { x with clp := { x.clp with
            requests := s.clp.requests ++ [{ type := type, tag := tag, body := body }] } })
      ∧ (s.linkReady →
        exec (.frameReceived t type tag body check) s =
          .next ((x.answer { type := type, tag := tag, body := body }).1.replied type tag
            (x.answer { type := type, tag := tag, body := body }).2)))

/-- R174: a hunting receiver starts a frame only at the sync value 0xC3, and an assembling one adds each byte and
restarts the 10 ms gap timer, unless the byte shows a length above 240, which discards the frame, or is the last
one, at which the frame is judged. A length above 240, a framing error and the expiry of the gap timer discard the
partial frame while one is being assembled, set LINK_ERROR and leave the receiver hunting; while hunting a character
with a framing error is discarded and sets no flag. After a hardware reset and after RESTART the receiver is
hunting. -/
def Obligations.TheReceiverAssemblesFrames : Prop :=
  (∀ (t : LineTime) (b : Byte) (s : State), s.clp.rx = .hunting →
    (b ≠ 0xC3 → exec (.cellLinkByteReceived t b) s = .next (s.at t))
    ∧ (b = 0xC3 → exec (.cellLinkByteReceived t b) s =
      .next { s.at t with clp := { s.clp with
        rx := .assembling [] { start := t, limit := 10 } } })
    ∧ exec (.framingError t) s = .next (s.at t))
  ∧ (∀ (t : LineTime) (b : Byte) (s : State) (bytes : List Byte) (gap : Timer),
    s.clp.rx = .assembling bytes gap →
    let lost : State :=
      { s.at t with clp := { s.clp with rx := .hunting, linkError := true } }
    let heard := bytes ++ [b]
    let length := beNat (heard.take 2)
    (2 ≤ heard.length → 240 < length → exec (.cellLinkByteReceived t b) s = .next lost)
    ∧ (heard.length < 2 ∨ (length ≤ 240 ∧ (heard.length < 6 ∨ heard.length < length + 6)) →
      exec (.cellLinkByteReceived t b) s =
        .next { s.at t with clp := { s.clp with
          rx := .assembling heard { start := t, limit := 10 } } })
    ∧ (6 ≤ heard.length → length ≤ 240 → length + 6 ≤ heard.length →
      exec (.cellLinkByteReceived t b) s = .next ((s.at t).completeFrame heard))
    ∧ exec (.frameLengthInvalid t) s = .next lost
    ∧ exec (.framingError t) s = .next lost
    ∧ (gap.limit ≤ (t - gap.start).toNat → exec (.gapTimerExpiry t) s = .next lost))
  ∧ (∀ (estop : Bool) (br : BitVec 2) (s u : State),
    exec (.hardwareReset estop br) s = .next u → u.clp.rx = .hunting)
  ∧ ∀ (t : LineTime) (br : BitVec 2) (s u : State) (frame : List Byte) (r : Reply),
    s.clp.sending = some frame → s.clp.replies = [r] → s.clp.restarting = true →
    exec (.replySendEnd t br) s = .next u → u.clp.rx = .hunting

/-- The bytes of a frame with any fields and check, heard one after another by a hunting receiver, do what the
frame's own command does: sync, length, type, tag, body and check are read back as they were sent (R174,
R175, 11 section 11.2). -/
def Obligations.BytesOfAFrameAreTheFrame : Prop :=
  ∀ (t : LineTime) (type tag : Byte) (body : List Byte) (check : BitVec 16) (s : State),
    body.length ≤ Config.maxBody → s.clp.rx = .hunting →
    exec (.frameReceived t type tag body check) s =
      .next (s.hear t (0xC3 :: (beBytes 2 body.length ++ [type, tag] ++ body
        ++ beBytes 2 check.toNat)))

/-- Replies are sent in turn: one starts when CTS is asserted and none is being sent, as a frame with its CRC-16, and
CTS deasserted holds it back; at its last byte it leaves the reply queue, and the room opened lets the next waiting
frame be taken (R177, R178). When it was the last reply and RESTART has been executed, the part goes through the
reset, with the ESTOP image as the level of ESTOP_IN (R156; log entry 4). -/
def Obligations.RepliesAreSentInTurn : Prop :=
  (∀ (t : LineTime) (s : State),
    (∀ (r : Reply) (rest : List Reply), s.clp.sending = none → s.clp.replies = r :: rest →
      exec (.replySendStart t true) s =
        .next { s.at t with clp := { s.clp with
          cts := true,
          sending := some (0xC3 :: (beBytes 2 r.body.length ++ [r.type, r.tag] ++ r.body
            ++ beBytes 2 (crc16 (beBytes 2 r.body.length ++ [r.type, r.tag] ++ r.body)).toNat)) } })
    ∧ exec (.replySendStart t false) s = .next { s.at t with clp := { s.clp with cts := false } }
    ∧ ((s.clp.replies = [] ∨ s.clp.sending.isSome = true) →
      exec (.replySendStart t true) s = .next { s.at t with clp := { s.clp with cts := true } }))
  ∧ ∀ (t : LineTime) (br : BitVec 2) (s : State) (frame : List Byte) (r : Reply) (rest : List Reply),
    s.clp.sending = some frame → s.clp.replies = r :: rest →
    let x : State := { s.at t with clp := { s.clp with replies := rest, sending := none } }
    (s.clp.restarting = false → s.clp.requests = [] → exec (.replySendEnd t br) s = .next x)
    ∧ (∀ f : Frame, s.clp.restarting = false → s.clp.requests = [f] →
      rest.length < Config.replyQueueCapacity →
      let y : State := { x with clp := { x.clp with requests := [] } }
      exec (.replySendEnd t br) s = .next ((y.answer f).1.replied f.type f.tag (y.answer f).2))
    ∧ (s.clp.restarting = true → rest ≠ [] → exec (.replySendEnd t br) s = .next x)
    ∧ (s.clp.restarting = true → rest = [] →
      exec (.replySendEnd t br) s = exec (.hardwareReset s.lsv.estop br) s)

/-- R177: a request of a type the part does not have is answered TYPE, and one with a body shorter than its type
requires ARG with field number 0; neither changes anything. The SET requests require 57, 23, 21 and 9 + S bytes,
CONFIRM SEGMENT with LIST 4 and the occupants it counts, and the other types what 11 section 11.2 lists. -/
def Obligations.UnknownAndShortRequestsAreRefused : Prop :=
  (∀ (t : LineTime) (type tag : Byte) (body : List Byte) (s : State), s.linkReady →
    body.length ≤ Config.maxBody → type ∉ requestTypeCodes →
    exec (.unknownRequestType t type tag body) s = .next ((s.taking t).replied type tag .type))
  ∧ (∀ (t : LineTime) (tag : Byte) (body : List Byte) (s : State), s.linkReady →
    (body.length < 57 →
      exec (.lineSet t tag body) s = .next ((s.taking t).replied 0x10 tag (.arg 0)))
    ∧ (body.length < 23 →
      exec (.segmentSet t tag body) s = .next ((s.taking t).replied 0x11 tag (.arg 0)))
    ∧ (body.length < 21 →
      exec (.stationSet t tag body) s = .next ((s.taking t).replied 0x12 tag (.arg 0)))
    ∧ (body.length < 9 ∨ body.length < 9 + byteAt body 7 → body.length ≤ Config.maxBody →
      exec (.busSet t tag body) s = .next ((s.taking t).replied 0x13 tag (.arg 0))))
  ∧ ∀ (t : LineTime) (type tag : Byte) (body : List Byte) (s : State), s.linkReady →
    body.length ≤ Config.maxBody →
    (∃ least : Nat, (type, least) ∈ ([(0x10, 57), (0x11, 23), (0x12, 21), (0x13, 9 + byteAt body 7),
        (0x20, 1), (0x21, 1), (0x25, 1), (0x26, 1), (0x27, 1), (0x30, 2), (0x31, 1), (0x32, 2), (0x40, 2),
        (0x41, 1), (0x42, 1), (0x43, 2), (0x44, 1), (0x46, 2),
        (0x46, if byteAt body 1 = 2 then 4 + byteAt body 3 else 2), (0x47, 2), (0x50, 2), (0x60, 1),
        (0x62, 1)] : List (Byte × Nat)) ∧ body.length < least) →
    exec (.frameReceived t type tag body (crc16 (beBytes 2 body.length ++ [type, tag] ++ body))) s =
      .next ((s.taking t).replied type tag (.arg 0))

/-- R179: an answer other than OK means that the request changed nothing. -/
def Obligations.AnswersOtherThanOkChangeNothing : Prop :=
  ∀ (s u : State) (f : Frame) (a : Answer), s.answer f = (u, a) → (∀ data, a ≠ .ok data) → u = s

/-- R177: a taken frame leaves the request queue and exactly one reply, with its type and tag, joins the back
of the reply queue; the frames that wait behind it, the receiver and the reply being sent are untouched. -/
def Obligations.EachTakenFrameGivesOneReply : Prop :=
  ∀ (s : State) (f : Frame) (rest : List Frame), s.clp.requests = f :: rest →
    ∃ body, (s.takeFrame f rest).clp.replies =
        s.clp.replies ++ [{ type := f.type, tag := f.tag, body := body }]
      ∧ (s.takeFrame f rest).clp.requests = rest
      ∧ (s.takeFrame f rest).clp.rx = s.clp.rx
      ∧ (s.takeFrame f rest).clp.sending = s.clp.sending
      ∧ (s.takeFrame f rest).clp.cts = s.clp.cts
      ∧ (s.takeFrame f rest).clp.rate = s.clp.rate

/-- Every step keeps the queues of the cell link and the Pallet Table within their capacities, and lets a
frame wait only while the reply queue is full or RESTART has been executed (R17, R176 to R178, R184). -/
def Obligations.EveryStepKeepsTheQueues : Prop :=
  ∀ s u : State, s.QueuesWithin → step s = .next u → u.QueuesWithin

/-- Right after reset every invariant of the model holds: the queues, the shape of the state, the ranges of
the Reserve Model, the agreement of placements, and the soundness of the map. -/
def Obligations.ResetMeetsTheInvariants : Prop :=
  State.reset.QueuesWithin ∧ State.reset.shaped ∧ State.reset.within ∧ State.reset.placementsAgree
  ∧ State.reset.MapSound

/-! ## Configuration -/

/-- R3, R4: in CONFIG, a LINE SET that carries any record within the ranges of the table, each field in its
place and width (11 section 11.1), replaces the whole LINE record by exactly that record, is answered OK, and
changes nothing else; bytes beyond the 57 are ignored (R177). -/
def Obligations.LineSetStoresExactlyItsRecord : Prop :=
  ∀ (t : LineTime) (tag : Byte) (r : LineRecord) (extra : List Byte) (s : State), s.linkReady →
    s.lsv.lineState = .config → r.InRange → extra.length ≤ 100 →
    exec (.lineSet t tag (r.bytes ++ extra)) s =
      .next (({ s.taking t with cfg := { s.cfg with line := r } }).replied 0x10 tag (.ok []))

/-- R3, R5, R6, R7: in CONFIG, a SEGMENT SET, STATION SET or BUS SET that carries any record within its ranges
stores exactly that record under its number and changes nothing else; STATION SET with KIND = NONE empties
the place, whatever its other fields hold. -/
def Obligations.OtherSetsStoreExactlyTheirRecord : Prop :=
  ∀ (t : LineTime) (tag : Byte) (s : State), s.linkReady → s.lsv.lineState = .config →
    (∀ (k : Nat) (r : SegmentRecord), 1 ≤ k → k ≤ 4 → r.InRange →
      exec (.segmentSet t tag (r.bytes k)) s =
        .next (({ s.taking t with cfg := { s.cfg with segments := tableInsert k r s.cfg.segments } }).replied
          0x11 tag (.ok [])))
    ∧ (∀ (n : Nat) (r : StationRecord), 1 ≤ n → n ≤ 32 → r.InRange →
      exec (.stationSet t tag (r.bytes n)) s =
        .next (({ s.taking t with cfg := { s.cfg with stations := tableInsert n r s.cfg.stations } }).replied
          0x12 tag (.ok [])))
    ∧ (∀ (n : Nat) (rest : List Byte), 1 ≤ n → n ≤ 32 → rest.length = 19 →
      exec (.stationSet t tag (byteOf n :: 0 :: rest)) s =
        .next (({ s.taking t with cfg := { s.cfg with stations := tableErase n s.cfg.stations } }).replied
          0x12 tag (.ok [])))
    ∧ (∀ r : BusRecord, r.InRange →
      exec (.busSet t tag r.bytes) s =
        .next (({ s.taking t with cfg := { s.cfg with bus := r } }).replied 0x13 tag (.ok [])))

/-- Outside CONFIG the SET requests are answered STATE. In CONFIG a record of any values is answered ARG with the
number of the first field that fails its range (R3): the fields of LINE with F below Cap (R4), of SEGMENT (R5), of
STATION with the full MASK of LOAD and UNLOAD and T_cycle_max above T_cycle_min (R6), and of BUS with its slots, of
which an entry beyond S is field 9 + S (R7). SKIP_REJECTS, KIND, MASK, AUTO_RELEASE and BIT_RATE beyond their values
are fields 31, 2, 6, 7 and 1, and KIND = NONE with a station number out of range field 1. Nothing is stored. -/
def Obligations.SetsAreRefusedByTheFirstBadField : Prop :=
  ∀ (t : LineTime) (tag : Byte) (s : State), s.linkReady →
    (s.lsv.lineState ≠ .config → ∀ body : List Byte, body.length ≤ Config.maxBody →
      (57 ≤ body.length →
        exec (.lineSet t tag body) s = .next ((s.taking t).replied 0x10 tag .state))
      ∧ (23 ≤ body.length →
        exec (.segmentSet t tag body) s = .next ((s.taking t).replied 0x11 tag .state))
      ∧ (21 ≤ body.length →
        exec (.stationSet t tag body) s = .next ((s.taking t).replied 0x12 tag .state))
      ∧ (9 + byteAt body 7 ≤ body.length →
        exec (.busSet t tag body) s = .next ((s.taking t).replied 0x13 tag .state)))
    ∧ (s.lsv.lineState = .config →
      (∀ r : LineRecord, r.fits → ∀ i, firstBad 1 r.checks = some i →
        exec (.lineSet t tag r.bytes) s = .next ((s.taking t).replied 0x10 tag (.arg i)))
      ∧ (∀ r : LineRecord, r.InRange → ∀ b : Byte, 1 < b.toNat →
        exec (.lineSet t tag (r.bytes.set 54 b)) s = .next ((s.taking t).replied 0x10 tag (.arg 31)))
      ∧ (∀ (k : Nat) (r : SegmentRecord), r.fits k → ∀ i, firstBad 1 (r.checks k) = some i →
        exec (.segmentSet t tag (r.bytes k)) s = .next ((s.taking t).replied 0x11 tag (.arg i)))
      ∧ (∀ (n : Nat) (r : StationRecord), r.fits n →
        (∀ i, firstBad 1 (r.checks n) = some i →
          exec (.stationSet t tag (r.bytes n)) s = .next ((s.taking t).replied 0x12 tag (.arg i)))
        ∧ (1 ≤ n → n ≤ 32 → r.InRange →
          (∀ b : Byte, 3 < b.toNat →
            exec (.stationSet t tag ((r.bytes n).set 1 b)) s =
              .next ((s.taking t).replied 0x12 tag (.arg 2)))
          ∧ (∀ b : Byte, 15 < b.toNat →
            exec (.stationSet t tag ((r.bytes n).set 5 b)) s =
              .next ((s.taking t).replied 0x12 tag (.arg 6)))
          ∧ (∀ b : Byte, 1 < b.toNat →
            exec (.stationSet t tag ((r.bytes n).set 6 b)) s =
              .next ((s.taking t).replied 0x12 tag (.arg 7)))))
      ∧ (∀ (n : Nat) (rest : List Byte), (n = 0 ∨ 32 < n) → n < 256 → rest.length = 19 →
        exec (.stationSet t tag (byteOf n :: 0 :: rest)) s =
          .next ((s.taking t).replied 0x12 tag (.arg 1)))
      ∧ (∀ r : BusRecord, r.fits →
        (∀ i, firstBad 1 r.checks = some i →
          exec (.busSet t tag r.bytes) s = .next ((s.taking t).replied 0x13 tag (.arg i)))
        ∧ (∀ b : Byte, 2 < b.toNat →
          exec (.busSet t tag (r.bytes.set 0 b)) s = .next ((s.taking t).replied 0x13 tag (.arg 1)))
        ∧ (r.InRange → ∀ extra : List Byte, extra ≠ [] → extra.length ≤ 100 →
          exec (.busSet t tag (r.bytes ++ extra)) s =
            .next ((s.taking t).replied 0x13 tag (.arg (9 + r.slots.length))))))

/-- R8: P and the runs of the loop for each NSEG, in flow order from position 0, each element directly after
the one before it; a nest's position is its segment's first plus its number less one, a conveyor's head stop
is the last of its run, and P is at most 100 for records within the ranges. -/
def Obligations.LoopPositionsAreThoseOfR8 : Prop :=
  (∀ c : ConfigStore,
    let n := fun k => (c.seg k).nests
    let l := c.line
    (l.nseg = 1 → c.derive.p = n 1 + l.capVs + l.capRc
      ∧ c.derive.segRuns = [(1, 0, n 1)]
      ∧ c.derive.convRuns = [(.vs, n 1, l.capVs), (.rc, n 1 + l.capVs, l.capRc)])
    ∧ (l.nseg = 2 → c.derive.p = n 1 + n 2 + l.capB1 + l.capVs + l.capRc
      ∧ c.derive.segRuns = [(1, 0, n 1), (2, n 1 + l.capB1, n 2)]
      ∧ c.derive.convRuns = [(.b1, n 1, l.capB1), (.vs, n 1 + l.capB1 + n 2, l.capVs),
          (.rc, n 1 + l.capB1 + n 2 + l.capVs, l.capRc)])
    ∧ (l.nseg = 3 → c.derive.p = n 1 + n 2 + n 3 + (l.capB1 + l.capB2) + l.capVs + l.capRc
      ∧ c.derive.segRuns = [(1, 0, n 1), (2, n 1 + l.capB1, n 2),
          (3, n 1 + l.capB1 + n 2 + l.capB2, n 3)]
      ∧ c.derive.convRuns = [(.b1, n 1, l.capB1), (.b2, n 1 + l.capB1 + n 2, l.capB2),
          (.vs, n 1 + l.capB1 + n 2 + l.capB2 + n 3, l.capVs),
          (.rc, n 1 + l.capB1 + n 2 + l.capB2 + n 3 + l.capVs, l.capRc)])
    ∧ (l.nseg = 4 → c.derive.p = n 1 + n 2 + n 3 + n 4 + (l.capB1 + l.capB2 + l.capB3) + l.capVs + l.capRc
      ∧ c.derive.segRuns = [(1, 0, n 1), (2, n 1 + l.capB1, n 2),
          (3, n 1 + l.capB1 + n 2 + l.capB2, n 3),
          (4, n 1 + l.capB1 + n 2 + l.capB2 + n 3 + l.capB3, n 4)]
      ∧ c.derive.convRuns = [(.b1, n 1, l.capB1), (.b2, n 1 + l.capB1 + n 2, l.capB2),
          (.b3, n 1 + l.capB1 + n 2 + l.capB2 + n 3, l.capB3),
          (.vs, n 1 + l.capB1 + n 2 + l.capB2 + n 3 + l.capB3 + n 4, l.capVs),
          (.rc, n 1 + l.capB1 + n 2 + l.capB2 + n 3 + l.capB3 + n 4 + l.capVs, l.capRc)])
    ∧ (l.InRange → (∀ k, 1 ≤ k → k ≤ 4 → n k ≤ 12) → c.derive.p ≤ 100))
  ∧ (∀ (s : State) (k j : Nat), s.positionOf (.nest k j) = s.segFirst k + (j - 1))
  ∧ ∀ (s : State) (c : ConvId),
    s.positionOf (.entry c 0) = (s.convRun c).1 + (s.convRun c).2 - 1

/-- In service, every loop position below P shows exactly one place, and that place stands at the position;
from P on there is none (R8, R9, R23, R36). -/
def Obligations.PositionsAndPlacesAgree : Prop :=
  ∀ s : State, s.InService → s.cfg.line.InRange →
    (∀ pos, pos < s.loopCount → ∃ place, s.placeAt pos = some place ∧ s.positionOf place = pos)
    ∧ ∀ pos, s.loopCount ≤ pos → s.placeAt pos = none

/-- A configuration passes every check exactly when: each station stands on a segment and nest in service, no
two on one nest, one LOAD station at S1.N1 and one UNLOAD station at the exit nest of the last segment; every
role has an address of its own other than 0 that stands in a slot, and every enabled slot holds one; and
checks 9 to 11 hold (R10 to R15). -/
def Obligations.ChecksPassExactlyOnSoundConfigurations : Prop :=
  ∀ c : ConfigStore, c.failure = none ↔
    (∀ p ∈ c.stations, p.2.segment ≤ c.line.nseg ∧ p.2.nest ≤ (c.seg p.2.segment).nests)
    ∧ (c.stations.map fun p => (p.2.segment, p.2.nest)).Nodup
    ∧ (∃ n r, c.stations.filter (fun p => p.2.kind = .load) = [(n, r)] ∧ r.segment = 1 ∧ r.nest = 1)
    ∧ (∃ n r, c.stations.filter (fun p => p.2.kind = .unload) = [(n, r)]
        ∧ r.segment = c.line.nseg ∧ r.nest = (c.seg c.line.nseg).nests)
    ∧ (∀ p ∈ c.roles, p.1 ≠ 0) ∧ (c.roles.map (·.1)).Nodup
    ∧ (∀ p ∈ c.roles, p.1 ∈ c.bus.slots)
    ∧ (∀ a ∈ c.bus.slots, a ≠ 0 → a ∈ c.roles.map (·.1))
    ∧ (∀ k, 1 ≤ k → k ≤ c.line.nseg →
        (c.seg k).l + (c.seg k).k * (c.seg k).nests + c.line.f ≤ c.line.cap)
    ∧ (c.bus.deLead + 165 + c.bus.deLag) * c.bus.bitRate.bitTime + c.bus.tResponse
        ≤ c.bus.slotTime * 1000
    ∧ 33 * c.bus.bitRate.bitTime + c.bus.scanOffset * 1000
        + c.bus.slots.length * c.bus.slotTime * 1000 ≤ 1000000
    ∧ 33 * c.bus.bitRate.bitTime + c.bus.scanOffset * 1000
        + c.bus.slots.length * c.bus.slotTime * 1000 < c.line.tRead * 1000

/-- R14: check 9 passes when the largest demand of every segment in service, with the floor, fits Cap, and
otherwise names the first segment that does not. R15: check 10 is the slot budget and check 11 the scan period,
each with subject LINE 0; the default BUS record passes check 10 with 1338 µs in 5000. -/
def Obligations.ChecksNineToElevenAreThoseOfR14AndR15 : Prop :=
  (∀ c : ConfigStore,
    (c.check9 = none ↔ ∀ k, 1 ≤ k → k ≤ c.line.nseg →
      (c.seg k).l + (c.seg k).k * (c.seg k).nests + c.line.f ≤ c.line.cap)
    ∧ (∀ subject, c.check9 = some subject ↔ ∃ k, subject = { kind := .segment, number := k }
      ∧ 1 ≤ k ∧ k ≤ c.line.nseg
      ∧ c.line.cap < (c.seg k).l + (c.seg k).k * (c.seg k).nests + c.line.f
      ∧ ∀ j, 1 ≤ j → j < k →
        (c.seg j).l + (c.seg j).k * (c.seg j).nests + c.line.f ≤ c.line.cap)
    ∧ c.check10 =
      (if (c.bus.deLead + 165 + c.bus.deLag) * c.bus.bitRate.bitTime + c.bus.tResponse
          ≤ c.bus.slotTime * 1000 then none else some { kind := .line, number := 0 })
    ∧ c.scanPeriod = 33 * c.bus.bitRate.bitTime + c.bus.scanOffset * 1000
        + c.bus.slots.length * c.bus.slotTime * 1000
    ∧ c.check11 =
      (if c.scanPeriod ≤ 1000000 ∧ c.scanPeriod < c.line.tRead * 1000 then none
        else some { kind := .line, number := 0 }))
  ∧ (BusRecord.default.deLead + 165 + BusRecord.default.deLag) * BusRecord.default.bitRate.bitTime
      + BusRecord.default.tResponse = 1338
  ∧ ConfigStore.reset.check10 = none

/-- A COMMIT whose checks fail in CONFIG is answered CHECK with the first failing check and its subject, and
changes nothing; outside CONFIG it is answered STATE (R10). -/
def Obligations.FailedCommitsChangeNothing : Prop :=
  ∀ (t : LineTime) (tag : Byte) (s : State), s.linkReady →
    (s.lsv.lineState = .config → ∀ n subject, s.cfg.failure = some (n, subject) →
      exec (.commit t tag) s = .next ((s.taking t).replied 0x14 tag (.check n subject)))
    ∧ (s.lsv.lineState ≠ .config →
      exec (.commit t tag) s = .next ((s.taking t).replied 0x14 tag .state))

/-- R16 with R24, R46, R71, R96, R114, R129, R145 and R159: a COMMIT that passes puts the configuration into
service. The derived tables are built, the map is empty and CERTAIN, every unit's record is fresh, the Reserve
Model is 0 from now, the node table holds every role address as UNSEEN and the first scan begins with
SCAN_SYNC; the mode is AUTO, the line enters IDLE with its event, and the reply carries P and the scan period.
With the ESTOP image ASSERTED the line passes on into HALT, and the first scan begins with the ESTOP
broadcast (R151, R171). The model's choice is D7 of the broadcasts' control character, 0 (log entry 44). -/
def Obligations.CommitPutsTheConfigurationIntoService : Prop :=
  ∀ (t : LineTime) (tag : Byte) (s : State), s.linkReady → s.lsv.lineState = .config →
    s.cfg.failure = none →
    let segs := upTo s.cfg.line.nseg
    let convs := convsInService s.cfg.line.nseg
    let reply : Answer := .ok (byteOf s.cfg.derive.p :: beBytes 4 (33 * s.cfg.bus.bitRate.bitTime
      + s.cfg.bus.scanOffset * 1000 + s.cfg.bus.slots.length * s.cfg.bus.slotTime * 1000))
    (s.lsv.estop = false →
      exec (.commit t tag) s =
        .next (({ s.at t with
          clp := ({ s.clp with rx := .hunting } : Clp).postEvent
            { kind := .lineState, time := t, subject := { kind := .line, number := 0 }, pallet := none,
              detail := .lineState .idle .commit },
          lsv := { s.lsv with lineState := .idle, mode := .auto, permits := segs.map fun k => (k, false) },
          cfg := { s.cfg with committed := true, derived := some s.cfg.derive },
          trk := { pallets := s.trk.pallets,
                   segs := segs.map fun k =>
                     (k, { nests := List.replicate (s.cfg.seg k).nests none, certainty := .certain,
                           openIndex := none }),
                   lists := convs.map fun c => (c, []), tag := .none, readerImage := none },
          rtu := { Rtu.reset with serial := s.cfg.line.firstSerial },
          sqs := { stations := s.cfg.stations.map fun p => (p.1, Station.fresh),
                   common := segs.map fun k => (k, .none) },
          sc := segs.map fun k => (k, Segment.fresh),
          ada := { Ada.reset with tLast := t },
          cvt := { convs := convs.map fun c => (c, Conveyor.fresh), passOver := 0,
                   staleRelease := false },
          sbm := { nodes := nodeTable s.cfg.roles, schedule := s.cfg.bus.slots,
                   scan := .scanning 0 false, window := none, tx := busFrame 63 [1] } }
          : State).takeNotices.replied 0x14 tag reply))
    ∧ (s.lsv.estop = true →
      ∃ u : State, exec (.commit t tag) s = .next (u.replied 0x14 tag reply)
        ∧ u.lsv.lineState = .halt ∧ u.lsv.mode = .auto ∧ u.lsv.estop = true
        ∧ u.cfg = { s.cfg with committed := true, derived := some s.cfg.derive }
        ∧ u.sbm.scan = .scanning 0 false ∧ u.sbm.tx = busFrame 63 [1] ++ busFrame 63 [2]
        ∧ u.rtu.serial = s.cfg.line.firstSerial)

/-- R155 with R24, R96, R129 and R159: UNCOMMIT enters CONFIG with its event; every block discards what it holds
of the configuration in service, every pallet becomes UNPLACED, and the records, the serial counter, the mode
and the Event Queue are kept. The node table, the pending commands and the schedule go at once; a scan in progress
runs its slot to the end, in which a reply is ignored, and the bus falls silent at the next slot boundary (R159; log
entry 25). -/
def Obligations.UncommitTakesTheConfigurationOutOfService : Prop :=
  (∀ (t : LineTime) (tag : Byte) (s : State), s.linkReady →
    (s.lsv.lineState = .idle → ∀ first cut, s.sbm.scan = .scanning first cut →
      exec (.uncommit t tag) s =
        .next (({ s.at t with
          clp := ({ s.clp with rx := .hunting } : Clp).postEvent
            { kind := .lineState, time := t, subject := { kind := .line, number := 0 }, pallet := none,
              detail := .lineState .config .uncommit },
          lsv := { s.lsv with lineState := .config, segSettled := [], stationsSettled := none,
                              permits := [] },
          cfg := { s.cfg with committed := false, derived := none },
          trk := { pallets := s.trk.pallets.map fun p => (p.1, { p.2 with placement := none }),
                   segs := [], lists := [], tag := .none, readerImage := none },
          rtu := { Rtu.reset with serial := s.rtu.serial },
          sqs := .reset, sc := [], ada := .reset, cvt := .reset,
          sbm := { nodes := [], schedule := [], scan := .ending, window := none, tx := s.sbm.tx } }
          : State).replied 0x15 tag (.ok [])))
    ∧ (s.lsv.lineState ≠ .idle →
      exec (.uncommit t tag) s = .next ((s.taking t).replied 0x15 tag .state)))
  ∧ ∀ (t : LineTime) (s : State), s.sbm.scan = .ending →
    let silent : State := { s.at t with sbm := { s.sbm with scan := .silent, tx := [] } }
    exec (.scanStart t) s = .next silent
    ∧ (∀ slot, exec (.slotPoll t slot) s = .next silent)
    ∧ ∀ chars, s.sbm.window = none → exec (.nodeReply t chars) s = .next (s.at t).closeEvent

/-- Every step keeps the shape: in CONFIG nothing is in service; outside it the configuration has passed every
check, the derived tables are those of the records, and every block holds one record for each unit in service
(R1, R9, R16, R155). -/
def Obligations.EveryStepKeepsTheShape : Prop :=
  ∀ s u : State, s.shaped → step s = .next u → u.shaped

/-- Every step keeps the ranges: R at most Cap, the carry below 1000, at most W_max lifts in H, the pass-over
count at most M, and at most 32 events (R97, R101, R103, R125, R184). -/
def Obligations.EveryStepKeepsTheRanges : Prop :=
  ∀ s u : State, s.shaped → s.within → step s = .next u → u.within

/-! ## The line requests -/

/-- START in IDLE sets the mode it carries, enters RUN and takes every segment out of OFF (R147, R94); STOP in
RUN enters STOPPING, or IDLE exactly when the line is settled, and no segment stays QUEUED (R148, R149); MODE in RUN
sets the mode and leaves everything but the flow of segments alone, and the present mode changes nothing
(R150). A mode of any other value is answered ARG with field 1 (log entry 6), and any of the three is answered
STATE in another line state (R146). STOPPING ends exactly when every segment and station is settled: the end of an event
takes the notices, and a settled line enters IDLE with LINE_STATE (IDLE, SETTLED), its segments in WORK or READY going
to OFF (R48, R94, R149); that this comes after every other effect of the event is the model's reading, not the spec's
words (log entry 12). So no command leaves a settled line in STOPPING, and one that ends STOPPING leaves a settled line
at rest with that record last. -/
def Obligations.StartStopAndModeChangeTheLine : Prop :=
  (∀ (t : LineTime) (tag code : Byte) (s : State), s.linkReady →
    let x := s.taking t
    (s.lsv.lineState = .idle → ∀ m, Mode.ofCode code.toNat = some m →
      ∃ u : State, exec (.start t tag code) s = .next (u.replied 0x20 tag (.ok []))
        ∧ u.lsv.lineState = .run ∧ u.lsv.mode = m
        ∧ (∀ k ∈ s.segNumbers, (s.seg k).state = .off → (u.seg k).state ≠ .off)
        ∧ ({ x with lsv := { x.lsv with lineState := .run, mode := m } } : State).worksTo u)
    ∧ (s.lsv.lineState = .run →
      ∃ u : State, exec (.stop t tag) s = .next (u.replied 0x22 tag (.ok []))
        ∧ (u.lsv.lineState = .stopping ∨ u.lsv.lineState = .idle)
        ∧ (u.lsv.lineState = .idle ↔ u.lineSettled)
        ∧ (∀ k ∈ s.segNumbers, (u.seg k).state ≠ .queued)
        ∧ ({ x with lsv := { x.lsv with lineState := .stopping } } : State).worksTo u)
    ∧ (s.lsv.lineState = .run → ∀ m, Mode.ofCode code.toNat = some m →
      (s.lsv.mode = m → exec (.mode t tag code) s = .next (x.takeNotices.replied 0x21 tag (.ok [])))
      ∧ (s.lsv.mode ≠ m → ∃ u : State, exec (.mode t tag code) s = .next (u.replied 0x21 tag (.ok []))
        ∧ u.lsv.mode = m ∧ ({ x with lsv := { x.lsv with mode := m } } : State).flowsTo u))
    ∧ (Mode.ofCode code.toNat = none →
      (s.lsv.lineState = .idle → exec (.start t tag code) s = .next (x.replied 0x20 tag (.arg 1)))
      ∧ (s.lsv.lineState = .run → exec (.mode t tag code) s = .next (x.replied 0x21 tag (.arg 1))))
    ∧ (s.lsv.lineState ≠ .idle → exec (.start t tag code) s = .next (x.replied 0x20 tag .state))
    ∧ (s.lsv.lineState ≠ .run → exec (.stop t tag) s = .next (x.replied 0x22 tag .state)
      ∧ exec (.mode t tag code) s = .next (x.replied 0x21 tag .state)))
  ∧ (∀ s : State,
    (s.lsv.lineState = .config → s.closeEvent = s)
    ∧ (s.lsv.lineState ≠ .config → (s.lsv.lineState = .stopping → ¬ s.lineSettled) →
      s.closeEvent = s.takeNotices ∧ s.closeEvent.lsv.lineState = s.lsv.lineState)
    ∧ (s.lsv.lineState = .stopping → s.lineSettled →
      s.closeEvent = { s with
        lsv := { s.lsv with lineState := .idle, segSettled := s.sc.map fun p => (p.1, true),
                            stationsSettled := some true },
        clp := s.clp.postEvent
          { kind := .lineState, time := s.clock, subject := { kind := .line, number := 0 }, pallet := none,
            detail := .lineState .idle .settled },
        sc := s.sc.map fun p =>
          (p.1, if p.2.state = .work ∨ p.2.state = .ready then { p.2 with state := .off } else p.2) }))
  ∧ (∀ (c : Instr) (s u : State), (s.lsv.lineState = .stopping → ¬ s.lineSettled) →
    exec c s = .next u → u.lsv.lineState = .stopping → ¬ u.lineSettled)
  ∧ ∀ (c : Instr) (s u : State), s.linkReady → carriesFrames c = false →
    s.lsv.lineState = .run ∨ s.lsv.lineState = .stopping → exec c s = .next u → u.lsv.lineState = .idle →
    u.lineSettled ∧ (∀ p ∈ u.sc, p.2.state = .off ∨ p.2.state = .fault)
      ∧ u.clp.events.getLast? = some
        { kind := .lineState, time := u.clock, subject := { kind := .line, number := 0 }, pallet := none,
          detail := .lineState .idle .settled }

/-- STEP GRANT sets the permit of every segment its mask names, and its reply tells whether one was set
already (R93). HOLD sets their held flags, and starts a feed hold where a motion is in hand or being resumed:
the hold status becomes HOLDING, an owed RESUME is dropped (log entry 18), and, each role having its own address,
FEEDHOLD is pending at the drive;
CONTINUE clears the flags, resumes a held motion and wants a resume of one that is still being held (R83, R84).
Other segments keep their permits and held flags. A mask is refused when a bit above bit 3 is set, when it names no
segment, or one above NSEG, and is then answered ARG. -/
def Obligations.PermitsAndHoldsFollowTheMask : Prop :=
  ∀ (t : LineTime) (tag mask : Byte) (s : State), s.linkReady →
    let x := s.taking t
    (maskRefused s.nseg mask = true ↔ 16 ≤ mask.toNat ∨ mask = 0
      ∨ ∃ k, 1 ≤ k ∧ k ≤ 4 ∧ mask.getLsbD (k - 1) = true ∧ s.nseg < k)
    ∧ (∀ k, k ∈ maskSegments mask ↔ 1 ≤ k ∧ k ≤ 4 ∧ mask.getLsbD (k - 1) = true)
    ∧ (maskRefused s.nseg mask = true →
      let arg : Answer := .arg (if 16 ≤ mask.toNat then 1 else 0)
      (s.lsv.lineState = .run → exec (.stepGrant t tag mask) s = .next (x.replied 0x25 tag arg))
      ∧ (s.lsv.lineState = .run ∨ s.lsv.lineState = .stopping →
        exec (.hold t tag mask) s = .next (x.replied 0x26 tag arg)
        ∧ exec (.continueRun t tag mask) s = .next (x.replied 0x27 tag arg)))
    ∧ (maskRefused s.nseg mask = false →
      (s.lsv.lineState = .run →
        ∃ u : State, exec (.stepGrant t tag mask) s = .next (u.replied 0x25 tag
            (.ok [flagByte ((maskSegments mask).any fun k => s.permit k)]))
          ∧ (∀ k ∈ maskSegments mask, k ∈ s.lsv.permits.map (·.1) → u.permit k = true)
          ∧ (∀ k, k ∉ maskSegments mask → u.permit k = s.permit k)
          ∧ ({ x with lsv := { x.lsv with permits := u.lsv.permits } } : State).flowsTo u)
      ∧ (s.lsv.lineState = .run ∨ s.lsv.lineState = .stopping →
        (∃ u : State, exec (.hold t tag mask) s = .next (u.replied 0x26 tag (.ok []))
          ∧ (∀ k ∈ maskSegments mask, k ∈ s.segNumbers → (u.seg k).held = true
            ∧ ((s.seg k).state.inMotion = true ∧ (s.seg k).hold = .none ∨ (s.seg k).hold = .resuming →
              (u.seg k).hold = .holding
              ∧ ((s.seg k).hold = .resuming → (u.seg k).owed.resume = false)
              ∧ (s.shaped → (s.node (s.segCfg k).nodeDrive).isSome = true →
                u.drivePending k = some .feedhold)))
          ∧ (∀ k, k ∉ maskSegments mask → (u.seg k).held = (s.seg k).held)
          ∧ x.flowsTo u)
        ∧ (∃ u : State, exec (.continueRun t tag mask) s = .next (u.replied 0x27 tag (.ok []))
          ∧ (∀ k ∈ maskSegments mask, k ∈ s.segNumbers → (u.seg k).held = false
            ∧ ((s.seg k).hold = .held → (u.seg k).hold = .resuming)
            ∧ ((s.seg k).hold = .holding → (u.seg k).resumeWanted = true))
          ∧ (∀ k, k ∉ maskSegments mask → (u.seg k).held = (s.seg k).held)
          ∧ x.worksTo u)))
    ∧ (s.lsv.lineState ≠ .run →
      exec (.stepGrant t tag mask) s = .next (x.replied 0x25 tag .state))
    ∧ (s.lsv.lineState ≠ .run → s.lsv.lineState ≠ .stopping →
      exec (.hold t tag mask) s = .next (x.replied 0x26 tag .state)
      ∧ exec (.continueRun t tag mask) s = .next (x.replied 0x27 tag .state))

/-- RECOVER in HALT with the ESTOP image RELEASED enters IDLE: a station in FAULT with cause ESTOP whose node
is ONLINE or MISSING, with nothing pending and last reporting UNCLAMPED or LOCKOUT, becomes RELEASED or LOCKOUT,
every other station record stays as it is, and every IN_TRANSIT entry gets the instant as its entry time. With
the image ASSERTED it is answered INTERLOCK, and in another line state STATE (R154, R69, R128). -/
def Obligations.RecoverReturnsTheLineToIdle : Prop :=
  ∀ (t : LineTime) (tag : Byte) (s : State), s.linkReady →
    (s.lsv.lineState = .halt → s.lsv.estop = false →
      ∃ u : State, exec (.recover t tag) s = .next (u.replied 0x24 tag (.ok []))
        ∧ u.lsv.lineState = .idle
        ∧ (∀ n ∈ s.stationNumbers,
          let st := s.station n
          if st.state = .fault ∧ st.cause = some .estop ∧ (st.node = .online ∨ st.node = .missing)
              ∧ s.stationPending n = none ∧ st.reportsUnclamped = true then
            u.station n = st.idleIn .released
          else if st.state = .fault ∧ st.cause = some .estop ∧ (st.node = .online ∨ st.node = .missing)
              ∧ s.stationPending n = none ∧ st.reportsLockout = true then
            u.station n = st.idleIn .lockout
          else u.station n = st)
        ∧ u.trk.lists = s.trk.lists.map (fun p => (p.1, restampInTransit t p.2))
        ∧ ({ s.taking t with lsv := { s.lsv with lineState := .idle } } : State).worksTo u)
    ∧ (s.lsv.lineState = .halt → s.lsv.estop = true →
      exec (.recover t tag) s = .next ((s.taking t).replied 0x24 tag .interlock))
    ∧ (s.lsv.lineState ≠ .halt →
      exec (.recover t tag) s = .next ((s.taking t).replied 0x24 tag .state))

/-- RESTART is accepted in CONFIG, IDLE and HALT: it is answered OK, no further frame is taken, and nothing
else changes until its reply has gone; in RUN and STOPPING it is answered STATE (R156). -/
def Obligations.RestartStopsTheTakingOfFrames : Prop :=
  ∀ (t : LineTime) (tag : Byte) (s : State), s.linkReady →
    let x := s.taking t
    (s.lsv.lineState = .config ∨ s.lsv.lineState = .idle ∨ s.lsv.lineState = .halt →
      exec (.restart t tag) s =
        .next (({ x with clp := { x.clp with restarting := true } } : State).replied 0x28 tag (.ok [])))
    ∧ (s.lsv.lineState = .run ∨ s.lsv.lineState = .stopping →
      exec (.restart t tag) s = .next (x.replied 0x28 tag .state))

/-! ## Stations, segments and conveyors -/

/-- BYPASS ON makes a RELEASED MACHINE station, or one in FAULT that reports UNCLAMPED with nothing pending,
SKIPPED with nothing in hand; one SKIPPED already is answered OK, and a LOAD or UNLOAD station STATE. BYPASS OFF
makes a SKIPPED station whose segment is not moving and whose node answers, with nothing pending, RELEASED
or LOCKOUT by its last report. Beyond the station only the flow of segments follows (R64, R65, R48); the codes of
the setting are log entry 7. -/
def Obligations.BypassSkipsAndRestoresAStation : Prop :=
  ∀ (t : LineTime) (tag b : Byte) (s : State) (r : StationRecord) (st : Station), s.linkReady →
    s.lsv.lineState = .idle ∨ s.lsv.lineState = .run → 1 ≤ b.toNat → b.toNat ≤ 32 →
    s.stationCfg b.toNat = some r → tableGet b.toNat s.sqs.stations = some st →
    let x := s.taking t
    let toState := fun (target : StationState) => x.modStation b.toNat fun st =>
      { st with state := target, job := none, outcomeGiven := false, startTime := none, timer := none,
                cause := none, clearPending := false }
    (r.kind = .machine →
      (st.state = .released ∨ (st.state = .fault ∧ st.reportsUnclamped = true
          ∧ s.stationPending b.toNat = none) →
        exec (.bypassOn t tag b) s =
          .next ((((toState .skipped).sqsAfter r.segment).closeEvent).replied 0x30 tag (.ok []))
        ∧ (toState .skipped).flowsTo ((toState .skipped).sqsAfter r.segment).closeEvent)
      ∧ (st.state = .skipped → exec (.bypassOn t tag b) s = .next (x.replied 0x30 tag (.ok []))))
    ∧ (r.kind ≠ .machine → exec (.bypassOn t tag b) s = .next (x.replied 0x30 tag .state))
    ∧ (st.state = .skipped → (s.seg r.segment).state.inMotion = false →
      st.node ≠ .lost → st.node ≠ .unseen → s.stationPending b.toNat = none →
      (st.reportsUnclamped = true →
        exec (.bypassOff t tag b) s =
          .next ((((toState .released).sqsAfter r.segment).closeEvent).replied 0x30 tag (.ok []))
        ∧ (toState .released).flowsTo ((toState .released).sqsAfter r.segment).closeEvent)
      ∧ (st.reportsLockout = true →
        exec (.bypassOff t tag b) s =
          .next ((((toState .lockout).sqsAfter r.segment).closeEvent).replied 0x30 tag (.ok []))
        ∧ (toState .lockout).flowsTo ((toState .lockout).sqsAfter r.segment).closeEvent))
    ∧ (st.state = .released → exec (.bypassOff t tag b) s = .next (x.replied 0x30 tag (.ok [])))

/-- ABORT CYCLE in RUN of a station that has a job whose outcome is still to give: RETRACT is pending at its
node, its timer stops and it unclamps. A job in CYCLE ends in an ABORTED defect with the time since START; one in
CLAMPING or CLAMPED is missed, at a MACHINE station (R62, R47, R168). Any other state is answered STATE. -/
def Obligations.AbortCycleEndsTheJob : Prop :=
  ∀ (t : LineTime) (tag b : Byte) (s : State) (r : StationRecord) (st : Station), s.linkReady →
    s.lsv.lineState = .run → 1 ≤ b.toNat → b.toNat ≤ 32 →
    s.stationCfg b.toNat = some r → tableGet b.toNat s.sqs.stations = some st →
    let x := s.taking t
    let unclamps := fun (y : State) => (y.replaceCmd r.node .retract).modStation b.toNat fun st =>
      { st with outcomeGiven := true, state := .unclamping, timer := none }
    (∀ j, st.job = some j → st.outcomeGiven = false →
      (st.state = .cycle →
        let y := unclamps (x.trkDefect b.toNat j.pallet .aborted
          (match st.startTime with | some start => (t - start).toNat | none => 0))
        exec (.abortCycle t tag b) s =
          .next (((y.sqsAfter r.segment).closeEvent).replied 0x31 tag (.ok []))
        ∧ y.flowsTo (y.sqsAfter r.segment).closeEvent)
      ∧ (st.state = .clamping ∨ st.state = .clamped →
        let y := unclamps (if j.kind = .machine then x.trkOpMissed b.toNat j.pallet else x)
        exec (.abortCycle t tag b) s =
          .next (((y.sqsAfter r.segment).closeEvent).replied 0x31 tag (.ok []))
        ∧ y.flowsTo (y.sqsAfter r.segment).closeEvent))
    ∧ (st.state ≠ .clamping → st.state ≠ .clamped → st.state ≠ .cycle →
      exec (.abortCycle t tag b) s = .next (x.replied 0x31 tag .state))

/-- CLEAR FAULT of a station in FAULT, its node answering with nothing pending, follows its last report:
UNCLAMPED gives RELEASED, LOCKOUT gives LOCKOUT; with the segment at rest CLAMPED and CYCLE_DONE post UNCLAMP and
unclamp under the station's own timer, and FAULT posts RESET_FAULT and marks the clear pending. CYCLING is
answered INTERLOCK, and a station not in FAULT STATE (R66). -/
def Obligations.ClearFaultOfAStationFollowsItsReport : Prop :=
  ∀ (t : LineTime) (tag b : Byte) (s : State) (r : StationRecord) (st : Station), s.linkReady →
    s.lsv.lineState = .idle ∨ s.lsv.lineState = .run → 1 ≤ b.toNat → b.toNat ≤ 32 →
    s.stationCfg b.toNat = some r → tableGet b.toNat s.sqs.stations = some st →
    let x := s.taking t
    let clearedTo := fun (target : StationState) => x.modStation b.toNat fun st => st.idleIn target
    let unclamping := (x.postCmd r.node .unclamp []).modStation b.toNat fun st =>
      { st with state := .unclamping, cause := none, clearPending := false,
                timer := some { purpose := .unclamp, timer := { start := t, limit := r.tUnclampMax } } }
    let resetting := (x.postCmd r.node .resetFault []).modStation b.toNat fun st =>
      { st with clearPending := true,
                timer := some { purpose := .clear, timer := { start := t, limit := r.tUnclampMax } } }
    (st.state = .fault → st.clearPending = false → st.node ≠ .lost → st.node ≠ .unseen →
      s.stationPending b.toNat = none → ∀ rep code, st.report = some (rep, code) →
      (rep = .unclamped →
        exec (.clearFaultStation t tag b) s =
          .next ((((clearedTo .released).sqsAfter r.segment).closeEvent).replied 0x32 tag (.ok []))
        ∧ (clearedTo .released).flowsTo ((clearedTo .released).sqsAfter r.segment).closeEvent)
      ∧ (rep = .lockout →
        exec (.clearFaultStation t tag b) s =
          .next ((((clearedTo .lockout).sqsAfter r.segment).closeEvent).replied 0x32 tag (.ok []))
        ∧ (clearedTo .lockout).flowsTo ((clearedTo .lockout).sqsAfter r.segment).closeEvent)
      ∧ ((s.seg r.segment).state.inMotion = false → rep = .clamped ∨ rep = .cycleDone →
        exec (.clearFaultStation t tag b) s =
          .next (((unclamping.sqsAfter r.segment).closeEvent).replied 0x32 tag (.ok []))
        ∧ unclamping.flowsTo (unclamping.sqsAfter r.segment).closeEvent)
      ∧ ((s.seg r.segment).state.inMotion = false → rep = .fault →
        exec (.clearFaultStation t tag b) s =
          .next (resetting.takeNotices.replied 0x32 tag (.ok [])))
      ∧ (rep = .cycling → exec (.clearFaultStation t tag b) s = .next (x.replied 0x32 tag .interlock)))
    ∧ (st.state ≠ .fault → exec (.clearFaultStation t tag b) s = .next (x.replied 0x32 tag .state))

/-- CLEAR FAULT of a CERTAIN segment in FAULT, its drive answering with nothing pending, posts RESET_FAULT and
starts the clear timer of T_return_max; one that is not CERTAIN, whose drive is LOST or UNSEEN, or that has a command
pending is answered INTERLOCK (R91). CLEAR FAULT of a JAMMED conveyor whose node answers without its jam flag and
with a head that agrees makes it FLOWING, gives its IN_TRANSIT entries the instant as entry time with the travel
timer set from it, and makes a grant pass; LOST, UNSEEN, a jam flag and a head that disagrees are answered INTERLOCK,
and a FLOWING conveyor STATE (R124). A grant pass over a buffer or VS serves the requests in their order while
there is room (R116); on RC the LINE request goes before the SPUR one until it has passed it over M times, and
alone leaves the count as it is (R125, R126). A grant adds the reservation and takes the request away, and SPUR's
posts RELEASE (R127). In a sound map the segment whose waiting request is granted holds the new reservation, HELD, or
CARRIED where the evaluation that follows admits it. -/
def Obligations.ClearFaultOfSegmentsAndConveyors : Prop :=
  (∀ (t : LineTime) (tag b : Byte) (s : State), s.linkReady →
    s.lsv.lineState = .idle ∨ s.lsv.lineState = .run →
    let x := s.taking t
    let k := b.toNat
    (1 ≤ k → k ≤ 4 → k ≤ s.nseg → (s.seg k).state = .fault → (s.seg k).clear = none →
      ((s.seg k).node ≠ .lost → (s.seg k).node ≠ .unseen → s.drivePending k = none →
        (s.certain k = true →
          exec (.clearFaultSegment t tag b) s =
            .next ((((x.postCmd (s.segCfg k).nodeDrive .resetFault []).modSeg k fun g =>
              { g with clear := some { start := t, limit := (s.segCfg k).tReturnMax } }).takeNotices).replied
              0x32 tag (.ok [])))
        ∧ (s.certain k = false →
          exec (.clearFaultSegment t tag b) s = .next (x.replied 0x32 tag .interlock)))
      ∧ ((s.seg k).node = .lost ∨ (s.seg k).node = .unseen ∨ s.drivePending k ≠ none
          ∨ s.certain k = false →
        exec (.clearFaultSegment t tag b) s = .next (x.replied 0x32 tag .interlock)))
    ∧ (∀ c, ConvId.ofNumber k = some c → c ∈ convsInService s.nseg →
      ((s.conv c).state = .jammed → (s.conv c).node ≠ .lost → (s.conv c).node ≠ .unseen →
        ∀ count head, (s.conv c).report = some (count, false, head) →
        headAgrees head (s.list c) = true →
        let l := restampInTransit t (s.list c)
        let y := (x.setList c l).modConv c fun v =>
          { v with state := .flowing, cause := none,
                   travel := (oldestInTransit l).map fun _ =>
                     { start := t, limit := s.cfg.line.travel c } }
        let u := (y.grantPass c).closeEvent
        exec (.clearFaultConveyor t tag b) s = .next (u.replied 0x32 tag (.ok []))
          ∧ u.trk.lists = tableModify c (fun _ => l) s.trk.lists
          ∧ (u.conv c).state = .flowing ∧ (u.conv c).cause = none
          ∧ x.worksTo u)
      ∧ ((s.conv c).state = .jammed → ((s.conv c).node = .lost ∨ (s.conv c).node = .unseen
          ∨ (s.conv c).report = none
          ∨ ∃ count jam head, (s.conv c).report = some (count, jam, head)
            ∧ (jam = true ∨ headAgrees head (s.list c) = false)) →
        exec (.clearFaultConveyor t tag b) s = .next (x.replied 0x32 tag .interlock))
      ∧ ((s.conv c).state = .flowing →
        exec (.clearFaultConveyor t tag b) s = .next (x.replied 0x32 tag .state))))
  ∧ (∀ l head, headAgrees head l = true ↔
      (head = true ∧ ∃ e rest, l = e :: rest ∧ e.state = .arrived)
      ∨ (head = false ∧ ∀ e rest, l = e :: rest → e.state = .inTransit))
  ∧ (∀ (s : State) (c : ConvId), s.roomOpen c = true ↔ (s.conv c).state = .flowing
      ∧ (s.list c).length + (s.conv c).reservations.length < s.cfg.line.capacity c)
  ∧ (∀ (s : State) (c : ConvId), (s.roomOpen c = false ∨ (s.conv c).requests = []) → s.grantPass c = s)
  ∧ (∀ (s : State) (c : ConvId) (k : Nat) (rest : List Holder), c ≠ .rc → s.roomOpen c = true →
      (s.conv c).requests = .segment k :: rest →
      s.grantPass c = (s.grantSegment c k).grantPass c)
  ∧ (∀ s : State, s.roomOpen .rc = true →
      let waits : Prop := .spur ∈ (s.conv .rc).requests
        ∧ (s.lsv.lineState = .run ∨ s.lsv.lineState = .stopping) ∧ s.cvt.staleRelease = false
      let count := fun (n : Nat) => ({ s with cvt := { s.cvt with passOver := n } } : State)
      (∀ k, lineRequest (s.conv .rc).requests = some k →
        (waits → s.cvt.passOver < s.cfg.line.m →
          s.grantPass .rc = ((count (s.cvt.passOver + 1)).grantSegment .rc k).grantPass .rc)
        ∧ (waits → s.cfg.line.m ≤ s.cvt.passOver →
          s.grantPass .rc = ((count 0).grantSpur).grantPass .rc)
        ∧ (¬ waits → s.grantPass .rc = (s.grantSegment .rc k).grantPass .rc))
      ∧ (lineRequest (s.conv .rc).requests = none →
        (waits → s.grantPass .rc = ((count 0).grantSpur).grantPass .rc)
        ∧ (¬ waits → s.grantPass .rc = s)))
  ∧ (∀ (s : State) (c : ConvId) (k : Nat), s.MapSound → .segment k ∈ (s.conv c).requests →
      c ∈ s.cvt.convs.map (·.1) → k ∈ s.segNumbers →
      let u := s.grantSegment c k
      (u.conv c).reservations =
          (s.conv c).reservations ++ [{ holder := .segment k, status := .held }]
        ∨ (u.conv c).reservations =
          carryReservation k ((s.conv c).reservations ++ [{ holder := .segment k, status := .held }]))
  ∧ ∀ s : State, s.grantSpur = (s.modConv .rc fun v =>
      { v with reservations := v.reservations ++ [{ holder := .spur, status := .releasing }],
               requests := v.requests.erase .spur }).postCmd s.cfg.line.nodeVs .release []

/-! ## Pallets and the map -/

/-- R32: PALLET DEFINE and PALLET DELETE with their checks in order, the new record, and the removal of an
UNPLACED one with its workpiece; nothing else changes. An ID outside 1..250 is answered ARG at PALLET DELETE too
(02 section 2.7), with field number 0 (R179). -/
def Obligations.PalletRecordsAreDefinedAndDeleted : Prop :=
  ∀ (t : LineTime) (tag id v : Byte) (s : State), s.linkReady →
    let x := s.taking t
    let inRange := 1 ≤ id.toNat ∧ id.toNat ≤ 250
    let new := fun (variant : Variant) =>
      ({ variant := variant, service := .inService, placement := none, laps := 0, indexCount := 0,
         overdue := false, workpiece := none } : Pallet)
    ((¬ inRange ∨ 4 ≤ v.toNat) →
      ∃ no, exec (.palletDefine t tag id v) s = .next (x.replied 0x40 tag (.arg no)))
    ∧ (inRange → ∀ variant, Variant.ofCode v.toNat = some variant →
      (∀ p, s.pallet id.toNat = some p →
        exec (.palletDefine t tag id v) s = .next (x.replied 0x40 tag .occupied))
      ∧ (s.pallet id.toNat = none →
        (80 ≤ s.trk.pallets.length →
          exec (.palletDefine t tag id v) s = .next (x.replied 0x40 tag .full))
        ∧ (s.trk.pallets.length < 80 →
          exec (.palletDefine t tag id v) s =
            .next (({ x with trk := { s.trk with
                pallets := tableInsert id.toNat (new variant) s.trk.pallets } } : State).replied
              0x40 tag (.ok [])))))
    ∧ (¬ inRange → exec (.palletDelete t tag id) s = .next (x.replied 0x41 tag (.arg 0)))
    ∧ (inRange →
      (s.pallet id.toNat = none →
        exec (.palletDelete t tag id) s = .next (x.replied 0x41 tag .notFound))
      ∧ ∀ p, s.pallet id.toNat = some p →
        (∀ position, p.placement = some position →
          exec (.palletDelete t tag id) s = .next (x.replied 0x41 tag .state))
        ∧ (p.placement = none →
          exec (.palletDelete t tag id) s =
            .next (({ x with trk := { s.trk with pallets := tableErase id.toNat s.trk.pallets } } : State).replied
              0x41 tag (.ok []))))

/-- An accepted PLACE puts the pallet in the nest named, or at the tail of the conveyor named: IN_TRANSIT while
an entry of the list is, and otherwise ARRIVED. Every placement follows, the reply gives the pallet's, a HELD tag
check is marked edited, and only the flow of segments, or for a conveyor the work of its consumers, follows
(R29, R33, R35, R41). An occupied nest and a placed pallet are answered OCCUPIED, a full conveyor FULL. -/
def Obligations.PlacePutsThePalletWhereItIsNamed : Prop :=
  ∀ (t : LineTime) (tag id position : Byte) (s : State) (p : Pallet), s.linkReady →
    s.lsv.lineState = .idle ∨ s.lsv.lineState = .halt ∨ s.lsv.lineState = .run →
    1 ≤ id.toNat → id.toNat ≤ 250 → position.toNat < s.loopCount → s.pallet id.toNat = some p →
    let x := s.taking t
    let reply := fun (u : State) =>
      Answer.ok [positionByte ((u.pallet id.toNat).bind (·.placement))]
    let edited : TagCheck := match s.trk.tag with
      | .held o v _ => .held o v true
      | other => other
    ((∃ place, p.placement = some place) →
      exec (.place t tag id position) s = .next (x.replied 0x43 tag .occupied))
    ∧ (p.placement = none → ∀ k j, s.placeAt position.toNat = some (.nest k j) →
      ((∃ other, s.occupant k j = some other) →
        exec (.place t tag id position) s = .next (x.replied 0x43 tag .occupied))
      ∧ (s.occupant k j = none → s.certain k = true → s.nestStationFree k j = true →
        s.tagBlocks k j = false → s.runAllows (.nest k j) = true →
        let y := (x.modSegMap k fun m =>
          { m with nests := m.nests.set (j - 1) (some id.toNat) }).syncPlacements
        let u := ((y.scTest k).markEdited).closeEvent
        exec (.place t tag id position) s = .next (u.replied 0x43 tag (reply u))
          ∧ u.trk.tag = edited
          ∧ y.markEdited.flowsTo u))
    ∧ (p.placement = none → ∀ c i, s.placeAt position.toNat = some (.entry c i) →
      (s.cfg.line.capacity c ≤ (s.list c).length + (s.conv c).reservations.length →
        exec (.place t tag id position) s = .next (x.replied 0x43 tag .full))
      ∧ ((s.list c).length + (s.conv c).reservations.length < s.cfg.line.capacity c →
        s.runAllows (.entry c i) = true →
        let e : Entry := { pallet := id.toNat,
                           state := if (oldestInTransit (s.list c)).isSome then .inTransit else .arrived,
                           entryTime := t }
        let y := (x.setList c (s.list c ++ [e])).syncPlacements
        ∃ u : State, exec (.place t tag id position) s = .next (u.replied 0x43 tag (reply u))
          ∧ u.trk.lists = y.trk.lists ∧ u.trk.pallets.map (fun q => (q.1, q.2.placement))
              = y.trk.pallets.map (fun q => (q.1, q.2.placement))
          ∧ u.trk.tag = edited
          ∧ ((oldestInTransit (s.list c)).isSome = true →
            u = (((y.expectMore c).markEdited).closeEvent))
          ∧ ((oldestInTransit (s.list c)).isSome = false →
            u = (((if s.list c = [] then y.headNotice c else y).markEdited).closeEvent))
          ∧ y.worksTo u))

/-- An accepted REMOVE empties the pallet's nest, or takes its entry out of its list in order, and every
placement follows (R31). A segment QUEUED with the pallet as its exit pallet or its entry pallet withdraws to READY
and is tested again; then the segment of the nest is tested, or the check of a VS pallet is abandoned, the travel
timer is set afresh, a grant pass made and the consumer of a departed head told; a HELD tag check is marked edited
(R34, R35, R41, R79, R115, R120, R144). The order of these effects is the model's choice (log entry 40). A pallet that is not placed is answered STATE, one that the conditions of
R34 keep INTERLOCK, and one without a record NOTFOUND. -/
def Obligations.RemoveTakesThePalletFromItsPlace : Prop :=
  (∀ (t : LineTime) (tag id : Byte) (s : State) (p : Pallet), s.linkReady →
    s.lsv.lineState = .idle ∨ s.lsv.lineState = .halt ∨ s.lsv.lineState = .run →
    1 ≤ id.toNat → id.toNat ≤ 250 → s.pallet id.toNat = some p →
    let x := s.taking t
    let withdrawn := fun (y : State) => (s.countingOn id.toNat).foldl
      (fun z j => (z.scWithdraw j .ready true).scTest j) y
    let edited : TagCheck := match s.trk.tag with
      | .held o v _ => .held o v true
      | other => other
    (s.findPallet id.toNat = none →
      exec (.remove t tag id) s = .next (x.replied 0x44 tag .state))
    ∧ (∀ place, s.findPallet id.toNat = some place → s.removable id.toNat place = false →
      exec (.remove t tag id) s = .next (x.replied 0x44 tag .interlock))
    ∧ (∀ k j, s.findPallet id.toNat = some (.nest k j) → s.removable id.toNat (.nest k j) = true →
      let y := (x.modSegMap k fun m => { m with
        nests := m.nests.map fun o => if o = some id.toNat then none else o }).syncPlacements
      let u := (((withdrawn y).scTest k).markEdited).closeEvent
      exec (.remove t tag id) s = .next (u.replied 0x44 tag (.ok []))
        ∧ u.trk.tag = edited
        ∧ y.markEdited.flowsTo u)
    ∧ (∀ c i, s.findPallet id.toNat = some (.entry c i) → s.removable id.toNat (.entry c i) = true →
      let y := (x.setList c (removeEntry id.toNat (s.list c))).syncPlacements
      let y' := if ((s.list c)[i]?).map (·.state) = some .inTransit then
          y.modConv c fun v => { v with expected := v.expected - 1 }
        else y
      let z := if c = .vs then (withdrawn y').abandonCheck id.toNat else withdrawn y'
      let z' := (z.syncTravel ((oldestInTransit (s.list c)).map (·.pallet)) c).grantPass c
      let u := ((if i = 0 then z'.headNotice c else z').markEdited).closeEvent
      exec (.remove t tag id) s = .next (u.replied 0x44 tag (.ok []))
        ∧ u.trk.lists = y.trk.lists ∧ u.trk.pallets.map (fun q => (q.1, q.2.placement))
            = y.trk.pallets.map (fun q => (q.1, q.2.placement))
        ∧ u.trk.tag = edited
        ∧ y.worksTo u))
  ∧ (∀ (t : LineTime) (tag id : Byte) (s : State), s.linkReady →
    s.lsv.lineState = .idle ∨ s.lsv.lineState = .halt ∨ s.lsv.lineState = .run →
    1 ≤ id.toNat → id.toNat ≤ 250 → s.pallet id.toNat = none →
    exec (.remove t tag id) s = .next ((s.taking t).replied 0x44 tag .notFound))
  ∧ (∀ (s : State) (id k : Nat), k ∈ s.countingOn id ↔ k ∈ s.segNumbers ∧ (s.seg k).state = .queued
    ∧ (s.exitPallet k = some id
      ∨ (∃ q, (s.seg k).queued = some q ∧ q.entryTaken = true)
        ∧ s.arrivedHead (upstreamOf k) = some id))
  ∧ ∀ (s : State) (k : Nat), k ∈ s.segNumbers →
    let y := (s.modSeg k fun g => { g with state := .ready, queued := none, room := .none }).adaWithdraw k
    ((∀ c, (s.seg k).room ≠ .held c) → s.scWithdraw k .ready true = y)
    ∧ (∀ c, (s.seg k).room = .held c →
      s.scWithdraw k .ready true = (y.modConv c fun v =>
        { v with reservations := v.reservations.filter fun r => r.holder ≠ .segment k }).grantPass c)
    ∧ (∀ q ∈ y.ada.queue, q.segment ≠ k)

/-- An accepted ACCEPT TAG makes N1 of S1 hold the read value, EMPTY for 0, closes the check and clears the
track hold; with 0, or a pallet that is UNPLACED, the map changes nowhere else. A check that is not HELD is
answered STATE, and a read pallet without a record NOTFOUND (R42). -/
def Obligations.AcceptTagSeatsTheReadPallet : Prop :=
  ∀ (t : LineTime) (tag : Byte) (s : State), s.linkReady → s.InService →
    s.lsv.lineState = .idle ∨ s.lsv.lineState = .halt ∨ s.lsv.lineState = .run →
    let x := s.taking t
    ((∀ o value edited, s.trk.tag ≠ .held o value edited) →
      exec (.acceptTag t tag) s = .next (x.replied 0x45 tag .state))
    ∧ ∀ o value edited, s.trk.tag = .held o value edited →
      (value ≠ 0 → s.pallet value = none →
        exec (.acceptTag t tag) s = .next (x.replied 0x45 tag .notFound))
      ∧ ((value = 0 ∨ ∃ p, s.pallet value = some p) → s.readMovable value = true →
        s.certain 1 = true → s.nests 1 ≠ [] → 1 ≤ s.nseg →
        ∃ u : State, exec (.acceptTag t tag) s = .next (u.replied 0x45 tag (.ok []))
          ∧ u.trk.tag = .none ∧ (u.seg 1).trackHold = false
          ∧ u.occupant 1 1 = (if value = 0 then none else some value)
          ∧ (value = 0 ∨ s.findPallet value = none →
            u.nests 1 = (s.nests 1).set 0 (if value = 0 then none else some value)
            ∧ (∀ k, k ≠ 1 → u.nests k = s.nests k) ∧ u.trk.lists = s.trk.lists)
          ∧ x.worksTo u)

/-- CONFIRM SEGMENT of a segment in FAULT that is not CERTAIN settles its open index, which ends, and makes the
segment CERTAIN (R43). BEFORE changes nothing else in the map and releases the carried reservation; AFTER applies the
shift: every pallet one nest on, the entry pallet from the upstream head into N1, the exit pallet to the tail of its
destination, where the entry takes the reservation's place; LIST sets the nests named, and consumes the reservation
with the flag and releases it without (R27, R44, R45). The pallets that moved are counted, and the entry pallet of S1
gets a lap (R19). In a sound map, in which such a segment waits for no room and no admission, its open index stays
ended and it has no reservation on the destination. A segment that is CERTAIN or not in FAULT is answered STATE. -/
def Obligations.ConfirmSegmentSettlesTheOpenIndex : Prop :=
  ∀ (t : LineTime) (tag b flag : Byte) (occupants : List Byte) (s : State), s.linkReady →
    s.lsv.lineState = .idle ∨ s.lsv.lineState = .halt ∨ s.lsv.lineState = .run →
    1 ≤ b.toNat → b.toNat ≤ s.nseg → occupants.length ≤ 12 →
    let x := s.taking t
    let k := b.toNat
    let named := occupants.map fun o => if o = 0 then none else some o.toNat
    let settled := fun (u : State) (oi : OpenIndex) =>
      u.certain k = true ∧ (s.MapSound → (u.segMap k).openIndex = none
        ∧ ∀ c, oi.dest = some c → ∀ r ∈ (u.conv c).reservations, r.holder ≠ .segment k)
    let counted := fun (u : State) (moved : List Nat) (lap : Option Nat) =>
      ∀ id p, s.pallet id = some p → ∃ p', u.pallet id = some p'
        ∧ p'.indexCount = (if id ∈ moved then min 65535 (p.indexCount + moved.count id)
            else p.indexCount)
        ∧ p'.laps = (if k = 1 ∧ lap = some id then min 255 (p.laps + 1) else p.laps)
    ((s.seg k).state ≠ .fault ∨ s.certain k = true →
      exec (.confirmSegmentBefore t tag b) s = .next (x.replied 0x46 tag .state)
      ∧ exec (.confirmSegmentAfter t tag b) s = .next (x.replied 0x46 tag .state)
      ∧ exec (.confirmSegmentList t tag b flag occupants) s = .next (x.replied 0x46 tag .state))
    ∧ ((s.seg k).state = .fault → s.certain k = false → ∀ oi, (s.segMap k).openIndex = some oi →
      (∃ u : State, exec (.confirmSegmentBefore t tag b) s = .next (u.replied 0x46 tag (.ok []))
        ∧ settled u oi ∧ counted u [] none
        ∧ u.nests k = s.nests k ∧ u.certain k = true ∧ u.trk.lists = s.trk.lists
        ∧ ((x.modSegMap k fun m => { m with certainty := .certain }).modRtu fun r =>
            { r with note := if k = s.nseg then none else r.note }).flowsTo u)
      ∧ (∃ u : State, exec (.confirmSegmentAfter t tag b) s = .next (u.replied 0x46 tag (.ok []))
        ∧ settled u oi
        ∧ counted u ((oi.entry :: (s.nests k).dropLast).filterMap (fun o => o) ++ oi.exit.toList) oi.entry
        ∧ u.nests k = oi.entry :: (s.nests k).dropLast ∧ u.certain k = true
        ∧ (∀ j, j ≠ k → u.nests j = s.nests j)
        ∧ u.trk.lists = ((x.exitJoins k oi).entryLeaves k oi).trk.lists
        ∧ x.worksTo u)
      ∧ (flag.toNat ≤ 1 → s.listRefused k oi (flag.toNat = 1) named = false →
        let entry := if oi.entry.isSome ∧ oi.entry ∈ named then oi.entry else none
        ∃ u : State, exec (.confirmSegmentList t tag b flag occupants) s =
            .next (u.replied 0x46 tag (.ok []))
          ∧ settled u oi
          ∧ counted u (((named.zip (s.nests k)).filter fun q => q.1 ≠ q.2).filterMap (fun q => q.1)
              ++ (if flag = 1 then oi.exit.toList else [])) entry
          ∧ u.nests k = named ∧ u.certain k = true ∧ (∀ j, j ≠ k → u.nests j = s.nests j)
          ∧ u.trk.lists = ((if flag = 1 then x.exitJoins k oi else x).entryLeaves k
              { oi with entry := entry }).trk.lists
          ∧ x.worksTo u)
      ∧ (s.listRefused k oi (flag.toNat = 1) named = true → flag.toNat ≤ 1 →
        exec (.confirmSegmentList t tag b flag occupants) s = .next (x.replied 0x46 tag (.arg 0))))

/-! ## The reserve and the reads -/

/-- The reserve as the host and the HPU declare it. R100: RESERVE SET in CONFIG is answered STATE, and while the alarm
is ON INTERLOCK; otherwise R becomes the volume, or Cap above it, the carry 0 and t_last the request's time, with
pump and alarm as they stand. The reply carries R, and the queue is evaluated; only the flow of segments follows.
R98: an HPU's good reply updates the Reserve Model and takes its pump flag; an alarm that turns ON empties the
reserve and posts ADMISSION_BLOCKED with ALARM, a change of the alarm reported posts HPU_ALARM, and the queue is
evaluated. R99: a lost HPU updates the model with the pump off, and turns the alarm ON with HPU_LOST. -/
def Obligations.ReserveSetDeclaresTheReserve : Prop :=
  (∀ (t : LineTime) (tag : Byte) (volume : BitVec 16) (s : State), s.linkReady →
    let x := s.taking t
    let r := min volume.toNat s.cfg.line.cap
    let y : State := { x with ada := { s.ada with r := r, c := 0, tLast := t } }
    (s.lsv.lineState = .config →
      exec (.reserveSet t tag volume) s = .next (x.replied 0x50 tag .state))
    ∧ (s.lsv.lineState ≠ .config → s.ada.alarm = true →
      exec (.reserveSet t tag volume) s = .next (x.replied 0x50 tag .interlock))
    ∧ (s.lsv.lineState ≠ .config → s.ada.alarm = false →
      exec (.reserveSet t tag volume) s =
        .next (((y.adaEvaluate).closeEvent).replied 0x50 tag (.ok (beBytes 2 r)))
      ∧ y.flowsTo (y.adaEvaluate).closeEvent))
  ∧ (∀ (t : LineTime) (chars : List BusChar) (a : Nat) (nd : Node) (e : Echo) (pump alarm : Bool) (s : State),
    s.hears chars a nd e (.hpu pump alarm) → nd.role = .hpu →
    exec (.nodeReply t chars) s = .next ((s.beforeReport t a nd e (.hpu pump alarm)).hpuReport pump alarm).closeEvent)
  ∧ ∀ (s : State) (pump alarm : Bool),
    let now := s.ada.update s.cfg.line s.clock
    let blocked := fun (c : Clp) (cause : BlockedCause) => c.postEvent
      { kind := .admissionBlocked, time := s.clock, subject := { kind := .hpu, number := 0 }, pallet := none,
        detail := .blocked cause }
    let turned := alarm = true ∧ s.ada.alarm = false
    let c1 := if turned then blocked s.clp .alarm else s.clp
    let c2 := if alarm = s.ada.reportedAlarm then c1 else c1.postEvent
      { kind := .hpuAlarm, time := s.clock, subject := { kind := .hpu, number := 0 }, pallet := none,
        detail := .alarm alarm }
    s.ownerReport .hpu (.hpu pump alarm) = ({ s with
      ada := { now with hpu := .online, pump := pump, alarm := alarm, reportedAlarm := alarm,
                        r := if turned then 0 else now.r, c := if turned then 0 else now.c },
      clp := c2 } : State).adaEvaluate
    ∧ s.ownerLost .hpu = ({ s with
      ada := { now with hpu := .lost, pump := false, alarm := true,
                        r := if s.ada.alarm then now.r else 0, c := if s.ada.alarm then now.c else 0 },
      clp := if s.ada.alarm then s.clp else blocked s.clp .hpuLost } : State).adaEvaluate

/-- R183: IDENTIFY carries the part code 612, revision 2, the fixed capacities and the configuration in service,
in 18 bytes, and changes no state. -/
def Obligations.IdentifyGivesTheTableOfR183 : Prop :=
  ∀ (t : LineTime) (tag : Byte) (s : State), s.linkReady → s.shaped →
    exec (.identify t tag) s =
      .next ((s.taking t).replied 0x61 tag (.ok ([2, 100, 2, 4, 12, 32, 100, 80, 1, 62, 4, 32, 240]
        ++ (if s.lsv.lineState = .config then [0, 0, 0, 0]
          else [1, byteOf s.cfg.line.nseg, byteOf s.cfg.derive.p, byteOf s.cfg.stations.length])
        ++ [byteOf s.trk.pallets.length])))

/-- R185: EVENTS TAKE removes the oldest records, as many as its count, taken into 1 to 8, or as the queue holds;
its reply gives the GAP flag, which it clears, the number left, the number taken and the records, oldest first.
It is answered OK also when the queue is empty. A record has the 14 bytes of 11 section 11.3: the kind from 1, the line
time, the subject's kind by R10's table and its number, the pallet ID or 0, and six bytes of detail, its values in the
order of R184's table and then zeros. The model's choice, not the spec's words, are the codes of the causes, results
and dispositions (log entry 7) and the widths of the detail's values (log entry 8). -/
def Obligations.EventsTakeRemovesTheOldest : Prop :=
  ∀ (t : LineTime) (tag count : Byte) (s : State), s.linkReady →
    let n := if count = 0 then 1 else if 8 < count.toNat then 8 else count.toNat
    let x := s.taking t
    exec (.eventsTake t tag count) s =
      .next (({ x with clp := { x.clp with events := s.clp.events.drop n, gap := false } } : State).replied
        0x62 tag (.ok ([if s.clp.gap then 1 else 0, byteOf (s.clp.events.length - n),
          byteOf (min n s.clp.events.length)] ++ (s.clp.events.take n).flatMap Event.bytes)))
    ∧ ∀ e : Event,
      let kinds : List EventKind := [.indexDone, .feedGap, .admissionUrgent, .admissionBlocked, .hpuAlarm,
        .stationFault, .shortCycle, .motionFault, .nodeLost, .nodeBack, .conveyorJam, .tagMismatch,
        .tagUnexpected, .tagMissing, .tagUnreadable, .verifyResult, .verifyPostponed, .verifyOverdue,
        .palletQuarantined, .workpieceOut, .lineState, .estopOn, .estopOff]
      let subjects : List SubjectKind := [.line, .segment, .station, .conveyor, .reader, .verify, .hpu, .slot]
      let values : List Byte := match e.detail with
        | .none => []
        | .index n => beBytes 2 n
        | .duration ms => beBytes 4 ms
        | .blocked c => [numberIn 0 [.alarm, .hpuLost] c]
        | .alarm on => [if on then 1 else 0]
        | .stationCause c => [numberIn 1 [.clampTimeout, .cycleTimeout, .unclampTimeout, .nodeFault, .nodeState,
            .linkLost, .estop, .refused] c]
        | .motion c certainty n =>
            [numberIn 1 [.phaseTimeout, .driveFault, .driveState, .linkLost, .estop, .refused] c,
              numberIn 0 [.certain, .beforeKnown, .uncertain] certainty] ++ beBytes 2 n
        | .address a => [byteOf a]
        | .jam c => [numberIn 1 [.travelTimeout, .nodeJam, .phantomArrival, .nodeLost] c]
        | .read none => [0, 0]
        | .read (some v) => [1, byteOf v]
        | .verify r => [numberIn 0 [.pass, .fail, .refused] r]
        | .laps n => [byteOf n]
        | .workpiece serial disposition defects more => beBytes 2 serial
            ++ [numberIn 0 [.good, .rework, .reject] disposition, byteOf defects, if more then 1 else 0]
        | .lineState state cause =>
            [numberIn 0 [.config, .idle, .run, .stopping, .halt] state,
              numberIn 0 [.commit, .start, .stop, .settled, .estop, .haltRequest, .recover, .uncommit] cause]
      e.bytes = [numberIn 1 kinds e.kind] ++ beBytes 4 e.time.toNat
          ++ [numberIn 0 subjects e.subject.kind, byteOf e.subject.number, byteOf (e.pallet.getD 0)]
          ++ values ++ List.replicate (6 - values.length) 0
        ∧ e.bytes.length = 14

/-- STATUS gives the common part of the line at its execution with the section asked for, and clears both link
flags and nothing else; a section above 4 is answered ARG (R180, R182). The sections hold the line, the Route Unit and
the Admission Arbiter with its queued requests (0), and one entry for each segment (1), station (2), conveyor (3) and
node (4); a READY segment's wait reason is the first that holds in R182's order. MAP READ gives its positions,
wrapping after P−1, each with its place, occupant, entry state and certainty, and PALLET READ the pallet's record
(R36, R37); neither changes anything, MAP READ is answered STATE in CONFIG, and PALLET READ NOTFOUND for an ID
without a record. The widths and codes that no layout gives are log entries 7 and 8, and the STEP permit sent as a
flag, set 1 and clear 0, is the model's choice, log entry 45. Section 0 shows R and each earliest admission time as
last stored, without an update at the request: R97 and R105 do not list STATUS among their events, and that R113 means
the stored values is the model's reading, not the spec's words (log entry 32). -/
def Obligations.ReadsShowTheStateAtTheirExecution : Prop :=
  (∀ (t : LineTime) (tag : Byte) (s : State), s.linkReady →
    let x := s.taking t
    (∀ no : Byte, no.toNat ≤ 4 →
      exec (.status t tag no) s =
        .next (({ x with clp := { x.clp with linkError := false, overrun := false } } : State).replied 0x60 tag
          (.ok (beBytes 4 t.toNat
            ++ [byteOf s.lsv.lineState.code, byteOf s.lsv.mode.code, if s.lsv.estop then 0 else 1,
                if s.clp.linkError then 1 else 0, if s.clp.overrun then 1 else 0,
                byteOf s.clp.events.length, if s.clp.gap then 1 else 0, no,
                byteOf (s.section no.toNat).2.length, 0, 0, 0]
            ++ (s.section no.toNat).1 ++ (s.section no.toNat).2.flatten))))
    ∧ (∀ no : Byte, 4 < no.toNat →
      exec (.status t tag no) s = .next (x.replied 0x60 tag (.arg 0)))
    ∧ (∀ start count : Byte,
      (s.lsv.lineState = .config →
        exec (.mapRead t tag start count) s = .next (x.replied 0x47 tag .state))
      ∧ (s.lsv.lineState ≠ .config → s.loopCount ≤ start.toNat →
        exec (.mapRead t tag start count) s = .next (x.replied 0x47 tag (.arg 0)))
      ∧ (s.lsv.lineState ≠ .config → start.toNat < s.loopCount →
        let n := if count = 0 then 1 else if 16 < count.toNat then 16 else count.toNat
        exec (.mapRead t tag start count) s =
          .next (x.replied 0x47 tag (.ok (byteOf n :: (List.range n).flatMap fun i =>
            s.mapEntry ((start.toNat + i) % s.loopCount))))))
    ∧ ∀ id : Byte, 1 ≤ id.toNat → id.toNat ≤ 250 →
      (s.pallet id.toNat = none →
        exec (.palletRead t tag id) s = .next (x.replied 0x42 tag .notFound))
      ∧ ∀ p, s.pallet id.toNat = some p →
        exec (.palletRead t tag id) s = .next (x.replied 0x42 tag (.ok
          ([id, byteOf p.variant.code, byteOf p.service.code, positionByte p.placement,
              byteOf (s.entryStateOf id.toNat), byteOf p.laps] ++ beBytes 2 p.indexCount
            ++ [if p.overdue then 1 else 0, if p.workpiece.isSome then 1 else 0]
            ++ (match p.workpiece with | some w => w.bytes | none => [])))))
  ∧ (∀ s : State,
    s.section 0 =
      ([byteOf s.loopCount, byteOf s.trk.pallets.length, byteOf s.trk.tag.code] ++ beBytes 2 s.ada.r
          ++ [if s.ada.pump then 0 else 1, if s.ada.alarm then 1 else 0, byteOf s.ada.hpu.code,
              byteOf s.ada.h.length] ++ beBytes 2 s.rtu.serial
          ++ [byteOf s.rtu.check.code, byteOf (s.rtu.checkPallet.getD 0), byteOf s.cvt.passOver],
        s.ada.queue.map fun q => [byteOf q.segment, byteOf q.cls.code] ++ beBytes 2 q.demand
          ++ (match q.earliest with | some at' => 1 :: beBytes 4 at'.toNat | none => [0, 0, 0, 0, 0]))
    ∧ s.section 1 = ([], s.segNumbers.map fun k =>
        [byteOf (s.seg k).state.code, byteOf (s.segMap k).certainty.code,
          if (s.seg k).held then 1 else 0, if (s.seg k).trackHold then 1 else 0,
          byteOf (s.seg k).bar.code, byteOf (((s.seg k).cause.map SegCause.code).getD 0),
          byteOf (s.waitReason k).code, if s.permit k then 1 else 0] ++ beBytes 2 (s.seg k).indexNumber)
    ∧ s.section 2 = ([], s.sqs.stations.map fun p =>
        [byteOf p.2.state.code, byteOf ((p.2.cause.map StationCause.code).getD 0)])
    ∧ s.section 3 = ([], s.cvt.convs.map fun p =>
        [byteOf p.2.state.code, byteOf ((p.2.cause.map JamCause.code).getD 0),
          byteOf (s.list p.1).length, byteOf p.2.reservations.length, byteOf p.2.requests.length,
          byteOf p.2.node.code])
    ∧ s.section 4 = ([], s.sbm.nodes.map fun p =>
        [byteOf p.1, byteOf p.2.state.code, byteOf p.2.misses])
    ∧ ∀ k, s.waitReason k =
      ((([(decide ((s.seg k).state ≠ .ready), .none),
          (decide (s.lsv.lineState ≠ .run), .line),
          ((s.seg k).held, .hold), ((s.seg k).trackHold, .trackHold),
          (decide (s.lsv.mode = .step ∧ s.permit k = false), .permit),
          (decide ((∀ o ∈ s.nests k, o = none) ∧ s.arrivedHead (upstreamOf k) = none), .noPallet),
          (decide (s.exitPallet k ≠ none) && !(s.seg k).room.isHeld, .room),
          ((s.seg k).feedWait.isSome, .feed)] : List (Bool × WaitReason)).find? (·.1)).map
        (·.2)).getD .none)
  ∧ ∀ (s : State) (pos : Nat),
    (∀ k j, s.placeAt pos = some (.nest k j) →
      s.mapEntry pos = [byteOf pos, byteOf k, byteOf j, byteOf ((s.occupant k j).getD 0), 0,
        byteOf ((s.segMap k).certainty.code + 1)])
    ∧ (∀ c i, s.placeAt pos = some (.entry c i) →
      s.mapEntry pos = [byteOf pos, byteOf (4 + c.number), 0,
        byteOf ((((s.list c)[i]?).map (·.pallet)).getD 0),
        match (s.list c)[i]? with
          | none => 0
          | some e => if e.state = .arrived then 1 else 2,
        0])

/-! ## The station bus -/

/-- A scan begins when the slots are over, with SCAN_SYNC and in HALT the ESTOP broadcast; the poll of an enabled
slot carries the node's pending command with the other toggle than the echo image, with its arguments and CRC-8,
or NONE while there is no command, no echo image or a resync, and opens the response window (R160, R161, R166,
R170, R171). The model's choice, not the spec's, are when a boundary may come (log entry 14) and D7 of the control
character of SYNC, ESTOP and NONE, which is 0 (log entry 44). -/
def Obligations.ScansAndPollsFollowTheSchedule : Prop :=
  (∀ (t : LineTime) (s : State) (first : Nat) (cut : Bool), s.sbm.scan = .scanning first cut →
    (s.sbm.window = none ∨ ∃ w, s.sbm.window = some w ∧ w.cut = true) →
    (first ≤ s.sbm.schedule.length →
      (cut = true ∨ ∀ a ∈ s.sbm.schedule.drop first, a = 0) →
      exec (.scanStart t) s =
        .next { s.at t with sbm := { s.sbm with
          scan := .scanning 0 false, window := none,
          tx := busFrame 63 [1] ++ (if s.lsv.lineState = .halt then busFrame 63 [2] else []) } })
    ∧ ∀ (slot a : Nat) (n : Node), s.sbm.schedule[slot]? = some a → a ≠ 0 → s.node a = some n →
      first ≤ slot → (cut = true ∨ ∀ b ∈ (s.sbm.schedule.take slot).drop first, b = 0) →
      exec (.slotPoll t slot) s =
        .next { s.at t with sbm := { s.sbm with
          nodes := tableModify a Node.polled s.sbm.nodes,
          scan := .scanning (slot + 1) false, window := some { address := a, cut := false },
          tx := pollFrame a n } })
  ∧ (∀ (a : Nat) (n : Node) (c : PendingCmd) (e : Echo),
    n.pending = some c → n.echo = some e → n.resync = false →
    n.polled = { n with pending := some { c with sent := some (!e.toggle) } }
      ∧ pollFrame a n = busFrame a (byteOf (c.code.code + if e.toggle then 0 else 128) :: c.args))
  ∧ (∀ (a : Nat) (n : Node), (n.pending = none ∨ n.echo = none ∨ n.resync = true) →
    n.polled = n ∧ pollFrame a n = busFrame a [0])
  ∧ ∀ (a : Nat) (rest : List Byte),
    (busFrame a rest).map (·.data) = byteOf a :: (rest ++ [crc8 (byteOf a :: rest)])
      ∧ (busFrame a rest).map (·.mark) = true :: List.replicate (rest.length + 1) false

/-- A node's good reply, with any echo and report of its kind, is read as exactly that echo and report. With
another CRC-8, another address, no mark in the first character or one in any later character, a stop bit not found
at any character, any character missing, any end of the reply missing, or a character more, it is a miss (R162,
R172, R188, 11 section 11.4). -/
def Obligations.GoodRepliesAreReadAsTheyWereSent : Prop :=
  ∀ (a : Nat) (r : Role) (e : Echo) (rep : Report), a < 64 → Echo.fits r e → Report.fits r rep →
    let chars := nodeReplyChars a r e rep
    judgeReply a r chars = some (e, rep)
    ∧ (∀ b, b < 64 → b ≠ a → judgeReply b r chars = none)
    ∧ (∀ (i : Nat) (c : BusChar), chars[i]? = some c →
      judgeReply a r (chars.eraseIdx i) = none
      ∧ judgeReply a r (chars.take i) = none
      ∧ judgeReply a r (chars.set i { c with stopFound := false }) = none
      ∧ judgeReply a r (chars.set i { c with mark := !c.mark }) = none)
    ∧ (∀ c : BusChar, judgeReply a r (chars ++ [c]) = none)
    ∧ ∀ last : BusChar, (last.data ≠ crc8 ((chars.dropLast).map (·.data))
        ∨ last.mark = true ∨ last.stopFound = false) →
      judgeReply a r (chars.dropLast ++ [last]) = none

/-- A good reply of the polled node acts in three steps, at one line time (R164). Its state notice: the node is
ONLINE with no misses, its owner told so, and a node that was LOST posts NODE_BACK (R163), which stands before its
owner's events by the model's choice, not the spec's (log entry 24). Its outcome: the
echo image is the reply's, a resync is over (R171), and an echo with the toggle and code transmitted decides the
pending command, which is then no longer pending: the owner acts on its delivery or its refusal (R167). Its report
is stored as the last, and the owner takes it. Only the work between the blocks follows. A reply that is judged bad
is a miss, and one outside a response window is ignored (R162). -/
def Obligations.GoodRepliesUpdateTheirNode : Prop :=
  (∀ (t : LineTime) (chars : List BusChar) (s : State),
    (s.sbm.window = none → exec (.nodeReply t chars) s = .next (s.at t).closeEvent)
    ∧ ∀ w n, s.sbm.window = some w → s.node w.address = some n →
      (∀ e rep, judgeReply w.address n.role chars = some (e, rep) →
        let a := w.address
        let heard := s.heardFrom t a e (n.decided e).isSome
        let back : Event := { kind := .nodeBack, time := t, subject := n.role.subject, pallet := none,
                              detail := .address a }
        let told := match n.state with
          | .online => heard
          | .unseen | .missing => heard.ownerNotice n.role .online false
          | .lost => ({ heard with clp := heard.clp.postEvent back } : State).ownerNotice n.role .online true
        let acted := match n.decided e with
          | none => told
          | some code => if e.refused then told.ownerRefused n.role code
              else told.ownerDelivered n.role code
        exec (.nodeReply t chars) s =
            .next ((acted.reported a rep).ownerReport n.role rep).closeEvent
          ∧ ∃ u : State, exec (.nodeReply t chars) s = .next u ∧ u.sbm.window = none
            ∧ (∃ n', u.node a = some n' ∧ n'.role = n.role ∧ n'.state = .online ∧ n'.misses = 0
              ∧ n'.echo = some e ∧ n'.resync = false ∧ n'.report = some rep
              ∧ (∀ c toggle, n'.pending = some c → c.sent = some toggle →
                n.decided e = none ∧ n.pending = some c))
            ∧ ({ s.at t with sbm := { s.sbm with window := none } } : State).worksTo u)
      ∧ (judgeReply w.address n.role chars = none → w.cut = false →
        exec (.nodeReply t chars) s = exec (.responseWindowExpiry t) s))
  ∧ (∀ (n : Node) (e : Echo) (code : CmdCode), n.decided e = some code ↔
      ∃ c, n.pending = some c ∧ c.sent = some e.toggle ∧ e.code = some c.code ∧ c.code = code)
  ∧ ∀ (s : State) (st : NodeStatus) (back : Bool),
      (∀ k, s.ownerNotice (.drive k) st back = s.modSeg k fun g => { g with node := st })
      ∧ (∀ n, s.ownerNotice (.station n) st back = s.modStation n fun g => { g with node := st })
      ∧ (∀ c, s.ownerNotice (.conveyor c) st back = s.modConv c fun v =>
        { v with node := st, image := if back then none else v.image })
      ∧ s.ownerNotice .reader st back = s
      ∧ s.ownerNotice .verify st back = { s with rtu := { s.rtu with node := st } }
      ∧ s.ownerNotice .hpu st back = { s with ada := { s.ada with hpu := st } }

/-- The end of a response window without a reply is a miss: an ONLINE node becomes MISSING with one miss, a
MISSING one counts up to MISS_LIMIT, at which it is LOST: NODE_LOST is posted with its address, and its owner acts
(R163; log entry 24 for the order). One that is UNSEEN or LOST stays as it is. A window that the entry into HALT
closed gives none (R170; log entry 13). The owner of a station faults it with LINK_LOST: a clamping one misses its
job, a cycle ends in a LINK_LOST defect, both with RETRACT posted, and a clear ends with the event (R60, R67). The
owner of a drive faults its segment with LINK_LOST, or ends its clear so (R90, R92); a conveyor is jammed with
NODE_LOST (R123); the verification node's check is kept, and a lost reader acts on nothing. -/
def Obligations.AnUnansweredPollIsAMiss : Prop :=
  (∀ (t : LineTime) (s : State) (w : Window) (n : Node), s.sbm.window = some w →
    s.node w.address = some n →
    let x : State := { s.at t with sbm := { s.sbm with window := none } }
    (w.cut = true → exec (.responseWindowExpiry t) s = .next x.closeEvent)
    ∧ (w.cut = false →
      (n.state = .unseen ∨ n.state = .lost → exec (.responseWindowExpiry t) s = .next x.closeEvent)
      ∧ (n.state = .online → 1 < s.cfg.bus.missLimit →
        ∃ u : State, exec (.responseWindowExpiry t) s = .next u
          ∧ u.node w.address = some { n with state := .missing, misses := 1 } ∧ x.worksTo u)
      ∧ (n.state = .missing → n.misses + 1 < s.cfg.bus.missLimit →
        exec (.responseWindowExpiry t) s =
          .next (x.modNode w.address fun m => { m with misses := n.misses + 1 }).closeEvent)
      ∧ ((n.state = .online ∧ s.cfg.bus.missLimit ≤ 1)
          ∨ (n.state = .missing ∧ s.cfg.bus.missLimit ≤ n.misses + 1) →
        let y := x.modNode w.address fun m =>
          { m with state := .lost, misses := if n.state = .online then 1 else n.misses + 1 }
        let event : Event := { kind := .nodeLost, time := t, subject := n.role.subject, pallet := none,
                               detail := .address w.address }
        let z : State := { y with clp := y.clp.postEvent event }
        exec (.responseWindowExpiry t) s = .next (z.ownerLost n.role).closeEvent
        ∧ ∃ u n', exec (.responseWindowExpiry t) s = .next u ∧ u.node w.address = some n'
          ∧ n'.state = .lost ∧ n'.role = n.role
          ∧ n'.misses = (if n.state = .online then 1 else n.misses + 1) ∧ x.worksTo u)))
  ∧ (∀ (s : State) (n : Nat) (r : StationRecord), s.stationCfg n = some r →
    let x := s.modStation n fun g => { g with node := .lost }
    let g := s.station n
    let fault : Event := { kind := .stationFault, time := s.clock, subject := { kind := .station, number := n },
                           pallet := g.job.map (·.pallet), detail := .stationCause .linkLost }
    let faulted : State := { (x.modStation n fun g =>
        { g with state := .fault, timer := none, cause := some .linkLost }) with
      clp := s.clp.postEvent fault }
    (g.state = .released ∨ g.state = .lockout ∨ g.state = .doneHeld ∨ g.state = .unclamping →
      s.ownerLost (.station n) = faulted.sqsAfter r.segment)
    ∧ (g.state = .clamping ∨ g.state = .clamped →
      s.ownerLost (.station n) = ((faulted.handOn n .missed).stationRetract n).sqsAfter r.segment)
    ∧ (g.state = .cycle →
      s.ownerLost (.station n) = ((faulted.handOn n (.defect .linkLost
        (match g.startTime with | some start => (s.clock - start).toNat | none => 0))).stationRetract
        n).sqsAfter r.segment)
    ∧ (g.state = .skipped ∨ (g.state = .fault ∧ g.clearPending = false) → s.ownerLost (.station n) = x)
    ∧ (g.state = .fault → g.clearPending = true →
      s.ownerLost (.station n) = { (x.modStation n fun g =>
          { g with cause := some .linkLost, clearPending := false, timer := none }) with
        clp := s.clp.postEvent fault }))
  ∧ ∀ s : State,
    (∀ k, let x := s.modSeg k fun g => { g with node := .lost }
      ((s.seg k).state ≠ .fault ∨ (s.seg k).clear = none → s.ownerLost (.drive k) = x.scFault k .linkLost)
      ∧ ((s.seg k).state = .fault → (s.seg k).clear.isSome = true →
        s.ownerLost (.drive k) = { (x.modSeg k fun g => { g with cause := some .linkLost, clear := none }) with
          clp := s.clp.postEvent
            { kind := .motionFault, time := s.clock, subject := { kind := .segment, number := k },
              pallet := none,
              detail := .motion .linkLost (s.segMap k).certainty (s.seg k).indexNumber } }))
    ∧ (∀ c, s.ownerLost (.conveyor c) = (s.modConv c fun v => { v with node := .lost }).jam c .nodeLost none)
    ∧ s.ownerLost .verify = { s with rtu := { s.rtu with node := .lost } }
    ∧ s.ownerLost .reader = s

/-! ## Timers -/

/-- An expiry of a timer that is not running or not due changes nothing but the clock (the model's reading of the
expiry commands, log entry 2; a timer is due when its limit has elapsed, R46, R71, R114, R174). -/
def Obligations.TimersThatAreNotDueDoNothing : Prop :=
  ∀ (t : LineTime) (n : Nat) (s : State),
    ((s.at t).stationTimerDue n .clamp = false →
      exec (.clampTimeout t n) s = .next (s.at t).closeEvent)
    ∧ ((s.at t).stationTimerDue n .settle = false →
      exec (.settleExpiry t n) s = .next (s.at t).closeEvent)
    ∧ ((s.at t).stationTimerDue n .cycle = false →
      exec (.cycleTimeout t n) s = .next (s.at t).closeEvent)
    ∧ ((s.at t).stationTimerDue n .unclamp = false →
      exec (.unclampTimeout t n) s = .next (s.at t).closeEvent)
    ∧ ((s.at t).stationTimerDue n .clear = false →
      exec (.stationClearTimeout t n) s = .next (s.at t).closeEvent)
    ∧ ((∀ m, (s.at t).stationTimerDue m .common = false) →
      exec (.commonTimerExpiry t n) s = .next (s.at t).closeEvent)
    ∧ ((∀ tm, (s.seg n).phase = .running tm → (t - tm.start).toNat < tm.limit) →
      exec (.phaseTimeout t n) s = .next (s.at t).closeEvent)
    ∧ ((∀ tm, (s.seg n).feedWait = some tm → (t - tm.start).toNat < tm.limit) →
      exec (.feedWaitExpiry t n) s = .next (s.at t).closeEvent)
    ∧ ((∀ tm, (s.seg n).clear = some tm → (t - tm.start).toNat < tm.limit) →
      exec (.segmentClearTimeout t n) s = .next (s.at t).closeEvent)
    ∧ ((∀ tm, s.ada.evalTimer = some tm → (t - tm.start).toNat < tm.limit) →
      exec (.evaluationTimerExpiry t) s = .next (s.at t).closeEvent)
    ∧ ((∀ q ∈ s.ada.queue, q.segment = n → ∀ tm, q.urgency = some tm →
        (t - tm.start).toNat < tm.limit) →
      exec (.urgencyExpiry t n) s = .next (s.at t))
    ∧ ((∀ x, s.ada.lastAny = some x → (t - x).toNat < s.cfg.line.tStagger) →
      exec (.staggerExpiry t) s = .next (s.at t))
    ∧ ((∀ x, tableGet n s.ada.lastSeg = some x → (t - x).toNat < (s.segCfg n).tIndexMin) →
      exec (.periodExpiry t n) s = .next (s.at t))
    ∧ ((∀ c tm, ConvId.ofNumber n = some c → (s.conv c).travel = some tm →
        (t - tm.start).toNat < tm.limit) →
      exec (.travelTimeout t n) s = .next (s.at t).closeEvent)
    ∧ ((∀ bytes gap, s.clp.rx = .assembling bytes gap → (t - gap.start).toNat < gap.limit) →
      exec (.gapTimerExpiry t) s = .next (s.at t))
    ∧ ((∀ o, s.trk.tag = .opened o → (t - o.openedAt).toNat < s.cfg.line.tRead) →
      exec (.tagReadTimeout t) s = .next (s.at t).closeEvent)

/-- A station's timers, reports and command outcomes. The clamp and cycle timers fault the station, with the job missed
or with a CYCLE_TIMEOUT defect, and RETRACT posted; the unclamp timer faults it; the clear timer ends the clear; the
settle timer posts START when the pallet still suits the job, and otherwise misses the job and unclamps (R47, R50,
R51, R55 to R57, R67). A good reply hands the report to SQS, which stores it, in HALT does nothing more (R68), and
otherwise follows R58's table: CLAMPED after CLAMP is delivered gives CLAMPED with the settle timer (R50); CYCLE_DONE
ends the cycle with op done, a SHORT_CYCLE defect and event when it was short, then UNCLAMP or DONE_HELD (R53, R54;
log entry 36); UNCLAMPED ends UNCLAMPING once nothing is pending (R56) and DONE_HELD while the common release is
REQUESTED (R57); LOCKOUT comes and goes (R59); a clear ends by the report (R67); every other cell is a fault with its
outcome, and RETRACT from CLAMPING, CLAMPED and CYCLE. START delivered starts CYCLE (R52), RETRACT after an abort
starts UNCLAMPING's timer or ends it (R63), a refused command faults (R61). RELEASE_ALL delivered sets the common
timer of each DONE_HELD station, refused it faults each (R57, R88; log entry 33). -/
def Obligations.StationTimersEndTheirPhase : Prop :=
  (∀ (t : LineTime) (n : Nat) (s : State) (r : StationRecord) (st : Station) (purpose : TimerPurpose)
    (tm : Timer), s.stationCfg n = some r → tableGet n s.sqs.stations = some st →
    st.timer = some { purpose := purpose, timer := tm } → tm.limit ≤ (t - tm.start).toNat →
    let x := s.at t
    let faulted := fun (cause : StationCause) =>
      (x.modStation n fun st => { st with state := .fault, timer := none, cause := some cause }).post
        .stationFault { kind := .station, number := n } (st.job.map (·.pallet)) (.stationCause cause)
    let told := fun (y : State) => y.modStation n fun st => { st with outcomeGiven := true }
    (∀ j, st.job = some j → st.outcomeGiven = false →
      (purpose = .clamp → st.state = .clamping →
        let y := told (if j.kind = .machine then (faulted .clampTimeout).trkOpMissed n j.pallet
          else faulted .clampTimeout)
        let y' := if s.stationPending n = some .clamp then y.replaceCmd r.node .retract else y
        exec (.clampTimeout t n) s = .next (y'.sqsAfter r.segment).closeEvent
          ∧ y'.flowsTo (y'.sqsAfter r.segment).closeEvent)
      ∧ (purpose = .cycle → st.state = .cycle →
        let y := (told ((faulted .cycleTimeout).trkDefect n j.pallet .cycleTimeout
          r.tCycleMax)).replaceCmd r.node .retract
        exec (.cycleTimeout t n) s = .next (y.sqsAfter r.segment).closeEvent
          ∧ y.flowsTo (y.sqsAfter r.segment).closeEvent)
      ∧ (purpose = .settle → s.settleCheck r j = true →
        exec (.settleExpiry t n) s =
          .next ((x.modStation n fun st => { st with timer := none }).postCmd r.node .start
            ([byteOf j.variant.code, byteOf j.kind.code] ++ (if j.kind = .unload then
              [byteOf (j.disposition.getD .good).code] else []))).closeEvent)
      ∧ (purpose = .settle → s.settleCheck r j = false →
        let y := ((told (if j.kind = .machine then x.trkOpMissed n j.pallet else x)).postCmd r.node
          .unclamp []).modStation n fun st =>
            { st with state := .unclamping, cause := none, clearPending := false,
                      timer := some { purpose := .unclamp,
                                      timer := { start := t, limit := r.tUnclampMax } } }
        exec (.settleExpiry t n) s = .next (y.sqsAfter r.segment).closeEvent
          ∧ y.flowsTo (y.sqsAfter r.segment).closeEvent))
    ∧ (purpose = .unclamp → st.state = .unclamping →
      exec (.unclampTimeout t n) s = .next ((faulted .unclampTimeout).sqsAfter r.segment).closeEvent
        ∧ (faulted .unclampTimeout).flowsTo
          ((faulted .unclampTimeout).sqsAfter r.segment).closeEvent)
    ∧ (purpose = .clear →
      exec (.stationClearTimeout t n) s =
        .next (((x.modStation n fun st => { st with clearPending := false, timer := none }).post
          .stationFault { kind := .station, number := n } (st.job.map (·.pallet))
          (.stationCause .nodeFault)).closeEvent))
    ∧ (purpose = .common → st.state = .unclamping →
      ∃ u : State, exec (.commonTimerExpiry t r.segment) s = .next u
        ∧ (u.station n).state = .fault ∧ (u.station n).cause = some .unclampTimeout
        ∧ (∀ m, s.stationSegment m ≠ r.segment ∨ x.stationTimerDue m .common = false →
          u.station m = s.station m)
        ∧ x.worksTo u))
  ∧ (∀ (t : LineTime) (chars : List BusChar) (a n : Nat) (nd : Node) (e : Echo) (rep : StationReport)
      (code : Nat) (s : State), s.hears chars a nd e (.station rep code) → nd.role = .station n →
    exec (.nodeReply t chars) s =
      .next ((s.beforeReport t a nd e (.station rep code)).sqsReport n rep code).closeEvent)
  ∧ (∀ (s : State) (n : Nat) (r : StationRecord) (rep : StationReport) (code : Nat), s.stationCfg n = some r →
    let x := s.modStation n fun g => { g with report := some (rep, code) }
    let g := s.station n
    let v := s.sqsReport n rep code
    let faults := fun (cause : StationCause) (e : JobEnd) =>
      (({ (x.modStation n fun g => { g with state := .fault, timer := none, cause := some cause }) with
        clp := s.clp.postEvent
          { kind := .stationFault, time := s.clock, subject := { kind := .station, number := n },
            pallet := g.job.map (·.pallet), detail := .stationCause cause } } : State).handOn n e)
    let idle := fun (target : StationState) => (x.modStation n fun g => g.idleIn target).sqsAfter r.segment
    let unclamps := fun (y : State) => (y.postCmd r.node .unclamp []).modStation n fun g =>
      { g with state := .unclamping, cause := none, clearPending := false,
               timer := some { purpose := .unclamp, timer := { start := s.clock, limit := r.tUnclampMax } } }
    let spent := match g.startTime with | some start => (s.clock - start).toNat | none => 0
    let causeOf := if rep = .fault ∨ rep = .lockout then StationCause.nodeFault else .nodeState
    (s.lsv.lineState = .halt → v = x)
    ∧ (s.lsv.lineState ≠ .halt →
      (g.state = .skipped → v = x)
      ∧ (g.state = .released ∨ g.state = .lockout →
        (rep = .unclamped → v = if g.state = .lockout then idle .released else x)
        ∧ (rep = .lockout → v = if g.state = .released then idle .lockout else x)
        ∧ (rep ≠ .unclamped → rep ≠ .lockout → v = (faults causeOf .nothing).sqsAfter r.segment))
      ∧ (g.state = .clamping → rep ≠ .unclamped →
        (rep ≠ .clamped → v = ((faults causeOf .missed).stationRetract n).sqsAfter r.segment)
        ∧ (rep = .clamped → s.stationPending n ≠ some .clamp →
          let y := x.modStation n fun g => { g with
            state := .clamped,
            timer := some { purpose := .settle, timer := { start := s.clock, limit := r.tSettle } } }
          v = if r.tSettle = 0 then y.settleExpires n else y))
      ∧ (g.state = .clamping → rep = .unclamped ∨ (rep = .clamped ∧ s.stationPending n = some .clamp) → v = x)
      ∧ (g.state = .clamped → (rep = .clamped → v = x)
        ∧ (rep ≠ .clamped → v = ((faults causeOf .missed).stationRetract n).sqsAfter r.segment))
      ∧ (g.state = .cycle →
        (rep = .clamped ∨ rep = .cycling → v = x)
        ∧ (rep = .unclamped ∨ rep = .fault ∨ rep = .lockout →
          v = ((faults causeOf (.defect .stationFault spent)).stationRetract n).sqsAfter r.segment)
        ∧ (rep = .cycleDone → ∀ j, g.job = some j →
          let results := fun (y : State) =>
            if spent < r.tCycleMin then (y.trkOpDone n j.pallet).trkDefect n j.pallet .shortCycle spent
            else y.trkOpDone n j.pallet
          let y := x.modStation n fun g => { g with timer := none }
          let z := (match j.kind with
            | .machine => results y
            | .load => results (y.loadDone j.pallet)
            | .unload => (results y).unloadDone n j.pallet (j.disposition.getD .good)).modStation n fun g =>
              { g with outcomeGiven := true }
          let event : Event := { kind := .shortCycle, time := s.clock,
                                 subject := { kind := .station, number := n }, pallet := some j.pallet,
                                 detail := .duration spent }
          let z' : State := if spent < r.tCycleMin then { z with clp := z.clp.postEvent event } else z
          v = (if r.autoRelease then unclamps z' else z'.modStation n fun g =>
            { g with state := .doneHeld }).sqsAfter r.segment))
      ∧ (g.state = .doneHeld →
        (rep = .clamped ∨ rep = .cycling ∨ rep = .cycleDone → v = x)
        ∧ (rep = .fault ∨ rep = .lockout ∨ (rep = .unclamped ∧ s.common r.segment ≠ .requested) →
          v = (faults causeOf .nothing).sqsAfter r.segment)
        ∧ (rep = .unclamped → s.common r.segment = .requested → v = idle .released))
      ∧ (g.state = .unclamping →
        (rep = .clamped ∨ rep = .cycling ∨ rep = .cycleDone
          ∨ (rep = .unclamped ∧ s.stationPending n ≠ none) → v = x)
        ∧ (rep = .fault ∨ rep = .lockout → v = (faults causeOf .nothing).sqsAfter r.segment)
        ∧ (rep = .unclamped → s.stationPending n = none → v = idle .released))
      ∧ (g.state = .fault →
        (g.clearPending = false ∨ s.stationPending n = some .resetFault ∨ rep = .fault ∨ rep = .cycling → v = x)
        ∧ (g.clearPending = true → s.stationPending n ≠ some .resetFault →
          (rep = .unclamped → v = idle .released) ∧ (rep = .lockout → v = idle .lockout)
          ∧ (rep = .clamped ∨ rep = .cycleDone → v = (unclamps x).sqsAfter r.segment)))))
  ∧ (∀ (s : State) (n : Nat) (r : StationRecord), s.stationCfg n = some r →
    let g := s.station n
    let faults : State := { (s.modStation n fun g =>
        { g with state := .fault, timer := none, cause := some .refused }) with
      clp := s.clp.postEvent
        { kind := .stationFault, time := s.clock, subject := { kind := .station, number := n },
          pallet := g.job.map (·.pallet), detail := .stationCause .refused } }
    let released := (s.modStation n fun g => g.idleIn .released).sqsAfter r.segment
    (g.state = .clamped → s.ownerDelivered (.station n) .start = s.modStation n fun g =>
      { g with state := .cycle, startTime := some s.clock,
               timer := some { purpose := .cycle, timer := { start := s.clock, limit := r.tCycleMax } } })
    ∧ (g.state = .unclamping →
      (g.reportsUnclamped = true → s.ownerDelivered (.station n) .retract = released
        ∧ s.ownerDelivered (.station n) .unclamp = released)
      ∧ (g.reportsUnclamped = false → s.ownerDelivered (.station n) .unclamp = s
        ∧ s.ownerDelivered (.station n) .retract =
          (((s.postCmd r.node .unclamp []).modStation n fun g =>
            { g with state := .unclamping, cause := none, clearPending := false,
                     timer := some { purpose := .unclamp,
                                     timer := { start := s.clock, limit := r.tUnclampMax } } }).sqsAfter
            r.segment)))
    ∧ (g.state ≠ .fault → ∀ c, (c = .clamp ∨ c = .start →
        s.ownerRefused (.station n) c = (faults.handOn n .missed).sqsAfter r.segment)
      ∧ (c = .retract ∨ c = .unclamp → s.ownerRefused (.station n) c = faults.sqsAfter r.segment))
    ∧ (g.clearPending = true → s.ownerRefused (.station n) .resetFault =
      { (s.modStation n fun g => { g with clearPending := false, timer := none }) with clp := faults.clp }))
  ∧ (∀ (s : State) (n : Nat),
    let g := s.station n
    let given := fun (y : State) => y.modStation n fun g => { g with outcomeGiven := true }
    (∀ j, g.job = some j → g.outcomeGiven = false →
      s.handOn n .missed = given (if j.kind = .machine then s.trkOpMissed n j.pallet else s)
      ∧ ∀ cause ms, s.handOn n (.defect cause ms) = given (s.trkDefect n j.pallet cause ms))
    ∧ (g.job = none ∨ g.outcomeGiven = true → ∀ e, s.handOn n e = s) ∧ s.handOn n .nothing = s
    ∧ s.stationRetract n =
      if s.pendingAt (s.stationNode n) = some .retract then s
      else if s.pendingAt (s.stationNode n) = some .start then
        (s.postCmd (s.stationNode n) .retract []).handOn n .missed
      else s.postCmd (s.stationNode n) .retract [])
  ∧ ∀ (s : State) (k : Nat), (s.sqs.stations.map (·.1)).Nodup →
    (s.commonDelivered k).sqs.stations = s.sqs.stations.map (fun p =>
      if s.stationSegment p.1 = k ∧ p.2.state = .doneHeld then
        (p.1, { p.2 with state := .unclamping,
                         timer := some { purpose := .common, timer :=
                           { start := s.clock, limit := (s.segCfg k).tReleaseCommon } } })
      else p)
    ∧ (s.commonRefused k).sqs.stations = s.sqs.stations.map (fun p =>
      if s.stationSegment p.1 = k ∧ p.2.state = .doneHeld then
        (p.1, { p.2 with state := .fault, timer := none, cause := some .refused })
      else p)
    ∧ s.commonRefused k = ((s.sqs.stations.filter fun p =>
        s.stationSegment p.1 = k ∧ p.2.state = .doneHeld).foldl
          (fun y p => y.stationFault p.1 .refused .nothing) (s.setCommon k .none)).sqsAfter k

/-- The segment timers. The phase timer of a motion, or of a returning bar, faults the segment with PHASE_TIMEOUT:
its timers, hold and owed commands but RELEASE_ALL end, a segment in motion loses its permit and its certainty
falls to BEFORE_KNOWN before the lift is done and to UNCERTAIN after it, MOTION_FAULT is posted, and FEEDHOLD
replaces a motion command that was still pending (R81, R87, R89). A segment in FAULT or in motion holds no room; one
that holds or awaits room, or is QUEUED, is faulted as DriveReportsMoveTheSegment says of every cause. The
feed-wait timer posts FEED_GAP and enqueues a gap (R77, R78); the clear timer ends the clear with MOTION_FAULT
(R92). -/
def Obligations.SegmentTimersEndTheirPhase : Prop :=
  ∀ (t : LineTime) (k : Nat) (s : State) (tm : Timer), tm.limit ≤ (t - tm.start).toNat →
    let x := s.at t
    let g := s.seg k
    let inFault := fun (y : State) => y.modSeg k fun g =>
      { g with state := .fault, cause := some .phaseTimeout, phase := .stopped, feedWait := none,
               hold := .none, resumeWanted := false,
               owed := { lift := false, advance := false, lower := false, ret := false,
                         resume := false, releaseAll := g.owed.releaseAll } }
    let fell : Certainty :=
      if g.motion = .atRest ∨ g.motion = .lifting ∨ g.motion = .lifted then .beforeKnown else .uncertain
    let stopped := fun (y : State) =>
      if ∃ c, s.drivePending k = some c ∧ (c = .lift ∨ c = .advance ∨ c = .lower ∨ c = .ret ∨ c = .resume)
      then y.replaceCmd (s.segCfg k).nodeDrive .feedhold else y
    let faultEvent := fun (y : State) => y.post .motionFault { kind := .segment, number := k } none
      (.motion .phaseTimeout (y.segMap k).certainty g.indexNumber)
    (g.phase = .running tm → exec (.phaseTimeout t k) s = .next (x.scFault k .phaseTimeout).closeEvent)
    ∧ (g.phase = .running tm → g.room = .none →
      (g.state = .lift ∨ g.state = .advance ∨ g.state = .lower →
        exec (.phaseTimeout t k) s =
          .next (stopped (faultEvent (inFault ((x.modSegMap k fun m =>
            { m with certainty := m.certainty.lower fell }).setPermit k false)))).closeEvent)
      ∧ (g.state = .off ∨ g.state = .work →
        exec (.phaseTimeout t k) s = .next (stopped (faultEvent (inFault x))).closeEvent))
    ∧ (g.feedWait = some tm →
      ∃ u : State, exec (.feedWaitExpiry t k) s = .next u
        ∧ ((u.seg k).state = .queued ∨ (u.seg k).state = .lift)
        ∧ (s.lsv.lineState ≠ .stopping → u.clp = s.clp.postEvent
          { kind := .feedGap, time := t, subject := { kind := .segment, number := k }, pallet := none,
            detail := .duration (s.segCfg k).tFeedWait })
        ∧ x.flowsTo u)
    ∧ (g.clear = some tm →
      exec (.segmentClearTimeout t k) s =
        .next (faultEvent (x.modSeg k fun g => { g with clear := none })).closeEvent)

/-- The Admission Arbiter's timers. The evaluation timer evaluates the queue (R112). An urgency expiry makes the
request URGENT, behind every URGENT request and before every NORMAL one, and posts ADMISSION_URGENT with T_urgent
(R107). Entries of H leave when T_window has passed (R103); last_any and last_s become none at T_stagger and
T_index_min (R104); none of these three evaluates the queue. -/
def Obligations.AdmissionTimersExpire : Prop :=
  ∀ (t : LineTime) (k : Nat) (s : State),
    let x := s.at t
    (∀ tm, s.ada.evalTimer = some tm → tm.limit ≤ (t - tm.start).toNat →
      exec (.evaluationTimerExpiry t) s = .next x.adaEvaluate.closeEvent
        ∧ x.flowsTo x.adaEvaluate.closeEvent)
    ∧ (∀ before q after tm, s.ada.queue = before ++ q :: after → q.segment = k →
      (∀ p ∈ before ++ after, p.segment ≠ k) →
      q.urgency = some tm → tm.limit ≤ (t - tm.start).toNat →
      let others := before ++ after
      exec (.urgencyExpiry t k) s =
        .next { x with
          ada := { s.ada with queue := others.filter (fun p => p.cls = .urgent)
            ++ { q with cls := .urgent, urgency := none } :: others.filter (fun p => p.cls = .normal) },
          clp := s.clp.postEvent
            { kind := .admissionUrgent, time := t, subject := { kind := .segment, number := k },
              pallet := none, detail := .duration s.cfg.line.tUrgent } })
    ∧ exec (.hEntryExpiry t) s =
      .next { x with ada := { s.ada with
        h := s.ada.h.filter fun start => (t - start).toNat < s.cfg.line.tWindow } }
    ∧ (∀ start, s.ada.lastAny = some start → s.cfg.line.tStagger ≤ (t - start).toNat →
      exec (.staggerExpiry t) s = .next { x with ada := { s.ada with lastAny := none } })
    ∧ (∀ start, tableGet k s.ada.lastSeg = some start → (s.segCfg k).tIndexMin ≤ (t - start).toNat →
      exec (.periodExpiry t k) s =
        .next { x with ada := { s.ada with lastSeg := tableErase k s.ada.lastSeg } })

/-- Conveyors and the tag check. The travel timer of a FLOWING conveyor jams it with TRAVEL_TIMEOUT (R120). A jam stops
the timer, posts CONVEYOR_JAM, and withdraws each HELD reservation, whose segment seeks room again; a JAMMED conveyor
keeps its cause (R121). A conveyor's good reply: the first count, and that of a return, only becomes the image
(R123); otherwise as many of the oldest IN_TRANSIT entries become ARRIVED as have arrived and are expected, an
excess jams it as PHANTOM_ARRIVAL, and then a jam flag as NODE_JAM (R30, R118, R119, R122). RELEASE delivered moves
the VS head to RC's tail, refused gives the room up and jams VS, and a stale one moves nothing (R127). The end of
T_read posts TAG_UNREADABLE and closes the tag check, the map kept; a reader's fresh read closes an OPEN one or holds
it; a close gives the held N1 notice and tests S1 (R38 to R40). The model's choice, not the spec's, are three orders:
a credit's head notice before the travel timer (log entry 34), at a refused RELEASE the grant pass, the jam and the
request's return (log entry 16), and at a close the held notice before S1's readiness test (log entry 10). -/
def Obligations.TravelAndTagTimersExpire : Prop :=
  (∀ (t : LineTime) (number : Nat) (s : State) (c : ConvId) (tm : Timer),
    ConvId.ofNumber number = some c → (s.conv c).travel = some tm → (s.conv c).state = .flowing →
    tm.limit ≤ (t - tm.start).toNat →
    exec (.travelTimeout t number) s =
        .next ((s.at t).jam c .travelTimeout ((oldestInTransit (s.list c)).map (·.pallet))).closeEvent
    ∧ ∃ u : State, exec (.travelTimeout t number) s = .next u
      ∧ (u.conv c).state = .jammed ∧ (u.conv c).cause = some .travelTimeout ∧ (u.conv c).travel = none
      ∧ ((s.at t).modConv c fun v =>
          { v with state := .jammed, cause := some .travelTimeout, travel := none }).flowsTo u)
  ∧ (∀ (t : LineTime) (s : State) (o : TagOpening), s.trk.tag = .opened o →
    s.cfg.line.tRead ≤ (t - o.openedAt).toNat →
    exec (.tagReadTimeout t) s =
      .next ((((s.at t).post .tagUnreadable { kind := .segment, number := 1 } o.occupant (.read none)).tagClosed
        o).closeEvent)
    ∧ ∃ u : State, exec (.tagReadTimeout t) s = .next u
      ∧ u.trk.tag = .none ∧ (u.seg 1).trackHold = false
      ∧ (∀ k, u.nests k = s.nests k) ∧ u.trk.lists = s.trk.lists
      ∧ (s.at t).worksTo u)
  ∧ (∀ (s : State) (c : ConvId) (cause : JamCause) (id : Option Nat),
    ((s.conv c).state = .jammed → s.jam c cause id = s)
    ∧ ((s.conv c).state = .flowing →
      s.jam c cause id = (heldSegments (s.conv c).reservations).foldl
        (fun y k =>
          let z := y.modConv c fun v =>
            { v with reservations := v.reservations.filter fun r => r.holder ≠ .segment k }
          match (y.seg k).state with
          | .ready => (z.modSeg k fun g => { g with room := .none, feedWait := none }).scTest k
          | .queued => ((z.modSeg k fun g =>
              { g with state := .ready, queued := none, room := .none }).adaWithdraw k).scTest k
          | _ => z.modSeg k fun g => { g with room := .none })
        ((s.modConv c fun v => { v with state := .jammed, cause := some cause, travel := none }).post
          .conveyorJam { kind := .conveyor, number := c.number } id (.jam cause)))
    ∧ ∀ l k, k ∈ heldSegments l ↔ { holder := .segment k, status := .held } ∈ l)
  ∧ (∀ (t : LineTime) (chars : List BusChar) (a : Nat) (c : ConvId) (nd : Node) (e : Echo) (count : Nat)
      (jam head : Bool) (s : State),
    s.hears chars a nd e (.conveyor count jam head) → nd.role = .conveyor c →
    exec (.nodeReply t chars) s =
      .next ((s.beforeReport t a nd e (.conveyor count jam head)).conveyorReport c count jam head).closeEvent)
  ∧ (∀ (s : State) (c : ConvId) (count : Nat) (jam head : Bool), count < 256 →
    let v := s.conv c
    let x := s.modConv c fun v => { v with report := some (count, jam, head), image := some count }
    let ended := fun (y : State) => if jam then y.jam c .nodeJam none else y
    (v.image = none → s.conveyorReport c count jam head = ended x)
    ∧ ∀ image, v.image = some image → image < 256 →
      let arrived := if image ≤ count then count - image else count + 256 - image
      let credits := min arrived v.expected
      let y := if credits = 0 then x else x.credit c credits
      s.conveyorReport c count jam head =
        ended (if v.expected < arrived then y.jam c .phantomArrival none else y))
  ∧ (∀ (s : State) (c : ConvId) (n : Nat),
    let x := (s.setList c (creditOldest n (s.list c))).modConv c fun v => { v with expected := v.expected - n }
    s.credit c n = (if s.arrivedHead c = none ∧ x.arrivedHead c ≠ none then x.headNotice c else x).syncTravel
      ((oldestInTransit (s.list c)).map (·.pallet)) c)
  ∧ (∀ (e : Entry) (l : List Entry) (n : Nat), creditOldest 0 l = l ∧ creditOldest n [] = []
    ∧ creditOldest (n + 1) (e :: l) = if e.state = .inTransit then { e with state := .arrived } :: creditOldest n l
        else e :: creditOldest (n + 1) l)
  ∧ (∀ (s : State),
    s.headNotice .rc = s.scTest 1 ∧ s.headNotice .b1 = s.scTest 2 ∧ s.headNotice .b2 = s.scTest 3
    ∧ s.headNotice .b3 = s.scTest 4 ∧ s.headNotice .vs = s.vsHeadNotice
    ∧ (∀ c code, (∃ r ∈ (s.conv .rc).reservations, r.holder = .spur) →
      let dropped := fun (y : State) => y.modConv .rc fun v =>
        { v with reservations := v.reservations.filter fun r => r.holder ≠ .spur }
      (∀ e rest, s.list .vs = e :: rest →
        let moved := (s.setList .vs rest).setList .rc
          (s.list .rc ++ [{ pallet := e.pallet, state := .inTransit, entryTime := s.clock }])
        s.ownerDelivered (.conveyor c) code =
          (((dropped moved.syncPlacements).expectMore .rc).grantPass .vs).headNotice .vs)
      ∧ s.ownerRefused (.conveyor c) code =
        ((((dropped s).grantPass .rc).jam .vs .nodeJam none).modConv .rc fun v =>
          { v with requests := v.requests ++ [.spur] }))
    ∧ ∀ c code, (∀ r ∈ (s.conv .rc).reservations, r.holder ≠ .spur) →
      let ended := fun (y : State) =>
        ({ y with cvt := { y.cvt with staleRelease := false } } : State).grantPass .rc
      s.ownerDelivered (.conveyor c) code = ended s
      ∧ s.ownerRefused (.conveyor c) code = ended (s.jam .vs .nodeJam none))
  ∧ (∀ (t : LineTime) (chars : List BusChar) (a : Nat) (nd : Node) (e : Echo) (sequence value : Nat) (s : State),
    s.hears chars a nd e (.reader sequence value) → nd.role = .reader →
    exec (.nodeReply t chars) s =
      .next ((s.beforeReport t a nd e (.reader sequence value)).readerReport sequence value).closeEvent)
  ∧ ∀ (s : State) (sequence value : Nat),
    let x : State := { s with trk := { s.trk with readerImage := some sequence } }
    ((∀ o, s.trk.tag = .opened o → o.image = some sequence) → s.readerReport sequence value = x)
    ∧ ∀ o, s.trk.tag = .opened o → o.image ≠ some sequence →
      let closed := fun (y : State) => y.tagClosed o
      let posted := fun (kind : EventKind) => x.post kind { kind := .segment, number := 1 } o.occupant
        (.read (some value))
      let holds := fun (kind : EventKind) =>
        ({ posted kind with trk := { x.trk with tag := .held o value false } } : State)
      (251 ≤ value → s.readerReport sequence value = closed (posted .tagUnreadable))
      ∧ (value < 251 →
        (∀ id, o.occupant = some id → id ≠ 0 → s.readerReport sequence value =
          if value = id then closed x else if value = 0 then holds .tagMissing else holds .tagMismatch)
        ∧ (o.occupant = none → s.readerReport sequence value =
          if value = 0 then closed x else holds .tagUnexpected))

/-! ## Whole-machine rules -/

/-- The Reserve Model does not depend on how often it is updated: unless Cap is reached, two updates give the R
and the carry of one over the whole interval. An elapsed time beyond 600000 ms is taken as that, which ends at Cap
all the same (R97). -/
def Obligations.ReserveUpdatesMayBeSplit : Prop :=
  (∀ (a : Ada) (l : LineRecord) (t1 t2 : LineTime),
    (t1 - a.tLast).toNat + (t2 - t1).toNat ≤ 600000 →
    a.r + (l.q * ((t1 - a.tLast).toNat + (t2 - t1).toNat) + a.c) / 1000 < l.cap →
    (a.update l t1).update l t2 = a.update l t2)
  ∧ ∀ (a : Ada) (l : LineRecord) (t : LineTime), l.InRange → a.pump = true → a.alarm = false →
    600000 ≤ (t - a.tLast).toNat →
    (a.update l t).r = l.cap ∧ (a.update l t).c = 0

/-- The earliest reserve time of a request that does not yet fit is the first at which the update rule gives
R ≥ D + F with the pump running throughout, and it is at most 600000 ms away; without pump flow there is none
(R102). -/
def Obligations.EarliestReserveTimeIsTheFirst : Prop :=
  ∀ (a : Ada) (l : LineRecord) (q : AdaRequest), l.InRange → a.c ≤ 999 → q.demand + l.f ≤ l.cap →
    (a.pump = true → a.alarm = false → a.r < q.demand + l.f →
      ∃ w, a.reserveWait l q = some w ∧ w ≤ 600000
        ∧ ∀ e, e ≤ 600000 →
          (q.demand + l.f ≤ (a.update l (a.tLast + BitVec.ofNat 32 e)).r ↔ w ≤ e))
    ∧ ((a.pump = false ∨ a.alarm = true) → (a.alarm = true ∨ a.r < q.demand + l.f) →
      a.reserveWait l q = none)

/-- R101, R103, R104, R109, R110: a request is admitted only in RUN, in STEP only with its permit, and under the
four conditions. An evaluation updates the Reserve Model and drops the entries of H that T_window has passed, then
admits the first request, in queue order, that is admissible while no inadmissible URGENT request stands before it,
and evaluates again; with no such request it ends, with the earliest times and the evaluation timer. An admission
lowers R by D, leaves the carry and at least F, appends the time to H, sets last_any and last_s, removes the request
and brings its segment into LIFT. With T_stagger 0 the evaluation leaves last_any none after an admission. When an evaluation ends, its scan admits nothing more. -/
def Obligations.AdmissionsLeaveTheFloor : Prop :=
  (∀ (s : State) (q : AdaRequest),
    s.admissible q = true ↔
      s.lsv.lineState = .run ∧ (s.lsv.mode = .auto ∨ s.permit q.segment = true)
      ∧ s.ada.alarm = false ∧ q.demand + s.cfg.line.f ≤ s.ada.r
      ∧ s.ada.h.length < s.cfg.line.wMax
      ∧ (∀ start, s.ada.lastAny = some start → s.cfg.line.tStagger ≤ (s.clock - start).toNat)
      ∧ (∀ start, tableGet q.segment s.ada.lastSeg = some start →
          (s.segCfg q.segment).tIndexMin ≤ (s.clock - start).toNat))
  ∧ (∀ (s : State) (l : List AdaRequest) (q : AdaRequest), s.scanQueue l = some q ↔
      ∃ before after, l = before ++ q :: after ∧ s.admissible q = true
        ∧ ∀ p ∈ before, s.admissible p = false ∧ p.cls = .normal)
  ∧ (∀ s : State,
    let x : State := { s with ada := { s.ada.update s.cfg.line s.clock with
      h := s.ada.h.filter fun start => (s.clock - start).toNat < s.cfg.line.tWindow } }
    (x.scanQueue x.ada.queue = none → s.adaEvaluate = x.adaSettle
      ∧ s.adaEvaluate = { x with ada := { x.ada with
          queue := x.ada.queue.map fun q =>
            { q with earliest := (x.admissionWait q).map fun ms => s.clock + BitVec.ofNat 32 ms },
          evalTimer := (leastWait ((considered x.ada.queue).map x.admissionWait)).map fun ms =>
            { start := s.clock, limit := ms } } })
    ∧ ∀ q, x.scanQueue x.ada.queue = some q →
      let v := (x.adaAdmit q).adaEvaluate
      s.adaEvaluate = if s.cfg.line.tStagger = 0 then { v with ada := { v.ada with lastAny := none } } else v)
  ∧ (∀ (s : State) (q : AdaRequest), s.admissible q = true →
    (s.adaAdmit q).ada = { s.ada with
        r := s.ada.r - q.demand, h := s.ada.h ++ [s.clock], lastAny := some s.clock,
        lastSeg := tableInsert q.segment s.clock s.ada.lastSeg,
        queue := s.ada.queue.filter fun p => p.segment ≠ q.segment }
      ∧ s.cfg.line.f ≤ (s.adaAdmit q).ada.r
      ∧ (q.segment ∈ s.segNumbers → ((s.adaAdmit q).seg q.segment).state = .lift))
  ∧ ∀ s : State, (s.adaEvaluate).scanQueue (s.adaEvaluate).ada.queue = none

/-- A segment and its drive. A good reply hands the drive's report to SC; in HALT it is only stored (R95). Otherwise it
moves the segment through LIFT, ADVANCE and LOWER: the moving report is noted, start and HELD reports are only stored,
the completion report brings the next phase once the command has been delivered, and any other faults the segment
(R81, R82). LOWERED completes the index: the nests shift by one, the segment is CERTAIN and in WORK with its bar
RETURNING, its permit is cleared, the pallets that moved are counted, S1's tag check opens, and INDEX_DONE is posted
last (R19, R27, R39, R86, R93); its open index ends, and none follows while no request of the segment stands in the
admission queue, where MapSound leaves none in LOWER. Outside motion AT_REST ends RETURNING and, with a clear pending, the clear (R87,
R92). Delivered commands start their phase timer (R81), FEEDHOLD pauses and RESUME restarts it (R84, R85), and the
owed command goes next: RESUME, the phase command without a hold, RELEASE_ALL (R72), which goes also under a hold by
the model's reading, not the spec's words (log entry 17). Refused ones fault the segment, or end the clear (R90, R92). A fault ends timers, hold and what is owed but RELEASE_ALL; a READY segment cancels the
room it awaits or releases the room it holds, and a QUEUED one withdraws its request, which ADA evaluates after, and
releases its room (R79, R111, R116); in motion it takes the permit
and lowers certainty by the last motion report, to UNCERTAIN for DRIVE_STATE, and FEEDHOLD replaces a pending motion
command but at HALT (R89). -/
def Obligations.DriveReportsMoveTheSegment : Prop :=
  (∀ (t : LineTime) (chars : List BusChar) (a k : Nat) (nd : Node) (e : Echo) (p : DrivePhase) (s : State),
    s.hears chars a nd e (.drive p) → nd.role = .drive k →
    exec (.nodeReply t chars) s = .next ((s.beforeReport t a nd e (.drive p)).driveReport k p).closeEvent)
  ∧ (∀ (s : State) (k : Nat) (p : DrivePhase), s.lsv.lineState = .halt →
    s.driveReport k p = s.modSeg k fun g => { g with report := some p })
  ∧ (∀ (s : State) (k : Nat), s.lsv.lineState ≠ .halt →
    let got := fun (p : DrivePhase) => s.modSeg k fun g => { g with report := some p }
    let phase := fun (from' : SegState) (code : CmdCode) (start moving completion : DrivePhase) =>
      (s.seg k).state = from' →
      s.driveReport k moving = (got moving).modSeg k (fun g => { g with motion := moving })
      ∧ s.driveReport k start = got start
      ∧ s.driveReport k .held = got .held
      ∧ (s.driveDone k code = false →
        s.driveReport k completion = (got completion).scFault k .driveState)
      ∧ s.driveReport k .fault = (got .fault).scFault k .driveFault
      ∧ (∀ p, p ≠ moving → p ≠ start → p ≠ completion → p ≠ .held → p ≠ .fault →
        s.driveReport k p = (got p).scFault k .driveState)
    let moves := fun (from' : SegState) (code next : CmdCode) (completion : DrivePhase)
        (after : SegState) => (s.seg k).state = from' → s.driveDone k code = true →
      s.driveReport k completion =
        (((got completion).modSeg k fun g => { g with phase := .stopped, motion := completion }).modSeg k
          fun g => { g with state := after }).needDrive k next
    phase .lift .lift .atRest .lifting .lifted
    ∧ moves .lift .lift .advance .lifted .advance
    ∧ phase .advance .advance .lifted .advancing .advanced
    ∧ moves .advance .advance .lower .advanced .lower
    ∧ phase .lower .lower .advanced .lowering .lowered
    ∧ ((s.seg k).state = .lower → s.driveDone k .lower = true → ∀ oi, (s.segMap k).openIndex = some oi →
      let u := s.driveReport k .lowered
      let moved := (oi.entry :: (s.nests k).dropLast).filterMap (fun o => o) ++ oi.exit.toList
      (u.seg k).state = .work ∧ (u.seg k).bar = .returning ∧ u.permit k = false
      ∧ u.nests k = oi.entry :: (s.nests k).dropLast ∧ u.certain k = true
      ∧ (k ∉ s.ada.queue.map (·.segment) → (u.segMap k).openIndex = none)
      ∧ (∀ j, j ≠ k → u.nests j = s.nests j)
      ∧ u.trk.lists = ((s.exitJoins k oi).entryLeaves k oi).trk.lists
      ∧ (k = 1 → u.trk.tag.isOpen = true ∧ (u.seg 1).trackHold = true)
      ∧ u.clp.events.getLast? = some
          { kind := .indexDone, time := s.clock, subject := { kind := .segment, number := k },
            pallet := oi.entry, detail := .index (s.seg k).indexNumber }
      ∧ (∀ id p, s.pallet id = some p → ∃ p', u.pallet id = some p'
        ∧ p'.indexCount = (if id ∈ moved then min 65535 (p.indexCount + moved.count id)
            else p.indexCount)
        ∧ p'.laps = (if k = 1 ∧ oi.entry = some id then min 255 (p.laps + 1) else p.laps))
      ∧ s.fixed = u.fixed)
    ∧ ((s.seg k).state ≠ .fault → (s.seg k).state.inMotion = false →
      s.driveReport k .fault = (got .fault).scFault k .driveFault
      ∧ s.driveReport k .held = got .held
      ∧ ((s.seg k).bar = .returning →
        s.driveReport k .lowered = got .lowered ∧ s.driveReport k .returning = got .returning
        ∧ s.driveReport k .atRest = (if s.driveDone k .ret then
            ((got .atRest).modSeg k fun g => { g with phase := .stopped, bar := .atRest }).scMaybeReady k
          else got .atRest))
      ∧ ((s.seg k).bar = .atRest → s.driveReport k .atRest = got .atRest)
      ∧ ∀ p, p ≠ .fault → p ≠ .held → p ≠ .atRest →
        ((s.seg k).bar = .atRest ∨ (p ≠ .lowered ∧ p ≠ .returning)) →
        s.driveReport k p = (got p).scFault k .driveState)
    ∧ ((s.seg k).state = .fault → ∀ p, s.driveReport k p =
      if (s.seg k).clear.isSome ∧ s.drivePending k ≠ some .resetFault ∧ p = .atRest then
        ((got p).modSeg k fun g => { g with
          state := if s.lsv.lineState = .run ∨ s.lsv.lineState = .stopping then .work else .off,
          clear := none, cause := none, bar := .atRest, motion := .atRest }).scMaybeReady k
      else got p))
  ∧ (∀ (s : State) (k : Nat),
    let g := s.seg k
    let started := fun (limit : Nat) => (if g.state = .fault then s else s.modSeg k fun g =>
      { g with phase := .running { start := s.clock, limit := limit } }).postOwed k
    let done := fun (c : CmdCode) => s.ownerDelivered (.drive k) c
    let refused := fun (c : CmdCode) => s.ownerRefused (.drive k) c
    done .lift = started (s.segCfg k).tLiftMax ∧ done .advance = started (s.segCfg k).tAdvanceMax
    ∧ done .lower = started (s.segCfg k).tLowerMax ∧ done .ret = started (s.segCfg k).tReturnMax
    ∧ (g.hold = .holding → done .feedhold =
      (let y := s.modSeg k fun g => { g with hold := .held, phase := match g.phase with
          | .running tm => .paused (tm.limit - (s.clock - tm.start).toNat)
          | other => other }
       if g.resumeWanted then
         (y.modSeg k fun g => { g with hold := .resuming, resumeWanted := false }).needDrive k .resume
       else y).postOwed k)
    ∧ (g.hold = .resuming → done .resume = (s.modSeg k fun g => { g with hold := .none, phase := match g.phase with
          | .paused left => .running { start := s.clock, limit := left }
          | other => other }).postOwed k)
    ∧ done .releaseAll = (s.commonDelivered k).postOwed k ∧ done .resetFault = s.postOwed k
    ∧ (∀ c, c = .lift ∨ c = .advance ∨ c = .lower ∨ c = .ret ∨ c = .feedhold ∨ c = .resume →
      refused c = (if g.state = .fault then s else s.scFault k .refused).postOwed k)
    ∧ refused .releaseAll = (s.commonRefused k).postOwed k
    ∧ (g.clear.isSome = true → refused .resetFault = ({ (s.modSeg k fun g => { g with clear := none }) with
        clp := s.clp.postEvent
          { kind := .motionFault, time := s.clock, subject := { kind := .segment, number := k },
            pallet := none, detail := .motion .refused (s.segMap k).certainty g.indexNumber } } : State).postOwed k)
    ∧ (s.drivePending k ≠ none ∨ s.lsv.lineState = .halt → s.postOwed k = s)
    ∧ (s.drivePending k = none → s.lsv.lineState ≠ .halt →
      let post := fun (c : CmdCode) => (s.modSeg k fun g =>
        { g with owed := g.owed.set c false }).postCmd (s.segCfg k).nodeDrive c []
      (g.owed.resume = true → s.postOwed k = post .resume)
      ∧ (g.owed.resume = false →
        (∀ c, g.hold = .none → g.owed.phase = some c → s.postOwed k = post c)
        ∧ (g.hold ≠ .none ∨ g.owed.phase = none →
          s.postOwed k = if g.owed.releaseAll then post .releaseAll else s)))
    ∧ ∀ c, s.needDrive k c = (if s.drivePending k ≠ none ∨ (c.isPhase = true ∧ g.hold ≠ .none) then
        s.modSeg k fun g => { g with owed := g.owed.set c true }
      else s.postCmd (s.segCfg k).nodeDrive c []))
  ∧ ∀ (s : State) (k : Nat) (cause : SegCause),
    let g := s.seg k
    let inFault := fun (y : State) => y.modSeg k fun g =>
      { g with state := .fault, cause := some cause, phase := .stopped, feedWait := none,
               hold := .none, resumeWanted := false,
               owed := { lift := false, advance := false, lower := false, ret := false,
                         resume := false, releaseAll := g.owed.releaseAll } }
    let fell : Certainty :=
      if cause ≠ .driveState ∧ (g.motion = .atRest ∨ g.motion = .lifting ∨ g.motion = .lifted) then .beforeKnown
      else .uncertain
    let stopped := fun (y : State) =>
      if cause ≠ .estop ∧ ∃ c, y.drivePending k = some c
          ∧ (c = .lift ∨ c = .advance ∨ c = .lower ∨ c = .ret ∨ c = .resume) then
        y.postCmd (s.segCfg k).nodeDrive .feedhold []
      else y
    let faultEvent := fun (y : State) => y.post .motionFault { kind := .segment, number := k } none
      (.motion cause (y.segMap k).certainty g.indexNumber)
    let released := fun (c : ConvId) (y : State) => (y.modConv c fun v =>
      { v with reservations := v.reservations.filter fun r => r.holder ≠ .segment k }).grantPass c
    (g.room = .none → g.state = .lift ∨ g.state = .advance ∨ g.state = .lower →
      s.scFault k cause = stopped (faultEvent (inFault ((s.modSegMap k fun m =>
        { m with certainty := m.certainty.lower fell }).setPermit k false))))
    ∧ (g.room = .none → g.state = .off ∨ g.state = .work ∨ g.state = .ready →
      s.scFault k cause = stopped (faultEvent (inFault s)))
    ∧ (g.state = .ready → ∀ c,
      let y := (inFault s).modSeg k fun g => { g with room := .none }
      (g.room = .requested c → s.scFault k cause = stopped (faultEvent (y.modConv c fun v =>
        { v with requests := v.requests.erase (.segment k) })))
      ∧ (g.room = .held c → s.scFault k cause = stopped (faultEvent (released c y))))
    ∧ (g.state = .queued →
      let z := (inFault s).modSeg k fun g => { g with queued := none, room := .none }
      let y := ({ z with ada := { z.ada with
        queue := z.ada.queue.filter fun q => q.segment ≠ k } } : State).adaEvaluate
      ((∀ c, g.room ≠ .held c) → s.scFault k cause = stopped (faultEvent y))
      ∧ ∀ c, g.room = .held c → s.scFault k cause = stopped (faultEvent (released c y)))
    ∧ (g.state = .fault → s.scFault k cause = if (s.segMap k).openIndex.isSome then
        s.modSegMap k fun m => { m with certainty := m.certainty.lower fell }
      else s)

/-- The Route Unit. At an index completion the pallets' arrival notices go in ascending nest order, but for S1's N1,
which the tag check holds (R28, R39), and each gives the station on its nest one job (R130). A MACHINE station passes
a pallet without a workpiece, a variant outside its MASK, an operation done, and a rejected workpiece with
SKIP_REJECTS; it misses at a SKIPPED station, and otherwise works (R131). LOAD passes a workpiece, marking its
hold-over, a QUARANTINED pallet, and one overdue, with VERIFY_OVERDUE, and else works (R132). UNLOAD works with the
verdict: REJECT for a defect or more-defects, else REWORK for a missed operation, else GOOD (R133). A WORK job clamps
a RELEASED station, and at one in FAULT, LOCKOUT or SKIPPED is missed (R49). Completions load and unload (R134,
R135). The divert choice is VS only for laps at V_LAPS, no workpiece and room on VS; a due pallet sent to RC is marked
overdue, with VERIFY_POSTPONED once a stay (R137, R138). The check of the VS head is WAITING, POSTED with CHECK, RUNNING
at its delivery, and PASSED or BLOCKED by the first result; a refused CHECK lets the pallet go, overdue (R139 to R143). A stale CHECK delivered only ends the stale command; that no
WAITING check starts in that event, as at one refused, is the model's reading of R143, not the spec's words, since R139
lists the outcome of a stale command among the tests (log entry 21). -/
def Obligations.RouteDecisionsFollowTheirTables : Prop :=
  (∀ (l : LineRecord) (n : Nat) (r : StationRecord) (st : StationState) (id : Nat) (p : Pallet),
    (p.workpiece = none → machineOrder l n r st id p = .pass)
    ∧ ∀ w, p.workpiece = some w →
      (r.mask.getLsbD p.variant.code = false ∨ n ∈ w.opsDone
          ∨ ((w.defects ≠ [] ∨ w.moreDefects = true) ∧ l.skipRejects = true) →
        machineOrder l n r st id p = .pass)
      ∧ (r.mask.getLsbD p.variant.code = true → n ∉ w.opsDone →
        ((w.defects = [] ∧ w.moreDefects = false) ∨ l.skipRejects = false) →
        (st = .skipped → machineOrder l n r st id p = .miss id)
        ∧ (st ≠ .skipped → machineOrder l n r st id p =
          .work { kind := .machine, pallet := id, variant := p.variant, disposition := none })))
  ∧ (∀ w : Workpiece,
    (dispositionOf w = .reject ↔ w.defects ≠ [] ∨ w.moreDefects = true)
    ∧ (dispositionOf w = .rework ↔
      (w.defects = [] ∧ w.moreDefects = false) ∧ w.opsMissed ≠ [])
    ∧ (dispositionOf w = .good ↔
      (w.defects = [] ∧ w.moreDefects = false) ∧ w.opsMissed = []))
  ∧ (∀ (s : State) (id : Nat) (p : Pallet), s.pallet id = some p →
    (s.divertDest id = .vs ↔ s.cfg.line.vLaps ≤ p.laps ∧ p.workpiece = none
      ∧ (s.conv .vs).state = .flowing
      ∧ (s.list .vs).length + (s.conv .vs).reservations.length < s.cfg.line.capVs)
    ∧ (s.divertDest id = .vs ∨ s.divertDest id = .rc)
    ∧ (let postponed := s.modPallet id fun p => { p with overdue := true }
       let chosen : State := if s.cfg.line.vLaps ≤ p.laps ∧ s.divertDest id = .rc then
           if s.rtu.note = some id then postponed
           else { postponed.post .verifyPostponed { kind := .segment, number := s.nseg } (some id) (.laps p.laps) with
             rtu := { s.rtu with note := some id } }
         else s
       s.seekRoom s.nseg id = (chosen.modSeg s.nseg fun g =>
         { g with room := .requested (s.divertDest id) }).requestRoom (s.divertDest id) (.segment s.nseg)))
  ∧ (∀ (s : State) (k : Nat) (oi : OpenIndex), (s.segMap k).openIndex = some oi →
    let shifted := s.shift k oi
    let nests := oi.entry :: (s.nests k).dropLast
    let opening : TagOpening := { occupant := oi.entry, image := s.trk.readerImage, openedAt := s.clock,
                                  noticeHeld := oi.entry.isSome }
    (k ≠ 1 → k ∈ s.trk.segs.map (·.1) → s.trkComplete k =
      (standing (numberFrom 1 nests)).foldl (fun x p => x.arrival k p.1 p.2) shifted)
    ∧ (k = 1 → k ∈ s.trk.segs.map (·.1) → s.trkComplete k =
      ((standing (numberFrom 1 nests)).filter fun p => p.1 ≠ 1).foldl (fun x p => x.arrival 1 p.1 p.2)
        (({ shifted with trk := { shifted.trk with tag := .opened opening } } : State).modSeg 1 fun g =>
          { g with trackHold := true })))
  ∧ (∀ (s : State) (k j id n : Nat) (r : StationRecord) (p : Pallet),
    s.pallet id = some p →
    (stationAt k j s.cfg.stations = none → s.arrival k j id = s)
    ∧ (stationAt k j s.cfg.stations = some (n, r) →
      let work := fun (kind : JobKind) (d : Option Disposition) =>
        JobOrder.work { kind := kind, pallet := id, variant := p.variant, disposition := d }
      (r.kind = .machine →
        s.arrival k j id = s.sqsJob n (machineOrder s.cfg.line n r (s.station n).state id p))
      ∧ (r.kind = .unload → s.arrival k j id = match p.workpiece with
        | none => s
        | some w => s.sqsJob n (work .unload (some (dispositionOf w))))
      ∧ (r.kind = .load → s.arrival k j id =
        if p.workpiece.isSome then s.modPallet id fun p =>
          { p with workpiece := p.workpiece.map fun w => { w with holdOver := true } }
        else if p.service = .quarantined then s
        else if s.cfg.line.vLaps + s.cfg.line.vGrace ≤ p.laps then
          s.post .verifyOverdue { kind := .station, number := n } (some id) (.laps p.laps)
        else s.sqsJob n (work .load none))))
  ∧ (∀ (s : State) (n id : Nat) (r : StationRecord) (j : Job), s.stationCfg n = some r →
    s.sqsJob n .pass = s
    ∧ s.sqsJob n (.miss id) = s.trkOpMissed n id
    ∧ ((s.station n).state = .released → s.sqsJob n (.work j) =
      ((s.modStation n fun g =>
        { g with state := .clamping, job := some j, outcomeGiven := false, startTime := none,
                 timer := some { purpose := .clamp,
                                 timer := { start := s.clock, limit := r.tClampMax } } }).postCmd
        r.node .clamp []).sqsAfter r.segment)
    ∧ ((s.station n).state = .lockout ∨ (s.station n).state = .fault ∨ (s.station n).state = .skipped →
      s.sqsJob n (.work j) = if j.kind = .machine then s.trkOpMissed n j.pallet else s))
  ∧ (∀ (s : State) (n id : Nat) (p : Pallet) (d : Disposition), s.pallet id = some p →
    let workpiece : Workpiece := { serial := s.rtu.serial, opsDone := [], opsMissed := [], defects := [],
                                   moreDefects := false, holdOver := false }
    (p.workpiece = none →
      let y := s.modPallet id fun p => { p with workpiece := some workpiece }
      s.loadDone id =
        { y with rtu := { s.rtu with serial := if s.rtu.serial = 65535 then 1 else s.rtu.serial + 1 } })
    ∧ ∀ w, p.workpiece = some w →
      s.unloadDone n id d = ((s.post .workpieceOut { kind := .station, number := n } (some id)
        (.workpiece w.serial d w.defects.length w.moreDefects)).modPallet id fun p => { p with workpiece := none }))
  ∧ (∀ (t : LineTime) (chars : List BusChar) (a : Nat) (nd : Node) (e : Echo) (st : VerifyState) (seq : Nat)
      (s : State), s.hears chars a nd e (.verify st seq) → nd.role = .verify →
    exec (.nodeReply t chars) s =
      .next ((s.beforeReport t a nd e (.verify st seq)).verifyReport st seq).closeEvent)
  ∧ ∀ (s : State) (code : CmdCode) (st : VerifyState) (seq : Nat),
    let rtu := fun (f : Rtu → Rtu) => ({ s with rtu := f s.rtu } : State)
    let result := fun (y : State) (id : Nat) (v : VerifyResult) =>
      y.post .verifyResult { kind := .verify, number := 0 } (some id) (.verify v)
    let passes := fun (y : State) =>
      ({ y with rtu := { y.rtu with check := .passed } } : State).requestRoom .rc .spur
    (s.arrivedHead .vs = none → s.vsHeadNotice = rtu fun r => { r with check := .idle, checkPallet := none })
    ∧ (∀ id, s.arrivedHead .vs = some id →
      (s.rtu.checkPallet = some id → s.vsHeadNotice = s)
      ∧ (s.rtu.checkPallet ≠ some id → ∀ p, s.pallet id = some p →
        s.vsHeadNotice = if p.service = .quarantined then
            (rtu fun r => { r with check := .blocked, checkPallet := some id }).post .palletQuarantined
              { kind := .verify, number := 0 } (some id) .none
          else (rtu fun r => { r with check := .waiting, checkPallet := some id }).tryCheck))
    ∧ (s.rtu.check ≠ .waiting → s.tryCheck = s)
    ∧ (∀ id p, s.rtu.check = .waiting → s.rtu.checkPallet = some id → s.pallet id = some p →
      s.tryCheck = if (s.lsv.lineState = .run ∨ s.lsv.lineState = LineState.stopping) ∧ s.rtu.stale = false
          ∧ s.rtu.node = .online ∧ s.rtu.report.map (·.1) ≠ some VerifyState.checking then
          (rtu fun r => { r with check := .posted }).postCmd s.cfg.line.nodeVerify .check
            [byteOf id, byteOf p.variant.code]
        else s)
    ∧ (s.rtu.stale = false → s.rtu.check = .posted → ∀ id, s.rtu.checkPallet = some id →
      s.ownerDelivered .verify code = (rtu fun r => { r with check := .running, image := r.report.map (·.2) })
      ∧ s.ownerRefused .verify code =
        passes (result (s.modPallet id fun p => { p with overdue := true }) id .refused))
    ∧ (s.rtu.stale = true → s.ownerDelivered .verify code = (rtu fun r => { r with stale := false })
      ∧ s.ownerRefused .verify code = (rtu fun r => { r with stale := false }).tryCheck)
    ∧ (s.rtu.check ≠ .running → s.verifyReport st seq =
      (rtu fun r => { r with report := some (st, seq), image := some seq }).tryCheck)
    ∧ (s.rtu.check = .running →
      (s.rtu.image = some seq ∨ st = .idle ∨ st = .checking →
        s.verifyReport st seq = rtu fun r => { r with report := some (st, seq) })
      ∧ (s.rtu.image ≠ some seq → ∀ id, s.rtu.checkPallet = some id →
        let y := rtu fun r => { r with report := some (st, seq), image := some seq }
        (st = .pass → s.verifyReport st seq =
          passes (result (y.modPallet id fun p => { p with laps := 0, overdue := false }) id .pass))
        ∧ (st = .fail → s.verifyReport st seq =
          let z := (result (y.modPallet id fun p => { p with service := .quarantined }) id .fail).post
            .palletQuarantined { kind := .verify, number := 0 } (some id) .none
          { z with rtu := { z.rtu with check := .blocked } })))

/-- Every step keeps the map sound. Placements follow it: each pallet record's placement is the place the map gives
its pallet (R18), also under a PALLET DEFINE, since a pallet that stands in the map has a record. And with the shape,
the queues and the placements, every step keeps what counts on the map: a pallet stands in at most one place, and
only with a record (R22); a segment has an open index exactly while it is in motion or in FAULT and not CERTAIN, with
its exit pallet, its entry pallet at the upstream head, and a CARRIED reservation at its destination (R25, R26);
entries and reservations of a conveyor stay within its capacity (R115), each reservation and request is one its
holder has (R116, R117), and the expected arrivals are the IN_TRANSIT entries (R118); the admission queue holds the
QUEUED segments, each once (R78, R106); and a PASSED check has its SPUR request or reservation (R141). -/
def Obligations.PlacementsFollowTheMap : Prop :=
  (∀ (c : Instr) (s u : State), s.shaped → s.placementsAgree → s.linkReady → carriesFrames c = false →
    (∀ t tag id v, c = .palletDefine t tag id v → s.findPallet id.toNat = none) →
    exec c s = .next u → u.placementsAgree)
  ∧ (∀ s u : State, s.shaped → s.QueuesWithin → s.placementsAgree →
    (∀ id ∈ s.trk.standing, id ∈ s.trk.pallets.map (·.1)) → step s = .next u → u.placementsAgree)
  ∧ ∀ s u : State, s.shaped → s.QueuesWithin → s.placementsAgree → s.MapSound →
    step s = .next u → u.MapSound
end

