-- ==== Sys2Proof/Laws/State.lean ====
section
/-! SUPPORT. One lemma for each field of the state and each update: true by rfl, so that no later proof
unfolds a record update. -/

namespace Sys2Proof.Machine

section
variable (s : State) (t : LineTime)

@[simp] theorem State.at_clock : (s.at t).clock = t := rfl
@[simp] theorem State.at_estopHeld :
    (s.at t).estopHeld = min Config.estopFilter (s.estopHeld + elapsed s.clock t) := rfl
@[simp] theorem State.at_clp : (s.at t).clp = s.clp := rfl
@[simp] theorem State.at_lsv : (s.at t).lsv = s.lsv := rfl
@[simp] theorem State.at_cfg : (s.at t).cfg = s.cfg := rfl
@[simp] theorem State.at_trk : (s.at t).trk = s.trk := rfl
@[simp] theorem State.at_rtu : (s.at t).rtu = s.rtu := rfl
@[simp] theorem State.at_sqs : (s.at t).sqs = s.sqs := rfl
@[simp] theorem State.at_sc : (s.at t).sc = s.sc := rfl
@[simp] theorem State.at_ada : (s.at t).ada = s.ada := rfl
@[simp] theorem State.at_cvt : (s.at t).cvt = s.cvt := rfl
@[simp] theorem State.at_sbm : (s.at t).sbm = s.sbm := rfl
@[simp] theorem State.at_pending : (s.at t).pending = s.pending := rfl
@[simp] theorem State.at_at : (s.at t).at t = s.at t := by
  simp [State.at, elapsed]

end

section
variable (s : State) (k : Nat) (f : Segment → Segment)

@[simp] theorem State.modSeg_clock : (s.modSeg k f).clock = s.clock := rfl
@[simp] theorem State.modSeg_estopHeld : (s.modSeg k f).estopHeld = s.estopHeld := rfl
@[simp] theorem State.modSeg_clp : (s.modSeg k f).clp = s.clp := rfl
@[simp] theorem State.modSeg_lsv : (s.modSeg k f).lsv = s.lsv := rfl
@[simp] theorem State.modSeg_cfg : (s.modSeg k f).cfg = s.cfg := rfl
@[simp] theorem State.modSeg_trk : (s.modSeg k f).trk = s.trk := rfl
@[simp] theorem State.modSeg_rtu : (s.modSeg k f).rtu = s.rtu := rfl
@[simp] theorem State.modSeg_sqs : (s.modSeg k f).sqs = s.sqs := rfl
@[simp] theorem State.modSeg_sc : (s.modSeg k f).sc = tableModify k f s.sc := rfl
@[simp] theorem State.modSeg_ada : (s.modSeg k f).ada = s.ada := rfl
@[simp] theorem State.modSeg_cvt : (s.modSeg k f).cvt = s.cvt := rfl
@[simp] theorem State.modSeg_sbm : (s.modSeg k f).sbm = s.sbm := rfl
@[simp] theorem State.modSeg_pending : (s.modSeg k f).pending = s.pending := rfl

end

section
variable (s : State) (n : Nat) (f : Station → Station)

@[simp] theorem State.modStation_clock : (s.modStation n f).clock = s.clock := rfl
@[simp] theorem State.modStation_estopHeld : (s.modStation n f).estopHeld = s.estopHeld := rfl
@[simp] theorem State.modStation_clp : (s.modStation n f).clp = s.clp := rfl
@[simp] theorem State.modStation_lsv : (s.modStation n f).lsv = s.lsv := rfl
@[simp] theorem State.modStation_cfg : (s.modStation n f).cfg = s.cfg := rfl
@[simp] theorem State.modStation_trk : (s.modStation n f).trk = s.trk := rfl
@[simp] theorem State.modStation_rtu : (s.modStation n f).rtu = s.rtu := rfl
@[simp] theorem State.modStation_sqs :
    (s.modStation n f).sqs =
      { s.sqs with stations := tableModify n f s.sqs.stations } := rfl
@[simp] theorem State.modStation_sc : (s.modStation n f).sc = s.sc := rfl
@[simp] theorem State.modStation_ada : (s.modStation n f).ada = s.ada := rfl
@[simp] theorem State.modStation_cvt : (s.modStation n f).cvt = s.cvt := rfl
@[simp] theorem State.modStation_sbm : (s.modStation n f).sbm = s.sbm := rfl
@[simp] theorem State.modStation_pending : (s.modStation n f).pending = s.pending := rfl

end

section
variable (s : State) (k : Nat) (c : CommonState)

@[simp] theorem State.setCommon_clock : (s.setCommon k c).clock = s.clock := rfl
@[simp] theorem State.setCommon_estopHeld : (s.setCommon k c).estopHeld = s.estopHeld := rfl
@[simp] theorem State.setCommon_clp : (s.setCommon k c).clp = s.clp := rfl
@[simp] theorem State.setCommon_lsv : (s.setCommon k c).lsv = s.lsv := rfl
@[simp] theorem State.setCommon_cfg : (s.setCommon k c).cfg = s.cfg := rfl
@[simp] theorem State.setCommon_trk : (s.setCommon k c).trk = s.trk := rfl
@[simp] theorem State.setCommon_rtu : (s.setCommon k c).rtu = s.rtu := rfl
@[simp] theorem State.setCommon_sqs :
    (s.setCommon k c).sqs =
      { s.sqs with common := tableModify k (fun _ => c) s.sqs.common } := rfl
@[simp] theorem State.setCommon_sc : (s.setCommon k c).sc = s.sc := rfl
@[simp] theorem State.setCommon_ada : (s.setCommon k c).ada = s.ada := rfl
@[simp] theorem State.setCommon_cvt : (s.setCommon k c).cvt = s.cvt := rfl
@[simp] theorem State.setCommon_sbm : (s.setCommon k c).sbm = s.sbm := rfl
@[simp] theorem State.setCommon_pending : (s.setCommon k c).pending = s.pending := rfl

end

section
variable (s : State) (c : ConvId) (f : Conveyor → Conveyor)

@[simp] theorem State.modConv_clock : (s.modConv c f).clock = s.clock := rfl
@[simp] theorem State.modConv_estopHeld : (s.modConv c f).estopHeld = s.estopHeld := rfl
@[simp] theorem State.modConv_clp : (s.modConv c f).clp = s.clp := rfl
@[simp] theorem State.modConv_lsv : (s.modConv c f).lsv = s.lsv := rfl
@[simp] theorem State.modConv_cfg : (s.modConv c f).cfg = s.cfg := rfl
@[simp] theorem State.modConv_trk : (s.modConv c f).trk = s.trk := rfl
@[simp] theorem State.modConv_rtu : (s.modConv c f).rtu = s.rtu := rfl
@[simp] theorem State.modConv_sqs : (s.modConv c f).sqs = s.sqs := rfl
@[simp] theorem State.modConv_sc : (s.modConv c f).sc = s.sc := rfl
@[simp] theorem State.modConv_ada : (s.modConv c f).ada = s.ada := rfl
@[simp] theorem State.modConv_cvt :
    (s.modConv c f).cvt =
      { s.cvt with convs := tableModify c f s.cvt.convs } := rfl
@[simp] theorem State.modConv_sbm : (s.modConv c f).sbm = s.sbm := rfl
@[simp] theorem State.modConv_pending : (s.modConv c f).pending = s.pending := rfl

end

section
variable (s : State) (a : Nat) (f : Node → Node)

@[simp] theorem State.modNode_clock : (s.modNode a f).clock = s.clock := rfl
@[simp] theorem State.modNode_estopHeld : (s.modNode a f).estopHeld = s.estopHeld := rfl
@[simp] theorem State.modNode_clp : (s.modNode a f).clp = s.clp := rfl
@[simp] theorem State.modNode_lsv : (s.modNode a f).lsv = s.lsv := rfl
@[simp] theorem State.modNode_cfg : (s.modNode a f).cfg = s.cfg := rfl
@[simp] theorem State.modNode_trk : (s.modNode a f).trk = s.trk := rfl
@[simp] theorem State.modNode_rtu : (s.modNode a f).rtu = s.rtu := rfl
@[simp] theorem State.modNode_sqs : (s.modNode a f).sqs = s.sqs := rfl
@[simp] theorem State.modNode_sc : (s.modNode a f).sc = s.sc := rfl
@[simp] theorem State.modNode_ada : (s.modNode a f).ada = s.ada := rfl
@[simp] theorem State.modNode_cvt : (s.modNode a f).cvt = s.cvt := rfl
@[simp] theorem State.modNode_sbm :
    (s.modNode a f).sbm =
      { s.sbm with nodes := tableModify a f s.sbm.nodes } := rfl
@[simp] theorem State.modNode_pending : (s.modNode a f).pending = s.pending := rfl

end

section
variable (s : State) (id : Nat) (f : Pallet → Pallet)

@[simp] theorem State.modPallet_clock : (s.modPallet id f).clock = s.clock := rfl
@[simp] theorem State.modPallet_estopHeld : (s.modPallet id f).estopHeld = s.estopHeld := rfl
@[simp] theorem State.modPallet_clp : (s.modPallet id f).clp = s.clp := rfl
@[simp] theorem State.modPallet_lsv : (s.modPallet id f).lsv = s.lsv := rfl
@[simp] theorem State.modPallet_cfg : (s.modPallet id f).cfg = s.cfg := rfl
@[simp] theorem State.modPallet_trk :
    (s.modPallet id f).trk =
      { s.trk with pallets := tableModify id f s.trk.pallets } := rfl
@[simp] theorem State.modPallet_rtu : (s.modPallet id f).rtu = s.rtu := rfl
@[simp] theorem State.modPallet_sqs : (s.modPallet id f).sqs = s.sqs := rfl
@[simp] theorem State.modPallet_sc : (s.modPallet id f).sc = s.sc := rfl
@[simp] theorem State.modPallet_ada : (s.modPallet id f).ada = s.ada := rfl
@[simp] theorem State.modPallet_cvt : (s.modPallet id f).cvt = s.cvt := rfl
@[simp] theorem State.modPallet_sbm : (s.modPallet id f).sbm = s.sbm := rfl
@[simp] theorem State.modPallet_pending : (s.modPallet id f).pending = s.pending := rfl

end

section
variable (s : State) (f : Ada → Ada)

@[simp] theorem State.modAda_clock : (s.modAda f).clock = s.clock := rfl
@[simp] theorem State.modAda_estopHeld : (s.modAda f).estopHeld = s.estopHeld := rfl
@[simp] theorem State.modAda_clp : (s.modAda f).clp = s.clp := rfl
@[simp] theorem State.modAda_lsv : (s.modAda f).lsv = s.lsv := rfl
@[simp] theorem State.modAda_cfg : (s.modAda f).cfg = s.cfg := rfl
@[simp] theorem State.modAda_trk : (s.modAda f).trk = s.trk := rfl
@[simp] theorem State.modAda_rtu : (s.modAda f).rtu = s.rtu := rfl
@[simp] theorem State.modAda_sqs : (s.modAda f).sqs = s.sqs := rfl
@[simp] theorem State.modAda_sc : (s.modAda f).sc = s.sc := rfl
@[simp] theorem State.modAda_ada : (s.modAda f).ada = f s.ada := rfl
@[simp] theorem State.modAda_cvt : (s.modAda f).cvt = s.cvt := rfl
@[simp] theorem State.modAda_sbm : (s.modAda f).sbm = s.sbm := rfl
@[simp] theorem State.modAda_pending : (s.modAda f).pending = s.pending := rfl

end

section
variable (s : State) (f : Rtu → Rtu)

@[simp] theorem State.modRtu_clock : (s.modRtu f).clock = s.clock := rfl
@[simp] theorem State.modRtu_estopHeld : (s.modRtu f).estopHeld = s.estopHeld := rfl
@[simp] theorem State.modRtu_clp : (s.modRtu f).clp = s.clp := rfl
@[simp] theorem State.modRtu_lsv : (s.modRtu f).lsv = s.lsv := rfl
@[simp] theorem State.modRtu_cfg : (s.modRtu f).cfg = s.cfg := rfl
@[simp] theorem State.modRtu_trk : (s.modRtu f).trk = s.trk := rfl
@[simp] theorem State.modRtu_rtu : (s.modRtu f).rtu = f s.rtu := rfl
@[simp] theorem State.modRtu_sqs : (s.modRtu f).sqs = s.sqs := rfl
@[simp] theorem State.modRtu_sc : (s.modRtu f).sc = s.sc := rfl
@[simp] theorem State.modRtu_ada : (s.modRtu f).ada = s.ada := rfl
@[simp] theorem State.modRtu_cvt : (s.modRtu f).cvt = s.cvt := rfl
@[simp] theorem State.modRtu_sbm : (s.modRtu f).sbm = s.sbm := rfl
@[simp] theorem State.modRtu_pending : (s.modRtu f).pending = s.pending := rfl

end

section
variable (s : State) (f : Clp → Clp)

@[simp] theorem State.modClp_clock : (s.modClp f).clock = s.clock := rfl
@[simp] theorem State.modClp_estopHeld : (s.modClp f).estopHeld = s.estopHeld := rfl
@[simp] theorem State.modClp_clp : (s.modClp f).clp = f s.clp := rfl
@[simp] theorem State.modClp_lsv : (s.modClp f).lsv = s.lsv := rfl
@[simp] theorem State.modClp_cfg : (s.modClp f).cfg = s.cfg := rfl
@[simp] theorem State.modClp_trk : (s.modClp f).trk = s.trk := rfl
@[simp] theorem State.modClp_rtu : (s.modClp f).rtu = s.rtu := rfl
@[simp] theorem State.modClp_sqs : (s.modClp f).sqs = s.sqs := rfl
@[simp] theorem State.modClp_sc : (s.modClp f).sc = s.sc := rfl
@[simp] theorem State.modClp_ada : (s.modClp f).ada = s.ada := rfl
@[simp] theorem State.modClp_cvt : (s.modClp f).cvt = s.cvt := rfl
@[simp] theorem State.modClp_sbm : (s.modClp f).sbm = s.sbm := rfl
@[simp] theorem State.modClp_pending : (s.modClp f).pending = s.pending := rfl

end

section
variable (s : State) (f : Lsv → Lsv)

@[simp] theorem State.modLsv_clock : (s.modLsv f).clock = s.clock := rfl
@[simp] theorem State.modLsv_estopHeld : (s.modLsv f).estopHeld = s.estopHeld := rfl
@[simp] theorem State.modLsv_clp : (s.modLsv f).clp = s.clp := rfl
@[simp] theorem State.modLsv_lsv : (s.modLsv f).lsv = f s.lsv := rfl
@[simp] theorem State.modLsv_cfg : (s.modLsv f).cfg = s.cfg := rfl
@[simp] theorem State.modLsv_trk : (s.modLsv f).trk = s.trk := rfl
@[simp] theorem State.modLsv_rtu : (s.modLsv f).rtu = s.rtu := rfl
@[simp] theorem State.modLsv_sqs : (s.modLsv f).sqs = s.sqs := rfl
@[simp] theorem State.modLsv_sc : (s.modLsv f).sc = s.sc := rfl
@[simp] theorem State.modLsv_ada : (s.modLsv f).ada = s.ada := rfl
@[simp] theorem State.modLsv_cvt : (s.modLsv f).cvt = s.cvt := rfl
@[simp] theorem State.modLsv_sbm : (s.modLsv f).sbm = s.sbm := rfl
@[simp] theorem State.modLsv_pending : (s.modLsv f).pending = s.pending := rfl

end

section
variable (s : State) (f : Sbm → Sbm)

@[simp] theorem State.modSbm_clock : (s.modSbm f).clock = s.clock := rfl
@[simp] theorem State.modSbm_estopHeld : (s.modSbm f).estopHeld = s.estopHeld := rfl
@[simp] theorem State.modSbm_clp : (s.modSbm f).clp = s.clp := rfl
@[simp] theorem State.modSbm_lsv : (s.modSbm f).lsv = s.lsv := rfl
@[simp] theorem State.modSbm_cfg : (s.modSbm f).cfg = s.cfg := rfl
@[simp] theorem State.modSbm_trk : (s.modSbm f).trk = s.trk := rfl
@[simp] theorem State.modSbm_rtu : (s.modSbm f).rtu = s.rtu := rfl
@[simp] theorem State.modSbm_sqs : (s.modSbm f).sqs = s.sqs := rfl
@[simp] theorem State.modSbm_sc : (s.modSbm f).sc = s.sc := rfl
@[simp] theorem State.modSbm_ada : (s.modSbm f).ada = s.ada := rfl
@[simp] theorem State.modSbm_cvt : (s.modSbm f).cvt = s.cvt := rfl
@[simp] theorem State.modSbm_sbm : (s.modSbm f).sbm = f s.sbm := rfl
@[simp] theorem State.modSbm_pending : (s.modSbm f).pending = s.pending := rfl

end

section
variable (s : State) (k : Nat) (p : Bool)

@[simp] theorem State.setPermit_clock : (s.setPermit k p).clock = s.clock := rfl
@[simp] theorem State.setPermit_estopHeld : (s.setPermit k p).estopHeld = s.estopHeld := rfl
@[simp] theorem State.setPermit_clp : (s.setPermit k p).clp = s.clp := rfl
@[simp] theorem State.setPermit_lsv :
    (s.setPermit k p).lsv =
      { s.lsv with permits := tableModify k (fun _ => p) s.lsv.permits } := rfl
@[simp] theorem State.setPermit_cfg : (s.setPermit k p).cfg = s.cfg := rfl
@[simp] theorem State.setPermit_trk : (s.setPermit k p).trk = s.trk := rfl
@[simp] theorem State.setPermit_rtu : (s.setPermit k p).rtu = s.rtu := rfl
@[simp] theorem State.setPermit_sqs : (s.setPermit k p).sqs = s.sqs := rfl
@[simp] theorem State.setPermit_sc : (s.setPermit k p).sc = s.sc := rfl
@[simp] theorem State.setPermit_ada : (s.setPermit k p).ada = s.ada := rfl
@[simp] theorem State.setPermit_cvt : (s.setPermit k p).cvt = s.cvt := rfl
@[simp] theorem State.setPermit_sbm : (s.setPermit k p).sbm = s.sbm := rfl
@[simp] theorem State.setPermit_pending : (s.setPermit k p).pending = s.pending := rfl

end

section
variable (s : State) (kind : EventKind) (subject : Subject) (pallet : Option Nat) (detail : Detail)

@[simp] theorem State.post_clock : (s.post kind subject pallet detail).clock = s.clock := rfl
@[simp] theorem State.post_estopHeld : (s.post kind subject pallet detail).estopHeld = s.estopHeld := rfl
@[simp] theorem State.post_clp :
    (s.post kind subject pallet detail).clp =
      s.clp.postEvent { kind := kind, time := s.clock, subject := subject, pallet := pallet, detail := detail } := rfl
@[simp] theorem State.post_lsv : (s.post kind subject pallet detail).lsv = s.lsv := rfl
@[simp] theorem State.post_cfg : (s.post kind subject pallet detail).cfg = s.cfg := rfl
@[simp] theorem State.post_trk : (s.post kind subject pallet detail).trk = s.trk := rfl
@[simp] theorem State.post_rtu : (s.post kind subject pallet detail).rtu = s.rtu := rfl
@[simp] theorem State.post_sqs : (s.post kind subject pallet detail).sqs = s.sqs := rfl
@[simp] theorem State.post_sc : (s.post kind subject pallet detail).sc = s.sc := rfl
@[simp] theorem State.post_ada : (s.post kind subject pallet detail).ada = s.ada := rfl
@[simp] theorem State.post_cvt : (s.post kind subject pallet detail).cvt = s.cvt := rfl
@[simp] theorem State.post_sbm : (s.post kind subject pallet detail).sbm = s.sbm := rfl
@[simp] theorem State.post_pending : (s.post kind subject pallet detail).pending = s.pending := rfl

end

section
variable (s : State) (a : Nat) (code : CmdCode) (args : List Byte)

@[simp] theorem State.postCmd_clock : (s.postCmd a code args).clock = s.clock := rfl
@[simp] theorem State.postCmd_estopHeld : (s.postCmd a code args).estopHeld = s.estopHeld := rfl
@[simp] theorem State.postCmd_clp : (s.postCmd a code args).clp = s.clp := rfl
@[simp] theorem State.postCmd_lsv : (s.postCmd a code args).lsv = s.lsv := rfl
@[simp] theorem State.postCmd_cfg : (s.postCmd a code args).cfg = s.cfg := rfl
@[simp] theorem State.postCmd_trk : (s.postCmd a code args).trk = s.trk := rfl
@[simp] theorem State.postCmd_rtu : (s.postCmd a code args).rtu = s.rtu := rfl
@[simp] theorem State.postCmd_sqs : (s.postCmd a code args).sqs = s.sqs := rfl
@[simp] theorem State.postCmd_sc : (s.postCmd a code args).sc = s.sc := rfl
@[simp] theorem State.postCmd_ada : (s.postCmd a code args).ada = s.ada := rfl
@[simp] theorem State.postCmd_cvt : (s.postCmd a code args).cvt = s.cvt := rfl
@[simp] theorem State.postCmd_sbm :
    (s.postCmd a code args).sbm =
      { s.sbm with nodes := tableModify a (fun n => { n with pending := some { code := code, args := args, sent := none } }) s.sbm.nodes } := rfl
@[simp] theorem State.postCmd_pending : (s.postCmd a code args).pending = s.pending := rfl

end

section
variable (s : State) (k : Nat) (f : SegMap → SegMap)

@[simp] theorem State.modSegMap_clock : (s.modSegMap k f).clock = s.clock := rfl
@[simp] theorem State.modSegMap_estopHeld : (s.modSegMap k f).estopHeld = s.estopHeld := rfl
@[simp] theorem State.modSegMap_clp : (s.modSegMap k f).clp = s.clp := rfl
@[simp] theorem State.modSegMap_lsv : (s.modSegMap k f).lsv = s.lsv := rfl
@[simp] theorem State.modSegMap_cfg : (s.modSegMap k f).cfg = s.cfg := rfl
@[simp] theorem State.modSegMap_trk :
    (s.modSegMap k f).trk =
      { s.trk with segs := tableModify k f s.trk.segs } := rfl
@[simp] theorem State.modSegMap_rtu : (s.modSegMap k f).rtu = s.rtu := rfl
@[simp] theorem State.modSegMap_sqs : (s.modSegMap k f).sqs = s.sqs := rfl
@[simp] theorem State.modSegMap_sc : (s.modSegMap k f).sc = s.sc := rfl
@[simp] theorem State.modSegMap_ada : (s.modSegMap k f).ada = s.ada := rfl
@[simp] theorem State.modSegMap_cvt : (s.modSegMap k f).cvt = s.cvt := rfl
@[simp] theorem State.modSegMap_sbm : (s.modSegMap k f).sbm = s.sbm := rfl
@[simp] theorem State.modSegMap_pending : (s.modSegMap k f).pending = s.pending := rfl

end

section
variable (s : State) (c : ConvId) (l : List Entry)

@[simp] theorem State.setList_clock : (s.setList c l).clock = s.clock := rfl
@[simp] theorem State.setList_estopHeld : (s.setList c l).estopHeld = s.estopHeld := rfl
@[simp] theorem State.setList_clp : (s.setList c l).clp = s.clp := rfl
@[simp] theorem State.setList_lsv : (s.setList c l).lsv = s.lsv := rfl
@[simp] theorem State.setList_cfg : (s.setList c l).cfg = s.cfg := rfl
@[simp] theorem State.setList_trk :
    (s.setList c l).trk =
      { s.trk with lists := tableModify c (fun _ => l) s.trk.lists } := rfl
@[simp] theorem State.setList_rtu : (s.setList c l).rtu = s.rtu := rfl
@[simp] theorem State.setList_sqs : (s.setList c l).sqs = s.sqs := rfl
@[simp] theorem State.setList_sc : (s.setList c l).sc = s.sc := rfl
@[simp] theorem State.setList_ada : (s.setList c l).ada = s.ada := rfl
@[simp] theorem State.setList_cvt : (s.setList c l).cvt = s.cvt := rfl
@[simp] theorem State.setList_sbm : (s.setList c l).sbm = s.sbm := rfl
@[simp] theorem State.setList_pending : (s.setList c l).pending = s.pending := rfl

end

section
variable (s : State) (c : TagCheck)

@[simp] theorem State.setTag_clock : (s.setTag c).clock = s.clock := rfl
@[simp] theorem State.setTag_estopHeld : (s.setTag c).estopHeld = s.estopHeld := rfl
@[simp] theorem State.setTag_clp : (s.setTag c).clp = s.clp := rfl
@[simp] theorem State.setTag_lsv : (s.setTag c).lsv = s.lsv := rfl
@[simp] theorem State.setTag_cfg : (s.setTag c).cfg = s.cfg := rfl
@[simp] theorem State.setTag_trk : (s.setTag c).trk = { s.trk with tag := c } := rfl
@[simp] theorem State.setTag_rtu : (s.setTag c).rtu = s.rtu := rfl
@[simp] theorem State.setTag_sqs : (s.setTag c).sqs = s.sqs := rfl
@[simp] theorem State.setTag_sc : (s.setTag c).sc = s.sc := rfl
@[simp] theorem State.setTag_ada : (s.setTag c).ada = s.ada := rfl
@[simp] theorem State.setTag_cvt : (s.setTag c).cvt = s.cvt := rfl
@[simp] theorem State.setTag_sbm : (s.setTag c).sbm = s.sbm := rfl
@[simp] theorem State.setTag_pending : (s.setTag c).pending = s.pending := rfl

end

section
variable (s : State) (n : Nat)

@[simp] theorem State.setPassOver_clock : (s.setPassOver n).clock = s.clock := rfl
@[simp] theorem State.setPassOver_estopHeld : (s.setPassOver n).estopHeld = s.estopHeld := rfl
@[simp] theorem State.setPassOver_clp : (s.setPassOver n).clp = s.clp := rfl
@[simp] theorem State.setPassOver_lsv : (s.setPassOver n).lsv = s.lsv := rfl
@[simp] theorem State.setPassOver_cfg : (s.setPassOver n).cfg = s.cfg := rfl
@[simp] theorem State.setPassOver_trk : (s.setPassOver n).trk = s.trk := rfl
@[simp] theorem State.setPassOver_rtu : (s.setPassOver n).rtu = s.rtu := rfl
@[simp] theorem State.setPassOver_sqs : (s.setPassOver n).sqs = s.sqs := rfl
@[simp] theorem State.setPassOver_sc : (s.setPassOver n).sc = s.sc := rfl
@[simp] theorem State.setPassOver_ada : (s.setPassOver n).ada = s.ada := rfl
@[simp] theorem State.setPassOver_cvt : (s.setPassOver n).cvt = { s.cvt with passOver := n } := rfl
@[simp] theorem State.setPassOver_sbm : (s.setPassOver n).sbm = s.sbm := rfl
@[simp] theorem State.setPassOver_pending : (s.setPassOver n).pending = s.pending := rfl

end

section
variable (s : State) (b : Bool)

@[simp] theorem State.setEstop_clock : (s.setEstop b).clock = s.clock := rfl
@[simp] theorem State.setEstop_estopHeld : (s.setEstop b).estopHeld = 0 := rfl
@[simp] theorem State.setEstop_clp : (s.setEstop b).clp = s.clp := rfl
@[simp] theorem State.setEstop_lsv :
    (s.setEstop b).lsv = { s.lsv with estop := b } := rfl
@[simp] theorem State.setEstop_cfg : (s.setEstop b).cfg = s.cfg := rfl
@[simp] theorem State.setEstop_trk : (s.setEstop b).trk = s.trk := rfl
@[simp] theorem State.setEstop_rtu : (s.setEstop b).rtu = s.rtu := rfl
@[simp] theorem State.setEstop_sqs : (s.setEstop b).sqs = s.sqs := rfl
@[simp] theorem State.setEstop_sc : (s.setEstop b).sc = s.sc := rfl
@[simp] theorem State.setEstop_ada : (s.setEstop b).ada = s.ada := rfl
@[simp] theorem State.setEstop_cvt : (s.setEstop b).cvt = s.cvt := rfl
@[simp] theorem State.setEstop_sbm : (s.setEstop b).sbm = s.sbm := rfl
@[simp] theorem State.setEstop_pending : (s.setEstop b).pending = s.pending := rfl

end

section
variable (s : State)

@[simp] theorem State.fallSilent_clock : (s.fallSilent).clock = s.clock := rfl
@[simp] theorem State.fallSilent_estopHeld : (s.fallSilent).estopHeld = s.estopHeld := rfl
@[simp] theorem State.fallSilent_clp : (s.fallSilent).clp = s.clp := rfl
@[simp] theorem State.fallSilent_lsv : (s.fallSilent).lsv = s.lsv := rfl
@[simp] theorem State.fallSilent_cfg : (s.fallSilent).cfg = s.cfg := rfl
@[simp] theorem State.fallSilent_trk : (s.fallSilent).trk = s.trk := rfl
@[simp] theorem State.fallSilent_rtu : (s.fallSilent).rtu = s.rtu := rfl
@[simp] theorem State.fallSilent_sqs : (s.fallSilent).sqs = s.sqs := rfl
@[simp] theorem State.fallSilent_sc : (s.fallSilent).sc = s.sc := rfl
@[simp] theorem State.fallSilent_ada : (s.fallSilent).ada = s.ada := rfl
@[simp] theorem State.fallSilent_cvt : (s.fallSilent).cvt = s.cvt := rfl
@[simp] theorem State.fallSilent_sbm :
    (s.fallSilent).sbm = { s.sbm with scan := .silent, tx := [] } := rfl
@[simp] theorem State.fallSilent_pending : (s.fallSilent).pending = s.pending := rfl

end

section
variable (s : State) (c : ConvId)

@[simp] theorem State.setTravel_clock : (s.setTravel c).clock = s.clock := rfl
@[simp] theorem State.setTravel_estopHeld : (s.setTravel c).estopHeld = s.estopHeld := rfl
@[simp] theorem State.setTravel_clp : (s.setTravel c).clp = s.clp := rfl
@[simp] theorem State.setTravel_lsv : (s.setTravel c).lsv = s.lsv := rfl
@[simp] theorem State.setTravel_cfg : (s.setTravel c).cfg = s.cfg := rfl
@[simp] theorem State.setTravel_trk : (s.setTravel c).trk = s.trk := rfl
@[simp] theorem State.setTravel_rtu : (s.setTravel c).rtu = s.rtu := rfl
@[simp] theorem State.setTravel_sqs : (s.setTravel c).sqs = s.sqs := rfl
@[simp] theorem State.setTravel_sc : (s.setTravel c).sc = s.sc := rfl
@[simp] theorem State.setTravel_ada : (s.setTravel c).ada = s.ada := rfl
@[simp] theorem State.setTravel_cvt :
    (s.setTravel c).cvt = (s.modConv c fun v => { v with travel := s.travelFor c }).cvt := rfl
@[simp] theorem State.setTravel_sbm : (s.setTravel c).sbm = s.sbm := rfl
@[simp] theorem State.setTravel_pending : (s.setTravel c).pending = s.pending := rfl

end

end Sys2Proof.Machine
end

