-- ==== Sys2Proof/Laws/Codes.lean ====
section
/-! SUPPORT. Numbers as bytes, most significant first (11 section 11.1), and the fields they are read back
as. -/

namespace Sys2Proof.Machine

@[simp] theorem byteOf_toNat (n : Nat) : (byteOf n).toNat = n % 256 := by simp [byteOf]

@[simp] theorem beBytes_length (w n : Nat) : (beBytes w n).length = w := by
  induction w with
  | zero => rfl
  | succ w ih => simp [beBytes, ih]

/-- Bytes that follow others: their number joins below. -/
theorem beNat_append (a b : List Byte) : beNat (a ++ b) = beNat a * 256 ^ b.length + beNat b := by
  have aux : ∀ (l : List Byte) (acc : Nat),
      l.foldl (fun acc b => acc * 256 + b.toNat) acc = acc * 256 ^ l.length + beNat l := by
    intro l
    induction l with
    | nil => simp [beNat]
    | cons x rest ih =>
      intro acc
      simp only [beNat, List.foldl_cons, Nat.zero_mul, Nat.zero_add, List.length_cons]
      rw [ih, ih x.toNat]
      ring
  rw [beNat, List.foldl_append, aux]
  rfl

/-- `w` bytes of `n` spell `n` modulo 256^w. -/
@[simp] theorem beNat_beBytes (w n : Nat) : beNat (beBytes w n) = n % 256 ^ w := by
  induction w with
  | zero => simp [beBytes, beNat, Nat.mod_one]
  | succ w ih =>
    have h : beBytes (w + 1) n = [byteOf (n / 256 ^ w)] ++ beBytes w n := rfl
    rw [h, beNat_append, ih, beBytes_length]
    simp only [beNat, List.foldl_cons, List.foldl_nil, Nat.zero_mul, Nat.zero_add, byteOf_toNat]
    rw [pow_succ, Nat.mod_mul, Nat.mul_comm, Nat.add_comm]

/-- A field's bytes are read back as its number, and the next field stands behind them. -/
@[simp] theorem parseFields_beBytes (w n : Nat) (ws : List Nat) (rest : List Byte) :
    parseFields (w :: ws) (beBytes w n ++ rest) = (n % 256 ^ w) :: parseFields ws rest := by
  simp [parseFields, List.take_left', List.drop_left']

/-- A field of one byte. -/
@[simp] theorem parseFields_byte (b : Byte) (ws : List Nat) (rest : List Byte) :
    parseFields (1 :: ws) (b :: rest) = b.toNat :: parseFields ws rest := by
  simp [parseFields, beNat]

@[simp] theorem flagByte_toNat (b : Bool) : (flagByte b).toNat = if b then 1 else 0 := by
  cases b <;> rfl

/-- A field within its range is passed over (R3). -/
theorem firstOutside_inside {i lo hi v : Nat} {ranges : List (Nat × Nat)} {values : List Nat}
    (h : lo ≤ v ∧ v ≤ hi) :
    firstOutside i ((lo, hi) :: ranges) (v :: values) = firstOutside (i + 1) ranges values := by
  have hn : ¬ (v < lo ∨ hi < v) := by omega
  simp [firstOutside, hn]

/-- The first field outside its range is named (R3). -/
theorem firstOutside_outside {i lo hi v : Nat} {ranges : List (Nat × Nat)} {values : List Nat}
    (h : v < lo ∨ hi < v) : firstOutside i ((lo, hi) :: ranges) (v :: values) = some i := by
  simp [firstOutside, h]

end Sys2Proof.Machine
end

