-- ==== Sys2Proof/Laws/Tables.lean ====
section
/-! SUPPORT. What the keyed tables do: reading after a change, and the keys a change keeps. -/

namespace Sys2Proof.Machine

section Generic
variable {κ α : Type} [DecidableEq κ] {k j : κ} {f : α → α} {l : List (κ × α)}

/-- Reading the changed key gives the changed value. -/
theorem tableGet_modify_same : tableGet k (tableModify k f l) = (tableGet k l).map f := by
  induction l with
  | nil => rfl
  | cons p rest ih =>
    obtain ⟨j, v⟩ := p
    by_cases h : j = k <;> simp [tableModify, tableGet, h, ih]

/-- Reading another key gives what it gave. -/
theorem tableGet_modify_other (h : j ≠ k) : tableGet j (tableModify k f l) = tableGet j l := by
  induction l with
  | nil => rfl
  | cons p rest ih =>
    obtain ⟨i, v⟩ := p
    by_cases hi : i = k
    · subst hi; simp [tableModify, tableGet, ih, Ne.symm h]
    · simp [tableModify, tableGet, hi, ih]

/-- A change keeps the keys. -/
@[simp] theorem tableModify_keys : (tableModify k f l).map (·.1) = l.map (·.1) := by
  induction l with
  | nil => rfl
  | cons p rest ih =>
    obtain ⟨j, v⟩ := p
    by_cases h : j = k <;> simp [tableModify, h, ih]

/-- A change keeps the length. -/
@[simp] theorem tableModify_length : (tableModify k f l).length = l.length := by
  induction l with
  | nil => rfl
  | cons p rest ih =>
    obtain ⟨j, v⟩ := p
    by_cases h : j = k <;> simp [tableModify, h, ih]

/-- A change keeps every view that the changing function keeps. -/
theorem tableModify_map {β : Type} (g : κ × α → β) (hg : ∀ v, g (k, f v) = g (k, v)) :
    (tableModify k f l).map g = l.map g := by
  induction l with
  | nil => rfl
  | cons p rest ih =>
    obtain ⟨j, v⟩ := p
    by_cases h : j = k
    · subst h; simp [tableModify, ih, hg]
    · simp [tableModify, h, ih]

/-- A removed key is read as absent. -/
theorem tableGet_erase_same : tableGet k (tableErase k l) = none := by
  induction l with
  | nil => rfl
  | cons p rest ih =>
    obtain ⟨j, v⟩ := p
    by_cases h : j = k <;> simp [tableErase, tableGet, h, ih]

/-- Removing a key leaves every other as it was. -/
theorem tableGet_erase_other (h : j ≠ k) : tableGet j (tableErase k l) = tableGet j l := by
  induction l with
  | nil => rfl
  | cons p rest ih =>
    obtain ⟨i, v⟩ := p
    by_cases hi : i = k
    · subst hi; simp [tableErase, tableGet, ih, Ne.symm h]
    · simp [tableErase, tableGet, hi, ih]

end Generic

/-- An inserted key is read as the value inserted. -/
theorem tableGet_insert_same {α : Type} {k : Nat} {v : α} {l : List (Nat × α)} :
    tableGet k (tableInsert k v l) = some v := by
  induction l with
  | nil => simp [tableInsert, tableGet]
  | cons p rest ih =>
    obtain ⟨j, w⟩ := p
    simp only [tableInsert]
    split
    · next h => simp [tableGet, Nat.ne_of_lt h, ih]
    · split <;> simp [tableGet]

/-- An insertion leaves every other key as it was. -/
theorem tableGet_insert_other {α : Type} {k j : Nat} {v : α} {l : List (Nat × α)} (h : j ≠ k) :
    tableGet j (tableInsert k v l) = tableGet j l := by
  induction l with
  | nil => simp [tableInsert, tableGet, Ne.symm h]
  | cons p rest ih =>
    obtain ⟨i, w⟩ := p
    simp only [tableInsert]
    split
    · simp [tableGet, ih]
    · split
      · next hik => subst hik; simp [tableGet, Ne.symm h]
      · simp [tableGet, Ne.symm h]

/-- A view of the state that each round keeps is kept by the whole loop. -/
theorem forEach_view {α σ β : Type} (g : σ → β) {f : α → σ → σ} (h : ∀ a x, g (f a x) = g x)
    (l : List α) (s : σ) : g (forEach f l s) = g s := by
  induction l generalizing s with
  | nil => rfl
  | cons a rest ih => simp [forEach, ih, h]

/-- A property that each round keeps is kept by the whole loop. -/
theorem forEach_keeps {α σ : Type} {p : σ → Prop} {f : α → σ → σ} (h : ∀ a x, p x → p (f a x))
    (l : List α) {s : σ} (hs : p s) : p (forEach f l s) := by
  induction l generalizing s with
  | nil => exact hs
  | cons a rest ih => exact ih (h a s hs)

end Sys2Proof.Machine
end

