-- ==== Sys2Proof/Laws/Fixed.lean ====
section
/-! SUPPORT. What every effect between the blocks leaves as it was: one lemma for each operation, saying
that it keeps the view `State.fixed`. -/

namespace Sys2Proof.Machine

/-! ## The primitive updates -/

@[simp] theorem State.modSeg_fixed (s : State) (k : Nat) (f : Segment → Segment) :
    (s.modSeg k f).fixed = s.fixed := by
  simp [State.fixed, tableModify_map]

@[simp] theorem State.modStation_fixed (s : State) (n : Nat) (f : Station → Station) :
    (s.modStation n f).fixed = s.fixed := by
  simp [State.fixed, tableModify_map]

@[simp] theorem State.setCommon_fixed (s : State) (k : Nat) (c : CommonState) :
    (s.setCommon k c).fixed = s.fixed := by
  simp [State.fixed, tableModify_map]

@[simp] theorem State.modConv_fixed (s : State) (c : ConvId) (f : Conveyor → Conveyor) :
    (s.modConv c f).fixed = s.fixed := by
  simp [State.fixed, tableModify_map]

/-- A change to a node keeps the view when it keeps the node's role. -/
@[simp] theorem State.modNode_fixed (s : State) (a : Nat) (f : Node → Node)
    (h : ∀ n, (f n).role = n.role) : (s.modNode a f).fixed = s.fixed := by
  simp [State.fixed, tableModify_map, h]

/-- A change to a pallet keeps the view when it keeps the variant. -/
@[simp] theorem State.modPallet_fixed (s : State) (id : Nat) (f : Pallet → Pallet)
    (h : ∀ p, (f p).variant = p.variant) : (s.modPallet id f).fixed = s.fixed := by
  simp [State.fixed, tableModify_map, h]

@[simp] theorem State.modAda_fixed (s : State) (f : Ada → Ada) : (s.modAda f).fixed = s.fixed := rfl

@[simp] theorem State.modRtu_fixed (s : State) (f : Rtu → Rtu) : (s.modRtu f).fixed = s.fixed := rfl

@[simp] theorem State.setPermit_fixed (s : State) (k : Nat) (p : Bool) :
    (s.setPermit k p).fixed = s.fixed := by
  simp [State.fixed, State.setPermit, State.modLsv, tableModify_map]

/-- Posting an event changes the Event Queue and GAP alone (R184). -/
theorem Clp.postEvent_link (c : Clp) (e : Event) :
    { c.postEvent e with events := [], gap := false } = { c with events := [], gap := false } := by
  unfold Clp.postEvent
  split <;> rfl

@[simp] theorem State.post_fixed (s : State) (kind : EventKind) (subject : Subject)
    (pallet : Option Nat) (detail : Detail) :
    (s.post kind subject pallet detail).fixed = s.fixed := by
  simp [State.fixed, State.post, State.modClp, Clp.postEvent_link]

@[simp] theorem State.postCmd_fixed (s : State) (a : Nat) (code : CmdCode) (args : List Byte) :
    (s.postCmd a code args).fixed = s.fixed := by
  simp [State.postCmd]

@[simp] theorem State.modSegMap_fixed (s : State) (k : Nat) (f : SegMap → SegMap) :
    (s.modSegMap k f).fixed = s.fixed := by
  simp [State.fixed, State.modSegMap, tableModify_map]

@[simp] theorem State.setList_fixed (s : State) (c : ConvId) (l : List Entry) :
    (s.setList c l).fixed = s.fixed := by
  simp [State.fixed, State.setList, tableModify_map]

@[simp] theorem State.syncPlacements_fixed (s : State) : s.syncPlacements.fixed = s.fixed := by
  simp [State.fixed, State.syncPlacements, Function.comp_def]

@[simp] theorem State.setPassOver_fixed (s : State) (n : Nat) :
    (s.setPassOver n).fixed = s.fixed := rfl

@[simp] theorem State.setTag_fixed (s : State) (c : TagCheck) : (s.setTag c).fixed = s.fixed := rfl

@[simp] theorem State.takeNotices_fixed (s : State) : s.takeNotices.fixed = s.fixed := rfl

@[simp] theorem forEach_fixed {α : Type} {f : α → State → State}
    (h : ∀ a x, (f a x).fixed = x.fixed) (l : List α) (s : State) :
    (forEach f l s).fixed = s.fixed := forEach_view State.fixed h l s

/-! ## The operations -/

@[simp] theorem State.replaceCmd_fixed (s : State) (a : Nat) (code : CmdCode) :
    (s.replaceCmd a code).fixed = s.fixed := by
  unfold State.replaceCmd
  (repeat' split) <;> simp

@[simp] theorem State.postDrive_fixed (s : State) (k : Nat) (code : CmdCode) :
    (s.postDrive k code).fixed = s.fixed := by
  simp [State.postDrive]

@[simp] theorem State.countIndex_fixed (s : State) (id : Nat) :
    (s.countIndex id).fixed = s.fixed :=
  s.modPallet_fixed id _ fun _ => rfl

@[simp] theorem State.countLap_fixed (s : State) (id : Nat) :
    (s.countLap id).fixed = s.fixed :=
  s.modPallet_fixed id _ fun _ => rfl

@[simp] theorem State.modWorkpiece_fixed (s : State) (id : Nat) (f : Workpiece → Workpiece) :
    (s.modWorkpiece id f).fixed = s.fixed := by
  simp [State.modWorkpiece]

@[simp] theorem State.trkOpDone_fixed (s : State) (n id : Nat) :
    (s.trkOpDone n id).fixed = s.fixed := by
  simp only [State.trkOpDone]
  (repeat' split) <;> simp

@[simp] theorem State.trkOpMissed_fixed (s : State) (n id : Nat) :
    (s.trkOpMissed n id).fixed = s.fixed := by
  simp [State.trkOpMissed]

@[simp] theorem State.trkDefect_fixed (s : State) (n id : Nat) (cause : DefectCause) (ms : Nat) :
    (s.trkDefect n id cause ms).fixed = s.fixed := by
  simp [State.trkDefect]

@[simp] theorem State.owe_fixed (s : State) (k : Nat) (code : CmdCode) :
    (s.owe k code).fixed = s.fixed := by
  simp [State.owe]

@[simp] theorem State.needDrive_fixed (s : State) (k : Nat) (code : CmdCode) :
    (s.needDrive k code).fixed = s.fixed := by
  unfold State.needDrive
  (repeat' split) <;> simp

@[simp] theorem State.postOwed_fixed (s : State) (k : Nat) :
    (s.postOwed k).fixed = s.fixed := by
  unfold State.postOwed
  (repeat' split) <;> simp

@[simp] theorem State.scReleaseAllDue_fixed (s : State) (k : Nat) :
    (s.scReleaseAllDue k).fixed = s.fixed := by
  simp [State.scReleaseAllDue]

@[simp] theorem State.adaSettle_fixed (s : State) :
    (s.adaSettle).fixed = s.fixed := by
  simp [State.adaSettle]

@[simp] theorem State.cvtCarry_fixed (s : State) (k : Nat) (dest : Option ConvId) :
    (s.cvtCarry k dest).fixed = s.fixed := by
  unfold State.cvtCarry
  (repeat' split) <;> simp

@[simp] theorem State.scAdmitted_fixed (s : State) (k : Nat) :
    (s.scAdmitted k).fixed = s.fixed := by
  simp [State.scAdmitted]

@[simp] theorem State.adaAdmit_fixed (s : State) (q : AdaRequest) :
    (s.adaAdmit q).fixed = s.fixed := by
  simp [State.adaAdmit]

@[simp] theorem State.adaRefresh_fixed (s : State) :
    (s.adaRefresh).fixed = s.fixed := by
  simp [State.adaRefresh]

@[simp] theorem State.staggerPassed_fixed (s : State) : s.staggerPassed.fixed = s.fixed := by
  unfold State.staggerPassed
  split <;> simp

@[simp] theorem adaRounds_fixed (n : Nat) (s : State) :
    (State.adaRounds n s).fixed = s.fixed := by
  induction n generalizing s with
  | zero => simp [State.adaRounds]
  | succ n ih =>
    simp only [State.adaRounds]
    split <;> simp [ih]

@[simp] theorem State.adaEvaluate_fixed (s : State) : s.adaEvaluate.fixed = s.fixed := by
  simp [State.adaEvaluate]

@[simp] theorem State.adaEnqueue_fixed (s : State) (k : Nat) (entryTaken : Bool) (n : Nat) :
    (s.adaEnqueue k entryTaken n).fixed = s.fixed := by
  simp [State.adaEnqueue]

@[simp] theorem State.adaWithdraw_fixed (s : State) (k : Nat) :
    (s.adaWithdraw k).fixed = s.fixed := by
  simp [State.adaWithdraw]

@[simp] theorem State.scEnqueue_fixed (s : State) (k : Nat) (entryTaken : Bool) :
    (s.scEnqueue k entryTaken).fixed = s.fixed := by
  simp only [State.scEnqueue]
  (repeat' split) <;> simp

@[simp] theorem State.scFeed_fixed (s : State) (k : Nat) :
    (s.scFeed k).fixed = s.fixed := by
  unfold State.scFeed
  (repeat' split) <;> simp

@[simp] theorem State.stopFeed_fixed (s : State) (k : Nat) :
    (s.stopFeed k).fixed = s.fixed := by
  simp [State.stopFeed]

@[simp] theorem State.scRoomGranted_fixed (s : State) (k : Nat) (c : ConvId) :
    (s.scRoomGranted k c).fixed = s.fixed := by
  simp only [State.scRoomGranted]
  (repeat' split) <;> simp

@[simp] theorem State.addReservation_fixed (s : State) (c : ConvId) (h : Holder) (st : ResStatus) :
    (s.addReservation c h st).fixed = s.fixed := by
  simp [State.addReservation]

@[simp] theorem State.grantSegment_fixed (s : State) (c : ConvId) (k : Nat) :
    (s.grantSegment c k).fixed = s.fixed := by
  simp [State.grantSegment]

@[simp] theorem State.grantSpur_fixed (s : State) :
    (s.grantSpur).fixed = s.fixed := by
  simp [State.grantSpur]

@[simp] theorem grantRounds_fixed (c : ConvId) (n : Nat) (s : State) :
    (State.grantRounds c n s).fixed = s.fixed := by
  induction n generalizing s with
  | zero => simp [State.grantRounds]
  | succ n ih =>
    simp only [State.grantRounds]
    (repeat' split) <;> simp [ih]

@[simp] theorem mergeRounds_fixed (n : Nat) (s : State) :
    (State.mergeRounds n s).fixed = s.fixed := by
  induction n generalizing s with
  | zero => simp [State.mergeRounds]
  | succ n ih =>
    simp only [State.mergeRounds]
    (repeat' split) <;> simp [ih]

@[simp] theorem State.grantPass_fixed (s : State) (c : ConvId) :
    (s.grantPass c).fixed = s.fixed := by
  simp only [State.grantPass]
  split <;> simp

@[simp] theorem State.requestRoom_fixed (s : State) (c : ConvId) (h : Holder) :
    (s.requestRoom c h).fixed = s.fixed := by
  simp [State.requestRoom]

@[simp] theorem State.cancelRequest_fixed (s : State) (c : ConvId) (h : Holder) :
    (s.cancelRequest c h).fixed = s.fixed := by
  simp [State.cancelRequest]

@[simp] theorem State.removeReservation_fixed (s : State) (c : ConvId) (h : Holder) :
    (s.removeReservation c h).fixed = s.fixed := by
  simp [State.removeReservation]

@[simp] theorem State.releaseRoom_fixed (s : State) (c : ConvId) (h : Holder) :
    (s.releaseRoom c h).fixed = s.fixed := by
  simp [State.releaseRoom]

@[simp] theorem State.giveUpRoom_fixed (s : State) (k : Nat) :
    (s.giveUpRoom k).fixed = s.fixed := by
  simp only [State.giveUpRoom]
  (repeat' split) <;> simp

@[simp] theorem State.postpone_fixed (s : State) (id laps : Nat) :
    (s.postpone id laps).fixed = s.fixed := by
  simp only [State.postpone]
  (repeat' split) <;> simp

@[simp] theorem State.divertChoice_fixed (s : State) (id : Nat) :
    (s.divertChoice id).fixed = s.fixed := by
  simp only [State.divertChoice]
  (repeat' split) <;> simp

@[simp] theorem State.seekRoom_fixed (s : State) (k id : Nat) :
    (s.seekRoom k id).fixed = s.fixed := by
  simp only [State.seekRoom]
  (repeat' split) <;> simp

@[simp] theorem State.scTest_fixed (s : State) (k : Nat) :
    (s.scTest k).fixed = s.fixed := by
  simp only [State.scTest]
  (repeat' split) <;> simp

@[simp] theorem State.scMaybeReady_fixed (s : State) (k : Nat) :
    (s.scMaybeReady k).fixed = s.fixed := by
  unfold State.scMaybeReady
  (repeat' split) <;> simp

@[simp] theorem State.scWithdraw_fixed (s : State) (k : Nat) (target : SegState) (releaseIt : Bool) :
    (s.scWithdraw k target releaseIt).fixed = s.fixed := by
  simp only [State.scWithdraw]
  (repeat' split) <;> simp

@[simp] theorem State.scStationsFree_fixed (s : State) (k : Nat) (free : Bool) :
    (s.scStationsFree k free).fixed = s.fixed := by
  simp only [State.scStationsFree]
  (repeat' split) <;> simp

@[simp] theorem State.loadDone_fixed (s : State) (id : Nat) :
    (s.loadDone id).fixed = s.fixed := by
  simp only [State.loadDone]
  (repeat' split) <;> simp

@[simp] theorem State.unloadDone_fixed (s : State) (n id : Nat) (disposition : Disposition) :
    (s.unloadDone n id disposition).fixed = s.fixed := by
  simp only [State.unloadDone]
  (repeat' split) <;> simp

@[simp] theorem State.sqsAfter_fixed (s : State) (k : Nat) :
    (s.sqsAfter k).fixed = s.fixed := by
  simp only [State.sqsAfter]
  (repeat' split) <;> simp

@[simp] theorem State.outcomeGiven_fixed (s : State) (n : Nat) :
    (s.outcomeGiven n).fixed = s.fixed := by
  simp [State.outcomeGiven]

@[simp] theorem State.handOn_fixed (s : State) (n : Nat) (e : JobEnd) :
    (s.handOn n e).fixed = s.fixed := by
  simp only [State.handOn]
  (repeat' split) <;> simp

@[simp] theorem State.handOnDone_fixed (s : State) (n : Nat) (short : Option Nat) :
    (s.handOnDone n short).fixed = s.fixed := by
  simp only [State.handOnDone]
  (repeat' split) <;> simp

@[simp] theorem State.stationFault_fixed (s : State) (n : Nat) (cause : StationCause) (e : JobEnd) :
    (s.stationFault n cause e).fixed = s.fixed := by
  simp only [State.stationFault]
  (repeat' split) <;> simp

@[simp] theorem State.stationIdle_fixed (s : State) (n : Nat) (to' : StationState) :
    (s.stationIdle n to').fixed = s.fixed := by
  simp [State.stationIdle]

@[simp] theorem State.stationUnclamp_fixed (s : State) (n tUnclampMax : Nat) :
    (s.stationUnclamp n tUnclampMax).fixed = s.fixed := by
  simp [State.stationUnclamp]

@[simp] theorem State.stationRetract_fixed (s : State) (n : Nat) :
    (s.stationRetract n).fixed = s.fixed := by
  simp only [State.stationRetract]
  (repeat' split) <;> simp

@[simp] theorem State.sqsJob_fixed (s : State) (n : Nat) (o : JobOrder) :
    (s.sqsJob n o).fixed = s.fixed := by
  simp only [State.sqsJob]
  (repeat' split) <;> simp

@[simp] theorem State.settleExpires_fixed (s : State) (n : Nat) :
    (s.settleExpires n).fixed = s.fixed := by
  unfold State.settleExpires
  (repeat' split) <;> simp

@[simp] theorem State.stationClamped_fixed (s : State) (n : Nat) (r : StationRecord) :
    (s.stationClamped n r).fixed = s.fixed := by
  simp only [State.stationClamped]
  (repeat' split) <;> simp

@[simp] theorem State.stationCycleDone_fixed (s : State) (n : Nat) (r : StationRecord) :
    (s.stationCycleDone n r).fixed = s.fixed := by
  simp only [State.stationCycleDone]
  (repeat' split) <;> simp

@[simp] theorem State.stationClearReport_fixed (s : State) (n : Nat) (r : StationRecord) (rep : StationReport) :
    (s.stationClearReport n r rep).fixed = s.fixed := by
  unfold State.stationClearReport
  (repeat' split) <;> simp

@[simp] theorem State.reportFault_fixed (s : State) (n : Nat) (r : StationRecord) (cause : StationCause) (e : JobEnd) (retract : Bool) :
    (s.reportFault n r cause e retract).fixed = s.fixed := by
  simp only [State.reportFault]
  (repeat' split) <;> simp

@[simp] theorem State.reportInReleased_fixed (s : State) (n : Nat) (r : StationRecord) (rep : StationReport) :
    (s.reportInReleased n r rep).fixed = s.fixed := by
  unfold State.reportInReleased
  (repeat' split) <;> simp

@[simp] theorem State.reportInClamping_fixed (s : State) (n : Nat) (r : StationRecord) (rep : StationReport) :
    (s.reportInClamping n r rep).fixed = s.fixed := by
  unfold State.reportInClamping
  (repeat' split) <;> simp

@[simp] theorem State.reportInClamped_fixed (s : State) (n : Nat) (r : StationRecord) (rep : StationReport) :
    (s.reportInClamped n r rep).fixed = s.fixed := by
  unfold State.reportInClamped
  (repeat' split) <;> simp

@[simp] theorem State.reportInCycle_fixed (s : State) (n : Nat) (r : StationRecord) (rep : StationReport) :
    (s.reportInCycle n r rep).fixed = s.fixed := by
  unfold State.reportInCycle
  (repeat' split) <;> simp

@[simp] theorem State.reportInDoneHeld_fixed (s : State) (n : Nat) (r : StationRecord) (rep : StationReport) :
    (s.reportInDoneHeld n r rep).fixed = s.fixed := by
  unfold State.reportInDoneHeld
  (repeat' split) <;> simp

@[simp] theorem State.reportInUnclamping_fixed (s : State) (n : Nat) (r : StationRecord) (rep : StationReport) :
    (s.reportInUnclamping n r rep).fixed = s.fixed := by
  unfold State.reportInUnclamping
  (repeat' split) <;> simp

@[simp] theorem State.reportInLockout_fixed (s : State) (n : Nat) (r : StationRecord) (rep : StationReport) :
    (s.reportInLockout n r rep).fixed = s.fixed := by
  unfold State.reportInLockout
  (repeat' split) <;> simp

@[simp] theorem State.actOnStationReport_fixed (s : State) (n : Nat) (r : StationRecord) (rep : StationReport) :
    (s.actOnStationReport n r rep).fixed = s.fixed := by
  unfold State.actOnStationReport
  (repeat' split) <;> simp

@[simp] theorem State.sqsReport_fixed (s : State) (n : Nat) (rep : StationReport) (faultCode : Nat) :
    (s.sqsReport n rep faultCode).fixed = s.fixed := by
  simp only [State.sqsReport]
  (repeat' split) <;> simp

@[simp] theorem State.sqsDelivered_fixed (s : State) (n : Nat) (code : CmdCode) :
    (s.sqsDelivered n code).fixed = s.fixed := by
  unfold State.sqsDelivered
  (repeat' split) <;> simp

@[simp] theorem State.stationClearFails_fixed (s : State) (n : Nat) (cause : StationCause) :
    (s.stationClearFails n cause).fixed = s.fixed := by
  simp [State.stationClearFails]

@[simp] theorem State.sqsRefused_fixed (s : State) (n : Nat) (code : CmdCode) :
    (s.sqsRefused n code).fixed = s.fixed := by
  unfold State.sqsRefused
  (repeat' split) <;> simp

@[simp] theorem State.sqsLost_fixed (s : State) (n : Nat) :
    (s.sqsLost n).fixed = s.fixed := by
  simp only [State.sqsLost]
  (repeat' split) <;> simp

@[simp] theorem State.commonDelivered_fixed (s : State) (k : Nat) :
    (s.commonDelivered k).fixed = s.fixed := by
  simp [State.commonDelivered, apply_ite State.fixed]

@[simp] theorem State.commonRefused_fixed (s : State) (k : Nat) :
    (s.commonRefused k).fixed = s.fixed := by
  simp [State.commonRefused, apply_ite State.fixed]

@[simp] theorem State.commonSuperseded_fixed (s : State) (k : Nat) :
    (s.commonSuperseded k).fixed = s.fixed := by
  simp [State.commonSuperseded]

@[simp] theorem State.haltStation_fixed (s : State) (n : Nat) :
    (s.haltStation n).fixed = s.fixed := by
  unfold State.haltStation
  (repeat' split) <;> simp

/-- Ending every common release keeps the view. -/
@[simp] theorem commonNone_fixed (s : State) :
    ({ s with sqs := { s.sqs with common := s.sqs.common.map fun p => (p.1, .none) } } : State).fixed
      = s.fixed := by
  simp [State.fixed, Function.comp_def]

@[simp] theorem State.haltStations_fixed (s : State) : s.haltStations.fixed = s.fixed := by
  simp [State.haltStations]

@[simp] theorem State.recoverStation_fixed (s : State) (n : Nat) :
    (s.recoverStation n).fixed = s.fixed := by
  simp only [State.recoverStation]
  (repeat' split) <;> simp

@[simp] theorem State.recoverStations_fixed (s : State) :
    (s.recoverStations).fixed = s.fixed := by
  simp [State.recoverStations]

@[simp] theorem State.clampExpires_fixed (s : State) (n : Nat) :
    (s.clampExpires n).fixed = s.fixed := by
  simp only [State.clampExpires]
  (repeat' split) <;> simp

@[simp] theorem State.cycleExpires_fixed (s : State) (n : Nat) :
    (s.cycleExpires n).fixed = s.fixed := by
  simp only [State.cycleExpires]
  (repeat' split) <;> simp

@[simp] theorem State.unclampExpires_fixed (s : State) (n : Nat) :
    (s.unclampExpires n).fixed = s.fixed := by
  unfold State.unclampExpires
  (repeat' split) <;> simp

@[simp] theorem State.commonExpires_fixed (s : State) (k : Nat) :
    (s.commonExpires k).fixed = s.fixed := by
  simp [State.commonExpires, apply_ite State.fixed]

@[simp] theorem State.stationClearExpires_fixed (s : State) (n : Nat) :
    (s.stationClearExpires n).fixed = s.fixed := by
  unfold State.stationClearExpires
  (repeat' split) <;> simp

@[simp] theorem State.withdrawReservation_fixed (s : State) (c : ConvId) (k : Nat) :
    (s.withdrawReservation c k).fixed = s.fixed := by
  simp only [State.withdrawReservation]
  (repeat' split) <;> simp

@[simp] theorem State.jam_fixed (s : State) (c : ConvId) (cause : JamCause) (pallet : Option Nat) :
    (s.jam c cause pallet).fixed = s.fixed := by
  simp only [State.jam]
  (repeat' split) <;> simp

@[simp] theorem State.travelJam_fixed (s : State) (c : ConvId) :
    (s.travelJam c).fixed = s.fixed := by
  simp [State.travelJam]

@[simp] theorem State.setTravel_fixed (s : State) (c : ConvId) :
    (s.setTravel c).fixed = s.fixed := by
  simp [State.setTravel]

@[simp] theorem State.syncTravel_fixed (s : State) (was : Option Nat) (c : ConvId) :
    (s.syncTravel was c).fixed = s.fixed := by
  simp only [State.syncTravel]
  (repeat' split) <;> simp

@[simp] theorem State.travelExpires_fixed (s : State) (c : ConvId) :
    (s.travelExpires c).fixed = s.fixed := by
  unfold State.travelExpires
  (repeat' split) <;> simp

@[simp] theorem State.expectMore_fixed (s : State) (c : ConvId) :
    (s.expectMore c).fixed = s.fixed := by
  simp [State.expectMore]

@[simp] theorem State.expectFewer_fixed (s : State) (c : ConvId) :
    (s.expectFewer c).fixed = s.fixed := by
  simp [State.expectFewer]

@[simp] theorem State.stopTravel_fixed (s : State) : s.stopTravel.fixed = s.fixed := by
  simp [State.stopTravel, State.fixed, Function.comp_def]

/-- Restamping the entries keeps the view. -/
@[simp] theorem restamped_fixed (s : State) (t : LineTime) :
    ({ s with trk := { s.trk with
      lists := s.trk.lists.map fun p => (p.1, restampInTransit t p.2) } } : State).fixed = s.fixed := by
  simp [State.fixed, Function.comp_def]

@[simp] theorem State.restartTravel_fixed (s : State) : s.restartTravel.fixed = s.fixed := by
  simp [State.restartTravel]

@[simp] theorem State.convLost_fixed (s : State) (c : ConvId) :
    (s.convLost c).fixed = s.fixed := by
  simp [State.convLost]

@[simp] theorem State.loadDecision_fixed (s : State) (n id : Nat) (p : Pallet) :
    (s.loadDecision n id p).fixed = s.fixed := by
  simp only [State.loadDecision]
  (repeat' split) <;> simp

@[simp] theorem State.arrival_fixed (s : State) (k j id : Nat) :
    (s.arrival k j id).fixed = s.fixed := by
  simp only [State.arrival]
  (repeat' split) <;> simp

@[simp] theorem State.tryCheck_fixed (s : State) :
    (s.tryCheck).fixed = s.fixed := by
  simp only [State.tryCheck]
  (repeat' split) <;> simp

@[simp] theorem State.vsHeadNotice_fixed (s : State) :
    (s.vsHeadNotice).fixed = s.fixed := by
  simp only [State.vsHeadNotice]
  (repeat' split) <;> simp

@[simp] theorem State.passCheck_fixed (s : State) :
    (s.passCheck).fixed = s.fixed := by
  simp [State.passCheck]

@[simp] theorem State.verifyPass_fixed (s : State) (id : Nat) :
    (s.verifyPass id).fixed = s.fixed := by
  simp [State.verifyPass]

@[simp] theorem State.verifyFail_fixed (s : State) (id : Nat) :
    (s.verifyFail id).fixed = s.fixed := by
  simp [State.verifyFail]

@[simp] theorem State.verifyReport_fixed (s : State) (st : VerifyState) (seq : Nat) :
    (s.verifyReport st seq).fixed = s.fixed := by
  simp only [State.verifyReport]
  (repeat' split) <;> simp

@[simp] theorem State.checkDelivered_fixed (s : State) :
    (s.checkDelivered).fixed = s.fixed := by
  unfold State.checkDelivered
  (repeat' split) <;> simp

@[simp] theorem State.checkRefused_fixed (s : State) :
    (s.checkRefused).fixed = s.fixed := by
  simp only [State.checkRefused]
  (repeat' split) <;> simp

@[simp] theorem State.checkSuperseded_fixed (s : State) :
    (s.checkSuperseded).fixed = s.fixed := by
  unfold State.checkSuperseded
  (repeat' split) <;> simp

/-- Setting the stale-release flag keeps the view. -/
@[simp] theorem stale_fixed (s : State) (b : Bool) :
    ({ s with cvt := { s.cvt with staleRelease := b } } : State).fixed = s.fixed := rfl

@[simp] theorem State.dropSpur_fixed (s : State) : s.dropSpur.fixed = s.fixed := by
  simp only [State.dropSpur]
  split
  · rw [State.releaseRoom_fixed, stale_fixed, State.cancelRequest_fixed]
  · simp

@[simp] theorem State.abandonCheck_fixed (s : State) (id : Nat) :
    (s.abandonCheck id).fixed = s.fixed := by
  simp only [State.abandonCheck]
  (repeat' split) <;> simp

@[simp] theorem State.headNotice_fixed (s : State) (c : ConvId) :
    (s.headNotice c).fixed = s.fixed := by
  unfold State.headNotice
  (repeat' split) <;> simp

@[simp] theorem State.credit_fixed (s : State) (c : ConvId) (n : Nat) :
    (s.credit c n).fixed = s.fixed := by
  simp only [State.credit]
  (repeat' split) <;> simp

@[simp] theorem State.takeCount_fixed (s : State) (c : ConvId) (count : Nat) :
    (s.takeCount c count).fixed = s.fixed := by
  simp only [State.takeCount]
  (repeat' split) <;> simp

@[simp] theorem State.conveyorReport_fixed (s : State) (c : ConvId) (count : Nat) (jam head : Bool) :
    (s.conveyorReport c count jam head).fixed = s.fixed := by
  simp only [State.conveyorReport]
  (repeat' split) <;> simp

@[simp] theorem State.convNotice_fixed (s : State) (c : ConvId) (st : NodeStatus) (isReturn : Bool) :
    (s.convNotice c st isReturn).fixed = s.fixed := by
  unfold State.convNotice
  (repeat' split) <;> simp

@[simp] theorem State.endStaleRelease_fixed (s : State) : s.endStaleRelease.fixed = s.fixed := by
  rw [State.endStaleRelease, State.grantPass_fixed, stale_fixed]

@[simp] theorem State.requeueSpur_fixed (s : State) :
    (s.requeueSpur).fixed = s.fixed := by
  simp [State.requeueSpur]

@[simp] theorem State.spurMoves_fixed (s : State) :
    (s.spurMoves).fixed = s.fixed := by
  simp only [State.spurMoves]
  (repeat' split) <;> simp

@[simp] theorem State.releaseDelivered_fixed (s : State) :
    (s.releaseDelivered).fixed = s.fixed := by
  unfold State.releaseDelivered
  (repeat' split) <;> simp

@[simp] theorem State.releaseRefused_fixed (s : State) :
    (s.releaseRefused).fixed = s.fixed := by
  unfold State.releaseRefused
  (repeat' split) <;> simp

@[simp] theorem State.releaseSuperseded_fixed (s : State) :
    (s.releaseSuperseded).fixed = s.fixed := by
  unfold State.releaseSuperseded
  (repeat' split) <;> simp

@[simp] theorem State.joinTail_fixed (s : State) (c : ConvId) (id : Nat) :
    (s.joinTail c id).fixed = s.fixed := by
  simp [State.joinTail]

@[simp] theorem State.exitJoins_fixed (s : State) (k : Nat) (oi : OpenIndex) :
    (s.exitJoins k oi).fixed = s.fixed := by
  unfold State.exitJoins
  (repeat' split) <;> simp

@[simp] theorem State.entryLeaves_fixed (s : State) (k : Nat) (oi : OpenIndex) :
    (s.entryLeaves k oi).fixed = s.fixed := by
  unfold State.entryLeaves
  (repeat' split) <;> simp

@[simp] theorem State.entryLap_fixed (s : State) (k : Nat) (oi : OpenIndex) :
    (s.entryLap k oi).fixed = s.fixed := by
  unfold State.entryLap
  (repeat' split) <;> simp

@[simp] theorem State.endIndex_fixed (s : State) (k : Nat) (nests : List (Option Nat)) (moved : List Nat) :
    (s.endIndex k nests moved).fixed = s.fixed := by
  simp only [State.endIndex]
  (repeat' split) <;> simp

@[simp] theorem State.destinationSettled_fixed (s : State) (k : Nat) (oi : OpenIndex) (joined : Bool) :
    (s.destinationSettled k oi joined).fixed = s.fixed := by
  unfold State.destinationSettled
  (repeat' split) <;> simp

@[simp] theorem State.upstreamSettled_fixed (s : State) (k : Nat) (oi : OpenIndex) :
    (s.upstreamSettled k oi).fixed = s.fixed := by
  unfold State.upstreamSettled
  (repeat' split) <;> simp

@[simp] theorem State.shift_fixed (s : State) (k : Nat) (oi : OpenIndex) :
    (s.shift k oi).fixed = s.fixed := by
  simp [State.shift]

@[simp] theorem State.settleByList_fixed (s : State) (k : Nat) (oi : OpenIndex) (flag : Bool) (nests : List (Option Nat)) :
    (s.settleByList k oi flag nests).fixed = s.fixed := by
  simp only [State.settleByList]
  (repeat' split) <;> simp

@[simp] theorem State.settleBefore_fixed (s : State) (k : Nat) (oi : OpenIndex) :
    (s.settleBefore k oi).fixed = s.fixed := by
  simp only [State.settleBefore]
  (repeat' split) <;> simp

@[simp] theorem State.setTrackHold_fixed (s : State) (b : Bool) :
    (s.setTrackHold b).fixed = s.fixed := by
  simp [State.setTrackHold]

@[simp] theorem State.openTag_fixed (s : State) :
    (s.openTag).fixed = s.fixed := by
  simp [State.openTag]

@[simp] theorem State.noticeN1_fixed (s : State) (id : Option Nat) :
    (s.noticeN1 id).fixed = s.fixed := by
  unfold State.noticeN1
  (repeat' split) <;> simp

@[simp] theorem State.closeTag_fixed (s : State) (notice : Option Nat) :
    (s.closeTag notice).fixed = s.fixed := by
  simp [State.closeTag]

@[simp] theorem State.postTag_fixed (s : State) (kind : EventKind) (o : TagOpening) (value : Option Nat) :
    (s.postTag kind o value).fixed = s.fixed := by
  simp [State.postTag]

@[simp] theorem State.freshRead_fixed (s : State) (o : TagOpening) (value : Nat) :
    (s.freshRead o value).fixed = s.fixed := by
  simp only [State.freshRead]
  (repeat' split) <;> simp

/-- A new reader image keeps the view. -/
@[simp] theorem imaged_fixed (s : State) (i : Option Nat) :
    ({ s with trk := { s.trk with readerImage := i } } : State).fixed = s.fixed := rfl

@[simp] theorem State.readerReport_fixed (s : State) (sequence value : Nat) :
    (s.readerReport sequence value).fixed = s.fixed := by
  simp only [State.readerReport]
  (repeat' split) <;> first | rfl | rw [State.freshRead_fixed, imaged_fixed]

@[simp] theorem State.tagReadExpires_fixed (s : State) :
    (s.tagReadExpires).fixed = s.fixed := by
  unfold State.tagReadExpires
  (repeat' split) <;> simp

@[simp] theorem State.markEdited_fixed (s : State) :
    (s.markEdited).fixed = s.fixed := by
  unfold State.markEdited
  (repeat' split) <;> simp

@[simp] theorem State.closeEdited_fixed (s : State) :
    (s.closeEdited).fixed = s.fixed := by
  unfold State.closeEdited
  (repeat' split) <;> simp

@[simp] theorem State.giveNotices_fixed (s : State) (k : Nat) (l : List (Nat × Nat)) :
    (s.giveNotices k l).fixed = s.fixed := by
  simp [State.giveNotices]

@[simp] theorem State.indexNotices_fixed (s : State) (k : Nat) (l : List (Nat × Nat)) (opens : Bool) :
    (s.indexNotices k l opens).fixed = s.fixed := by
  unfold State.indexNotices
  (repeat' split) <;> simp

@[simp] theorem State.trkComplete_fixed (s : State) (k : Nat) :
    (s.trkComplete k).fixed = s.fixed := by
  simp only [State.trkComplete]
  (repeat' split) <;> simp

@[simp] theorem State.confirmAfter_fixed (s : State) (k : Nat) (oi : OpenIndex) :
    (s.confirmAfter k oi).fixed = s.fixed := by
  simp only [State.confirmAfter]
  (repeat' split) <;> simp

@[simp] theorem State.confirmList_fixed (s : State) (k : Nat) (oi : OpenIndex) (flag : Bool) (nests : List (Option Nat)) :
    (s.confirmList k oi flag nests).fixed = s.fixed := by
  simp only [State.confirmList]
  (repeat' split) <;> simp

@[simp] theorem State.takeOut_fixed (s : State) (id : Nat) (place : PlaceRef) :
    (s.takeOut id place).fixed = s.fixed := by
  simp only [State.takeOut]
  (repeat' split) <;> simp

@[simp] theorem State.withdrawCounting_fixed (s : State) (l : List Nat) :
    (s.withdrawCounting l).fixed = s.fixed := by
  simp [State.withdrawCounting]

@[simp] theorem State.afterTaking_fixed (s : State) (id : Nat) (place : PlaceRef) (counting : List Nat)
    (was : Option Nat) : (s.afterTaking id place counting was).fixed = s.fixed := by
  simp only [State.afterTaking]
  (repeat' split) <;> simp

@[simp] theorem State.removePallet_fixed (s : State) (id : Nat) (place : PlaceRef) :
    (s.removePallet id place).fixed = s.fixed := by
  simp [State.removePallet]

@[simp] theorem State.placeInNest_fixed (s : State) (id k j : Nat) :
    (s.placeInNest id k j).fixed = s.fixed := by
  simp [State.placeInNest]

@[simp] theorem State.placeOnConveyor_fixed (s : State) (id : Nat) (c : ConvId) :
    (s.placeOnConveyor id c).fixed = s.fixed := by
  simp only [State.placeOnConveyor]
  (repeat' split) <;> simp

@[simp] theorem State.seatRead_fixed (s : State) (id : Nat) :
    (s.seatRead id).fixed = s.fixed := by
  simp only [State.seatRead]
  (repeat' split) <;> simp

@[simp] theorem State.acceptRead_fixed (s : State) (value : Nat) :
    (s.acceptRead value).fixed = s.fixed := by
  simp only [State.acceptRead]
  (repeat' split) <;> simp

@[simp] theorem State.lowerCertainty_fixed (s : State) (k : Nat) (c : Certainty) :
    (s.lowerCertainty k c).fixed = s.fixed := by
  simp [State.lowerCertainty]

@[simp] theorem State.furtherFault_fixed (s : State) (k : Nat) (cause : SegCause) :
    (s.furtherFault k cause).fixed = s.fixed := by
  unfold State.furtherFault
  (repeat' split) <;> simp

@[simp] theorem State.postMotionFault_fixed (s : State) (k : Nat) (cause : SegCause) :
    (s.postMotionFault k cause).fixed = s.fixed := by
  simp [State.postMotionFault]

@[simp] theorem State.driveSuperseded_fixed (s : State) (k : Nat) (code : CmdCode) :
    (s.driveSuperseded k code).fixed = s.fixed := by
  unfold State.driveSuperseded
  (repeat' split) <;> simp

@[simp] theorem State.postFeedhold_fixed (s : State) (k : Nat) :
    (s.postFeedhold k).fixed = s.fixed := by
  simp only [State.postFeedhold]
  (repeat' split) <;> simp

@[simp] theorem State.leaveQueue_fixed (s : State) (k : Nat) (was target : SegState) :
    (s.leaveQueue k was target).fixed = s.fixed := by
  unfold State.leaveQueue
  (repeat' split) <;> simp

@[simp] theorem State.scFault_fixed (s : State) (k : Nat) (cause : SegCause) :
    (s.scFault k cause).fixed = s.fixed := by
  simp only [State.scFault]
  (repeat' split) <;> simp

@[simp] theorem State.indexComplete_fixed (s : State) (k : Nat) :
    (s.indexComplete k).fixed = s.fixed := by
  simp [State.indexComplete]

@[simp] theorem State.phaseComplete_fixed (s : State) (k : Nat) (st : SegState) (completion : DrivePhase) :
    (s.phaseComplete k st completion).fixed = s.fixed := by
  simp only [State.phaseComplete]
  (repeat' split) <;> simp

@[simp] theorem State.motionReport_fixed (s : State) (k : Nat) (st : SegState) (parts : PhaseParts) (p : DrivePhase) :
    (s.motionReport k st parts p).fixed = s.fixed := by
  unfold State.motionReport
  (repeat' split) <;> simp

@[simp] theorem State.barAtRest_fixed (s : State) (k : Nat) :
    (s.barAtRest k).fixed = s.fixed := by
  simp [State.barAtRest]

@[simp] theorem State.barReport_fixed (s : State) (k : Nat) (p : DrivePhase) :
    (s.barReport k p).fixed = s.fixed := by
  unfold State.barReport
  (repeat' split) <;> simp

@[simp] theorem State.segCleared_fixed (s : State) (k : Nat) :
    (s.segCleared k).fixed = s.fixed := by
  unfold State.segCleared
  (repeat' split) <;> simp

@[simp] theorem State.faultReport_fixed (s : State) (k : Nat) (p : DrivePhase) :
    (s.faultReport k p).fixed = s.fixed := by
  unfold State.faultReport
  (repeat' split) <;> simp

@[simp] theorem State.driveReport_fixed (s : State) (k : Nat) (p : DrivePhase) :
    (s.driveReport k p).fixed = s.fixed := by
  simp only [State.driveReport]
  (repeat' split) <;> simp

@[simp] theorem State.startPhase_fixed (s : State) (k limit : Nat) :
    (s.startPhase k limit).fixed = s.fixed := by
  unfold State.startPhase
  (repeat' split) <;> simp

@[simp] theorem State.feedholdDelivered_fixed (s : State) (k : Nat) :
    (s.feedholdDelivered k).fixed = s.fixed := by
  simp only [State.feedholdDelivered]
  (repeat' split) <;> simp

@[simp] theorem State.resumeDelivered_fixed (s : State) (k : Nat) :
    (s.resumeDelivered k).fixed = s.fixed := by
  unfold State.resumeDelivered
  (repeat' split) <;> simp

@[simp] theorem State.actOnDelivery_fixed (s : State) (k : Nat) (code : CmdCode) :
    (s.actOnDelivery k code).fixed = s.fixed := by
  unfold State.actOnDelivery
  (repeat' split) <;> simp

@[simp] theorem State.driveDelivered_fixed (s : State) (k : Nat) (code : CmdCode) :
    (s.driveDelivered k code).fixed = s.fixed := by
  simp [State.driveDelivered]

@[simp] theorem State.segClearFails_fixed (s : State) (k : Nat) (cause : SegCause) :
    (s.segClearFails k cause).fixed = s.fixed := by
  simp [State.segClearFails]

@[simp] theorem State.actOnRefusal_fixed (s : State) (k : Nat) (code : CmdCode) :
    (s.actOnRefusal k code).fixed = s.fixed := by
  unfold State.actOnRefusal
  (repeat' split) <;> simp

@[simp] theorem State.driveRefused_fixed (s : State) (k : Nat) (code : CmdCode) :
    (s.driveRefused k code).fixed = s.fixed := by
  simp [State.driveRefused]

@[simp] theorem State.driveLost_fixed (s : State) (k : Nat) :
    (s.driveLost k).fixed = s.fixed := by
  simp only [State.driveLost]
  (repeat' split) <;> simp

@[simp] theorem State.feedHold_fixed (s : State) (k : Nat) :
    (s.feedHold k).fixed = s.fixed := by
  unfold State.feedHold
  (repeat' split) <;> simp

@[simp] theorem State.holdSegment_fixed (s : State) (k : Nat) :
    (s.holdSegment k).fixed = s.fixed := by
  simp only [State.holdSegment]
  (repeat' split) <;> simp

@[simp] theorem State.feedContinue_fixed (s : State) (k : Nat) :
    (s.feedContinue k).fixed = s.fixed := by
  unfold State.feedContinue
  (repeat' split) <;> simp

@[simp] theorem State.continueSegment_fixed (s : State) (k : Nat) :
    (s.continueSegment k).fixed = s.fixed := by
  simp only [State.continueSegment]
  (repeat' split) <;> simp

@[simp] theorem State.startSegment_fixed (s : State) (k : Nat) :
    (s.startSegment k).fixed = s.fixed := by
  unfold State.startSegment
  (repeat' split) <;> simp

@[simp] theorem State.stopSegment_fixed (s : State) (k : Nat) :
    (s.stopSegment k).fixed = s.fixed := by
  unfold State.stopSegment
  (repeat' split) <;> simp

@[simp] theorem State.haltSegment_fixed (s : State) (k : Nat) :
    (s.haltSegment k).fixed = s.fixed := by
  simp only [State.haltSegment]
  (repeat' split) <;> simp

@[simp] theorem State.phaseExpires_fixed (s : State) (k : Nat) :
    (s.phaseExpires k).fixed = s.fixed := by
  unfold State.phaseExpires
  (repeat' split) <;> simp

@[simp] theorem State.feedWaitExpires_fixed (s : State) (k : Nat) :
    (s.feedWaitExpires k).fixed = s.fixed := by
  unfold State.feedWaitExpires
  (repeat' split) <;> simp

@[simp] theorem State.segClearExpires_fixed (s : State) (k : Nat) :
    (s.segClearExpires k).fixed = s.fixed := by
  unfold State.segClearExpires
  (repeat' split) <;> simp

@[simp] theorem State.hpuReport_fixed (s : State) (pump alarm : Bool) :
    (s.hpuReport pump alarm).fixed = s.fixed := by
  simp only [State.hpuReport]
  (repeat' split) <;> simp

@[simp] theorem State.hpuLost_fixed (s : State) :
    (s.hpuLost).fixed = s.fixed := by
  simp only [State.hpuLost]
  (repeat' split) <;> simp

@[simp] theorem State.ownerNotice_fixed (s : State) (r : Role) (st : NodeStatus) (isReturn : Bool) :
    (s.ownerNotice r st isReturn).fixed = s.fixed := by
  unfold State.ownerNotice
  (repeat' split) <;> simp

@[simp] theorem State.ownerLost_fixed (s : State) (r : Role) :
    (s.ownerLost r).fixed = s.fixed := by
  unfold State.ownerLost
  (repeat' split) <;> simp

@[simp] theorem State.ownerDelivered_fixed (s : State) (r : Role) (code : CmdCode) :
    (s.ownerDelivered r code).fixed = s.fixed := by
  unfold State.ownerDelivered
  (repeat' split) <;> simp

@[simp] theorem State.ownerRefused_fixed (s : State) (r : Role) (code : CmdCode) :
    (s.ownerRefused r code).fixed = s.fixed := by
  unfold State.ownerRefused
  (repeat' split) <;> simp

@[simp] theorem State.ownerReport_fixed (s : State) (r : Role) (rep : Report) :
    (s.ownerReport r rep).fixed = s.fixed := by
  unfold State.ownerReport
  (repeat' split) <;> simp

@[simp] theorem State.nodeAnswers_fixed (s : State) (a : Nat) (n : Node) :
    (s.nodeAnswers a n).fixed = s.fixed := by
  simp only [State.nodeAnswers]
  (repeat' split) <;> simp

@[simp] theorem State.nodeEchoes_fixed (s : State) (a : Nat) (n : Node) (e : Echo) :
    (s.nodeEchoes a n e).fixed = s.fixed := by
  simp only [State.nodeEchoes]
  (repeat' split) <;> simp

@[simp] theorem State.goodReply_fixed (s : State) (a : Nat) (n : Node) (e : Echo) (rep : Report) :
    (s.goodReply a n e rep).fixed = s.fixed := by
  simp [State.goodReply]

@[simp] theorem State.nodeLost_fixed (s : State) (a : Nat) (n : Node) (misses : Nat) :
    (s.nodeLost a n misses).fixed = s.fixed := by
  simp [State.nodeLost]

@[simp] theorem State.nodeMisses_fixed (s : State) (a : Nat) (n : Node) :
    (s.nodeMisses a n).fixed = s.fixed := by
  simp only [State.nodeMisses]
  (repeat' split) <;> simp

@[simp] theorem State.ownerSuperseded_fixed (s : State) (r : Role) (code : CmdCode) :
    (s.ownerSuperseded r code).fixed = s.fixed := by
  unfold State.ownerSuperseded
  (repeat' split) <;> simp

@[simp] theorem State.haltNode_fixed (s : State) (a : Nat) :
    (s.haltNode a).fixed = s.fixed := by
  unfold State.haltNode
  (repeat' split) <;> simp

@[simp] theorem State.modeSegment_fixed (s : State) (k : Nat) :
    (s.modeSegment k).fixed = s.fixed := by
  unfold State.modeSegment
  (repeat' split) <;> simp

@[simp] theorem State.grantPermit_fixed (s : State) (k : Nat) :
    (s.grantPermit k).fixed = s.fixed := by
  unfold State.grantPermit
  (repeat' split) <;> simp

end Sys2Proof.Machine
end

