-- ==== Sys2Proof/Laws/Still.lean ====
section
/-! SUPPORT. What the flow of segments leaves as it was: one lemma for each operation of readiness, room,
admission and withdrawal, saying that it keeps the view `State.still`. -/

namespace Sys2Proof.Machine

/-! ## The primitive updates -/

@[simp] theorem State.modSeg_still (s : State) (k : Nat) (f : Segment → Segment) :
    (s.modSeg k f).still = s.still := by
  simp [State.still, tableModify_map]

@[simp] theorem State.setCommon_still (s : State) (k : Nat) (c : CommonState) :
    (s.setCommon k c).still = s.still := by
  simp [State.still, tableModify_map]

/-- A change to a conveyor that concerns its reservations and room requests alone. -/
@[simp] theorem State.modConv_still (s : State) (c : ConvId) (f : Conveyor → Conveyor)
    (h : ∀ v, { f v with reservations := [], requests := [] }
      = ({ v with reservations := [], requests := [] } : Conveyor)) :
    (s.modConv c f).still = s.still := by
  simp [State.still, tableModify_map, h]

/-- A change to a node that concerns its pending command alone. -/
@[simp] theorem State.modNode_still (s : State) (a : Nat) (f : Node → Node)
    (h : ∀ n, { f n with pending := none } = ({ n with pending := none } : Node)) :
    (s.modNode a f).still = s.still := by
  simp [State.still, tableModify_map, h]

/-- A change to a pallet that concerns its overdue flag alone. -/
@[simp] theorem State.modPallet_still (s : State) (id : Nat) (f : Pallet → Pallet)
    (h : ∀ p, { f p with overdue := false } = ({ p with overdue := false } : Pallet)) :
    (s.modPallet id f).still = s.still := by
  simp [State.still, tableModify_map, h]

/-- A change to a segment's map that concerns its open index alone. -/
@[simp] theorem State.modSegMap_still (s : State) (k : Nat) (f : SegMap → SegMap)
    (h : ∀ m, { f m with openIndex := none } = ({ m with openIndex := none } : SegMap)) :
    (s.modSegMap k f).still = s.still := by
  simp [State.still, State.modSegMap, tableModify_map, h]

@[simp] theorem State.modAda_still (s : State) (f : Ada → Ada) : (s.modAda f).still = s.still := rfl

/-- A change to the Route Unit that concerns the postponement note alone. -/
@[simp] theorem State.modRtu_still (s : State) (f : Rtu → Rtu)
    (h : ∀ r, { f r with note := none } = ({ r with note := none } : Rtu)) :
    (s.modRtu f).still = s.still := by
  simp [State.still, h]

@[simp] theorem State.post_still (s : State) (kind : EventKind) (subject : Subject)
    (pallet : Option Nat) (detail : Detail) :
    (s.post kind subject pallet detail).still = s.still := by
  simp [State.still, State.post, State.modClp, Clp.postEvent_link]

@[simp] theorem State.postCmd_still (s : State) (a : Nat) (code : CmdCode) (args : List Byte) :
    (s.postCmd a code args).still = s.still := by
  simp [State.postCmd]

@[simp] theorem State.setPassOver_still (s : State) (n : Nat) :
    (s.setPassOver n).still = s.still := rfl

@[simp] theorem State.takeNotices_still (s : State) : s.takeNotices.still = s.still := rfl

@[simp] theorem forEach_still {α : Type} {f : α → State → State}
    (h : ∀ a x, (f a x).still = x.still) (l : List α) (s : State) :
    (forEach f l s).still = s.still := forEach_view State.still h l s

/-! ## The operations -/

@[simp] theorem State.replaceCmd_still (s : State) (a : Nat) (code : CmdCode) :
    (s.replaceCmd a code).still = s.still := by
  unfold State.replaceCmd
  (repeat' split) <;> simp

@[simp] theorem State.postDrive_still (s : State) (k : Nat) (code : CmdCode) :
    (s.postDrive k code).still = s.still := by
  simp [State.postDrive]

@[simp] theorem State.owe_still (s : State) (k : Nat) (code : CmdCode) :
    (s.owe k code).still = s.still := by
  simp [State.owe]

@[simp] theorem State.needDrive_still (s : State) (k : Nat) (code : CmdCode) :
    (s.needDrive k code).still = s.still := by
  unfold State.needDrive
  (repeat' split) <;> simp

@[simp] theorem State.postOwed_still (s : State) (k : Nat) :
    (s.postOwed k).still = s.still := by
  unfold State.postOwed
  (repeat' split) <;> simp

@[simp] theorem State.scReleaseAllDue_still (s : State) (k : Nat) :
    (s.scReleaseAllDue k).still = s.still := by
  simp [State.scReleaseAllDue]

@[simp] theorem State.adaSettle_still (s : State) :
    (s.adaSettle).still = s.still := by
  simp [State.adaSettle]

@[simp] theorem State.cvtCarry_still (s : State) (k : Nat) (dest : Option ConvId) :
    (s.cvtCarry k dest).still = s.still := by
  unfold State.cvtCarry
  (repeat' split) <;> simp

@[simp] theorem State.scAdmitted_still (s : State) (k : Nat) :
    (s.scAdmitted k).still = s.still := by
  simp [State.scAdmitted]

@[simp] theorem State.adaAdmit_still (s : State) (q : AdaRequest) :
    (s.adaAdmit q).still = s.still := by
  simp [State.adaAdmit]

@[simp] theorem State.adaRefresh_still (s : State) :
    (s.adaRefresh).still = s.still := by
  simp [State.adaRefresh]

@[simp] theorem State.staggerPassed_still (s : State) : s.staggerPassed.still = s.still := by
  unfold State.staggerPassed
  split <;> simp

@[simp] theorem adaRounds_still (n : Nat) (s : State) :
    (State.adaRounds n s).still = s.still := by
  induction n generalizing s with
  | zero => simp [State.adaRounds]
  | succ n ih =>
    simp only [State.adaRounds]
    split <;> simp [ih]

@[simp] theorem State.adaEvaluate_still (s : State) : s.adaEvaluate.still = s.still := by
  simp [State.adaEvaluate]

@[simp] theorem State.adaEnqueue_still (s : State) (k : Nat) (entryTaken : Bool) (n : Nat) :
    (s.adaEnqueue k entryTaken n).still = s.still := by
  simp [State.adaEnqueue]

@[simp] theorem State.adaWithdraw_still (s : State) (k : Nat) :
    (s.adaWithdraw k).still = s.still := by
  simp [State.adaWithdraw]

@[simp] theorem State.scEnqueue_still (s : State) (k : Nat) (entryTaken : Bool) :
    (s.scEnqueue k entryTaken).still = s.still := by
  simp only [State.scEnqueue]
  (repeat' split) <;> simp

@[simp] theorem State.scFeed_still (s : State) (k : Nat) :
    (s.scFeed k).still = s.still := by
  unfold State.scFeed
  (repeat' split) <;> simp

@[simp] theorem State.stopFeed_still (s : State) (k : Nat) :
    (s.stopFeed k).still = s.still := by
  simp [State.stopFeed]

@[simp] theorem State.scRoomGranted_still (s : State) (k : Nat) (c : ConvId) :
    (s.scRoomGranted k c).still = s.still := by
  simp only [State.scRoomGranted]
  (repeat' split) <;> simp

@[simp] theorem State.addReservation_still (s : State) (c : ConvId) (h : Holder) (st : ResStatus) :
    (s.addReservation c h st).still = s.still := by
  simp [State.addReservation]

@[simp] theorem State.grantSegment_still (s : State) (c : ConvId) (k : Nat) :
    (s.grantSegment c k).still = s.still := by
  simp [State.grantSegment]

@[simp] theorem State.grantSpur_still (s : State) :
    (s.grantSpur).still = s.still := by
  simp [State.grantSpur]

@[simp] theorem grantRounds_still (c : ConvId) (n : Nat) (s : State) :
    (State.grantRounds c n s).still = s.still := by
  induction n generalizing s with
  | zero => simp [State.grantRounds]
  | succ n ih =>
    simp only [State.grantRounds]
    (repeat' split) <;> simp [ih]

@[simp] theorem mergeRounds_still (n : Nat) (s : State) :
    (State.mergeRounds n s).still = s.still := by
  induction n generalizing s with
  | zero => simp [State.mergeRounds]
  | succ n ih =>
    simp only [State.mergeRounds]
    (repeat' split) <;> simp [ih]

@[simp] theorem State.grantPass_still (s : State) (c : ConvId) :
    (s.grantPass c).still = s.still := by
  simp only [State.grantPass]
  split <;> simp

@[simp] theorem State.requestRoom_still (s : State) (c : ConvId) (h : Holder) :
    (s.requestRoom c h).still = s.still := by
  simp [State.requestRoom]

@[simp] theorem State.cancelRequest_still (s : State) (c : ConvId) (h : Holder) :
    (s.cancelRequest c h).still = s.still := by
  simp [State.cancelRequest]

@[simp] theorem State.removeReservation_still (s : State) (c : ConvId) (h : Holder) :
    (s.removeReservation c h).still = s.still := by
  simp [State.removeReservation]

@[simp] theorem State.releaseRoom_still (s : State) (c : ConvId) (h : Holder) :
    (s.releaseRoom c h).still = s.still := by
  simp [State.releaseRoom]

@[simp] theorem State.giveUpRoom_still (s : State) (k : Nat) :
    (s.giveUpRoom k).still = s.still := by
  simp only [State.giveUpRoom]
  (repeat' split) <;> simp

@[simp] theorem State.postpone_still (s : State) (id laps : Nat) :
    (s.postpone id laps).still = s.still := by
  simp only [State.postpone]
  (repeat' split) <;> simp

@[simp] theorem State.divertChoice_still (s : State) (id : Nat) :
    (s.divertChoice id).still = s.still := by
  simp only [State.divertChoice]
  (repeat' split) <;> simp

@[simp] theorem State.seekRoom_still (s : State) (k id : Nat) :
    (s.seekRoom k id).still = s.still := by
  simp only [State.seekRoom]
  (repeat' split) <;> simp

@[simp] theorem State.scTest_still (s : State) (k : Nat) :
    (s.scTest k).still = s.still := by
  simp only [State.scTest]
  (repeat' split) <;> simp

@[simp] theorem State.scMaybeReady_still (s : State) (k : Nat) :
    (s.scMaybeReady k).still = s.still := by
  unfold State.scMaybeReady
  (repeat' split) <;> simp

@[simp] theorem State.scWithdraw_still (s : State) (k : Nat) (target : SegState) (releaseIt : Bool) :
    (s.scWithdraw k target releaseIt).still = s.still := by
  simp only [State.scWithdraw]
  (repeat' split) <;> simp

@[simp] theorem State.scStationsFree_still (s : State) (k : Nat) (free : Bool) :
    (s.scStationsFree k free).still = s.still := by
  simp only [State.scStationsFree]
  (repeat' split) <;> simp

@[simp] theorem State.sqsAfter_still (s : State) (k : Nat) :
    (s.sqsAfter k).still = s.still := by
  simp only [State.sqsAfter]
  (repeat' split) <;> simp

@[simp] theorem State.commonSuperseded_still (s : State) (k : Nat) :
    (s.commonSuperseded k).still = s.still := by
  simp [State.commonSuperseded]

@[simp] theorem State.withdrawReservation_still (s : State) (c : ConvId) (k : Nat) :
    (s.withdrawReservation c k).still = s.still := by
  simp only [State.withdrawReservation]
  (repeat' split) <;> simp

@[simp] theorem State.withdrawCounting_still (s : State) (l : List Nat) :
    (s.withdrawCounting l).still = s.still := by
  simp [State.withdrawCounting]

@[simp] theorem State.postMotionFault_still (s : State) (k : Nat) (cause : SegCause) :
    (s.postMotionFault k cause).still = s.still := by
  simp [State.postMotionFault]

@[simp] theorem State.driveSuperseded_still (s : State) (k : Nat) (code : CmdCode) :
    (s.driveSuperseded k code).still = s.still := by
  unfold State.driveSuperseded
  (repeat' split) <;> simp

@[simp] theorem State.postFeedhold_still (s : State) (k : Nat) :
    (s.postFeedhold k).still = s.still := by
  simp only [State.postFeedhold]
  (repeat' split) <;> simp

@[simp] theorem State.leaveQueue_still (s : State) (k : Nat) (was target : SegState) :
    (s.leaveQueue k was target).still = s.still := by
  unfold State.leaveQueue
  (repeat' split) <;> simp

@[simp] theorem State.barAtRest_still (s : State) (k : Nat) :
    (s.barAtRest k).still = s.still := by
  simp [State.barAtRest]

@[simp] theorem State.segCleared_still (s : State) (k : Nat) :
    (s.segCleared k).still = s.still := by
  unfold State.segCleared
  (repeat' split) <;> simp

@[simp] theorem State.startPhase_still (s : State) (k limit : Nat) :
    (s.startPhase k limit).still = s.still := by
  unfold State.startPhase
  (repeat' split) <;> simp

@[simp] theorem State.feedholdDelivered_still (s : State) (k : Nat) :
    (s.feedholdDelivered k).still = s.still := by
  simp only [State.feedholdDelivered]
  (repeat' split) <;> simp

@[simp] theorem State.resumeDelivered_still (s : State) (k : Nat) :
    (s.resumeDelivered k).still = s.still := by
  unfold State.resumeDelivered
  (repeat' split) <;> simp

@[simp] theorem State.segClearFails_still (s : State) (k : Nat) (cause : SegCause) :
    (s.segClearFails k cause).still = s.still := by
  simp [State.segClearFails]

@[simp] theorem State.feedHold_still (s : State) (k : Nat) : (s.feedHold k).still = s.still := by
  unfold State.feedHold
  (repeat' split) <;> simp

@[simp] theorem State.holdSegment_still (s : State) (k : Nat) :
    (s.holdSegment k).still = s.still := by
  simp only [State.holdSegment]
  (repeat' split) <;> simp

@[simp] theorem State.feedContinue_still (s : State) (k : Nat) :
    (s.feedContinue k).still = s.still := by
  unfold State.feedContinue
  (repeat' split) <;> simp

@[simp] theorem State.startSegment_still (s : State) (k : Nat) :
    (s.startSegment k).still = s.still := by
  unfold State.startSegment
  (repeat' split) <;> simp

@[simp] theorem State.stopSegment_still (s : State) (k : Nat) :
    (s.stopSegment k).still = s.still := by
  unfold State.stopSegment
  (repeat' split) <;> simp

@[simp] theorem State.feedWaitExpires_still (s : State) (k : Nat) :
    (s.feedWaitExpires k).still = s.still := by
  unfold State.feedWaitExpires
  (repeat' split) <;> simp

@[simp] theorem State.segClearExpires_still (s : State) (k : Nat) :
    (s.segClearExpires k).still = s.still := by
  unfold State.segClearExpires
  (repeat' split) <;> simp

@[simp] theorem State.modeSegment_still (s : State) (k : Nat) :
    (s.modeSegment k).still = s.still := by
  unfold State.modeSegment
  (repeat' split) <;> simp

end Sys2Proof.Machine
end

