-- ==== Sys2Proof/Laws/Within.lean ====
section
/-! SUPPORT. Every operation keeps the ranges of `State.within`: the Event Queue's length, the Reserve
Model, the lift history and the pass-over count. -/

namespace Sys2Proof.Machine

/-! ## The primitive updates -/

@[simp] theorem State.modSeg_within (s : State) (k : Nat) (f : Segment → Segment) :
    (s.modSeg k f).within ↔ s.within := .rfl

@[simp] theorem State.modStation_within (s : State) (n : Nat) (f : Station → Station) :
    (s.modStation n f).within ↔ s.within := .rfl

@[simp] theorem State.setCommon_within (s : State) (k : Nat) (c : CommonState) :
    (s.setCommon k c).within ↔ s.within := .rfl

@[simp] theorem State.modConv_within (s : State) (c : ConvId) (f : Conveyor → Conveyor) :
    (s.modConv c f).within ↔ s.within := .rfl

@[simp] theorem State.modNode_within (s : State) (a : Nat) (f : Node → Node) :
    (s.modNode a f).within ↔ s.within := .rfl

@[simp] theorem State.modPallet_within (s : State) (id : Nat) (f : Pallet → Pallet) :
    (s.modPallet id f).within ↔ s.within := .rfl

@[simp] theorem State.modRtu_within (s : State) (f : Rtu → Rtu) :
    (s.modRtu f).within ↔ s.within := .rfl

@[simp] theorem State.modLsv_within (s : State) (f : Lsv → Lsv) :
    (s.modLsv f).within ↔ s.within := .rfl

@[simp] theorem State.setPermit_within (s : State) (k : Nat) (p : Bool) :
    (s.setPermit k p).within ↔ s.within := .rfl

@[simp] theorem State.postCmd_within (s : State) (a : Nat) (code : CmdCode) (args : List Byte) :
    (s.postCmd a code args).within ↔ s.within := .rfl

@[simp] theorem State.modSegMap_within (s : State) (k : Nat) (f : SegMap → SegMap) :
    (s.modSegMap k f).within ↔ s.within := .rfl

@[simp] theorem State.setList_within (s : State) (c : ConvId) (l : List Entry) :
    (s.setList c l).within ↔ s.within := .rfl

@[simp] theorem State.syncPlacements_within (s : State) : s.syncPlacements.within ↔ s.within := .rfl

@[simp] theorem State.setTag_within (s : State) (c : TagCheck) :
    (s.setTag c).within ↔ s.within := .rfl

@[simp] theorem State.modSbm_within (s : State) (f : Sbm → Sbm) :
    (s.modSbm f).within ↔ s.within := .rfl

@[simp] theorem State.takeNotices_within (s : State) : s.takeNotices.within ↔ s.within := .rfl

/-- A posting keeps the Event Queue within its capacity (R184). -/
theorem Clp.postEvent_length (c : Clp) (e : Event)
    (h : c.events.length ≤ Config.eventQueueCapacity) :
    (c.postEvent e).events.length ≤ Config.eventQueueCapacity := by
  unfold Clp.postEvent
  split
  · simpa using ‹c.events.length < _›
  · simp [Config.eventQueueCapacity] at *
    omega

@[simp] theorem State.post_within (s : State) (kind : EventKind) (subject : Subject)
    (pallet : Option Nat) (detail : Detail) (hw : s.within) :
    (s.post kind subject pallet detail).within :=
  ⟨Clp.postEvent_length _ _ hw.1, hw.2⟩

@[simp] theorem forEach_within {α : Type} {f : α → State → State}
    (h : ∀ a x, x.within → (f a x).within) (l : List α) (s : State) (hw : s.within) :
    (forEach f l s).within := forEach_keeps h l hw

/-! ## The operations -/

@[simp] theorem State.replaceCmd_within (s : State) (a : Nat) (code : CmdCode) (hw : s.within) :
    (s.replaceCmd a code).within := by
  unfold State.replaceCmd
  (repeat' split) <;> simp (maxDischargeDepth := 40) +contextual [hw]

@[simp] theorem State.postDrive_within (s : State) (k : Nat) (code : CmdCode) (hw : s.within) :
    (s.postDrive k code).within := by
  simp (maxDischargeDepth := 40) +contextual [State.postDrive, hw]

@[simp] theorem State.countIndex_within (s : State) (id : Nat) (hw : s.within) :
    (s.countIndex id).within := by
  simp (maxDischargeDepth := 40) +contextual [State.countIndex, hw]

@[simp] theorem State.countLap_within (s : State) (id : Nat) (hw : s.within) :
    (s.countLap id).within := by
  simp (maxDischargeDepth := 40) +contextual [State.countLap, hw]

@[simp] theorem State.modWorkpiece_within (s : State) (id : Nat) (f : Workpiece → Workpiece) (hw : s.within) :
    (s.modWorkpiece id f).within := by
  simp (maxDischargeDepth := 40) +contextual [State.modWorkpiece, hw]

@[simp] theorem State.trkOpDone_within (s : State) (n id : Nat) (hw : s.within) :
    (s.trkOpDone n id).within := by
  simp only [State.trkOpDone]
  (repeat' split) <;> simp (maxDischargeDepth := 40) +contextual [hw]

@[simp] theorem State.trkOpMissed_within (s : State) (n id : Nat) (hw : s.within) :
    (s.trkOpMissed n id).within := by
  simp (maxDischargeDepth := 40) +contextual [State.trkOpMissed, hw]

@[simp] theorem State.trkDefect_within (s : State) (n id : Nat) (cause : DefectCause) (ms : Nat) (hw : s.within) :
    (s.trkDefect n id cause ms).within := by
  simp (maxDischargeDepth := 40) +contextual [State.trkDefect, hw]

@[simp] theorem State.owe_within (s : State) (k : Nat) (code : CmdCode) (hw : s.within) :
    (s.owe k code).within := by
  simp (maxDischargeDepth := 40) +contextual [State.owe, hw]

@[simp] theorem State.needDrive_within (s : State) (k : Nat) (code : CmdCode) (hw : s.within) :
    (s.needDrive k code).within := by
  unfold State.needDrive
  (repeat' split) <;> simp (maxDischargeDepth := 40) +contextual [hw]

@[simp] theorem State.postOwed_within (s : State) (k : Nat) (hw : s.within) :
    (s.postOwed k).within := by
  unfold State.postOwed
  (repeat' split) <;> simp (maxDischargeDepth := 40) +contextual [hw]

@[simp] theorem State.scReleaseAllDue_within (s : State) (k : Nat) (hw : s.within) :
    (s.scReleaseAllDue k).within := by
  simp (maxDischargeDepth := 40) +contextual [State.scReleaseAllDue, hw]

@[simp] theorem State.adaSettle_within (s : State) (hw : s.within) : s.adaSettle.within := hw

@[simp] theorem State.cvtCarry_within (s : State) (k : Nat) (dest : Option ConvId) (hw : s.within) :
    (s.cvtCarry k dest).within := by
  unfold State.cvtCarry
  (repeat' split) <;> simp (maxDischargeDepth := 40) +contextual [hw]

/-- The request that a scan admits meets all four conditions (R109). -/
theorem State.scanQueue_admissible {s : State} {l : List AdaRequest} {q : AdaRequest}
    (h : s.scanQueue l = some q) : s.admissible q = true ∧ q ∈ l := by
  induction l with
  | nil => cases h
  | cons a rest ih =>
    simp only [State.scanQueue] at h
    split at h
    · cases h; exact ⟨‹_›, .head _⟩
    · split at h
      · cases h
      · exact ⟨(ih h).1, .tail _ (ih h).2⟩

/-- An admissible request finds room in H (R103). -/
theorem State.admissible_window {s : State} {q : AdaRequest} (h : s.admissible q = true) :
    s.ada.h.length < s.cfg.line.wMax := by
  simp [State.admissible, Ada.windowHolds] at h
  exact h.1.1.2

/-- The Segment Controller's part of an admission. -/
@[simp] theorem State.scAdmitted_within (s : State) (k : Nat) (hw : s.within) :
    (s.scAdmitted k).within := by
  simp (maxDischargeDepth := 40) [State.scAdmitted, hw]

/-- An admission keeps the ranges: it takes from R, and H had room (R101, R103, R110). -/
theorem State.adaAdmit_within {s : State} {q : AdaRequest} (hq : s.admissible q = true)
    (hw : s.within) : (s.adaAdmit q).within := by
  have hh := State.admissible_window hq
  obtain ⟨h1, ⟨h2, h3, h4⟩, h5⟩ := hw
  apply State.scAdmitted_within
  refine ⟨h1, ⟨?_, h3, ?_⟩, h5⟩
  · exact (Nat.sub_le _ _).trans h2
  · simpa using hh

/-- An update keeps the Reserve Model in range: the Cap clip and the carry's remainder (R97). -/
theorem Ada.update_within {a : Ada} {l : LineRecord} (now : LineTime) (h : a.within l) :
    (a.update l now).within l := by
  obtain ⟨h1, h2, h3⟩ := h
  simp only [Ada.update]
  (repeat' split) <;> simp_all [Ada.within]
  omega

/-- Removing entries keeps H in range (R103). -/
theorem Ada.prune_within {a : Ada} {l : LineRecord} (now : LineTime) (h : a.within l) :
    (a.prune l now).within l :=
  ⟨h.1, h.2.1, (List.length_filter_le _ _).trans h.2.2⟩

@[simp] theorem State.adaRefresh_within (s : State) (hw : s.within) : s.adaRefresh.within :=
  ⟨hw.1, Ada.prune_within _ (Ada.update_within _ hw.2.1), hw.2.2⟩

@[simp] theorem State.staggerPassed_within (s : State) (hw : s.within) : s.staggerPassed.within := by
  unfold State.staggerPassed
  split
  · exact ⟨hw.1, hw.2.1, hw.2.2⟩
  · exact hw

@[simp] theorem adaRounds_within (n : Nat) (s : State) (hw : s.within) :
    (State.adaRounds n s).within := by
  induction n generalizing s with
  | zero => simp [State.adaRounds, hw]
  | succ n ih =>
    simp only [State.adaRounds]
    split
    · next q hq =>
      exact State.staggerPassed_within _ (ih _ (State.adaAdmit_within (State.scanQueue_admissible hq).1
        (State.adaRefresh_within s hw)))
    · simp (maxDischargeDepth := 40) +contextual [hw]

@[simp] theorem State.adaEvaluate_within (s : State) (hw : s.within) : s.adaEvaluate.within :=
  adaRounds_within _ _ hw

@[simp] theorem State.adaEnqueue_within (s : State) (k : Nat) (entryTaken : Bool) (n : Nat)
    (hw : s.within) : (s.adaEnqueue k entryTaken n).within :=
  State.adaEvaluate_within _ hw

@[simp] theorem State.adaWithdraw_within (s : State) (k : Nat) (hw : s.within) :
    (s.adaWithdraw k).within :=
  State.adaEvaluate_within _ hw

@[simp] theorem State.scEnqueue_within (s : State) (k : Nat) (entryTaken : Bool) (hw : s.within) :
    (s.scEnqueue k entryTaken).within := by
  simp only [State.scEnqueue]
  (repeat' split) <;> simp (maxDischargeDepth := 40) +contextual [hw]

@[simp] theorem State.scFeed_within (s : State) (k : Nat) (hw : s.within) :
    (s.scFeed k).within := by
  unfold State.scFeed
  (repeat' split) <;> simp (maxDischargeDepth := 40) +contextual [hw]

@[simp] theorem State.stopFeed_within (s : State) (k : Nat) (hw : s.within) :
    (s.stopFeed k).within := by
  simp (maxDischargeDepth := 40) +contextual [State.stopFeed, hw]

@[simp] theorem State.scRoomGranted_within (s : State) (k : Nat) (c : ConvId) (hw : s.within) :
    (s.scRoomGranted k c).within := by
  simp only [State.scRoomGranted]
  (repeat' split) <;> simp (maxDischargeDepth := 40) +contextual [hw]

@[simp] theorem State.addReservation_within (s : State) (c : ConvId) (h : Holder) (st : ResStatus) (hw : s.within) :
    (s.addReservation c h st).within := by
  simp (maxDischargeDepth := 40) +contextual [State.addReservation, hw]

@[simp] theorem State.grantSegment_within (s : State) (c : ConvId) (k : Nat) (hw : s.within) :
    (s.grantSegment c k).within := by
  simp (maxDischargeDepth := 40) +contextual [State.grantSegment, hw]

@[simp] theorem State.grantSpur_within (s : State) (hw : s.within) :
    s.grantSpur.within := by
  simp (maxDischargeDepth := 40) +contextual [State.grantSpur, hw]

@[simp] theorem grantRounds_within (c : ConvId) (n : Nat) (s : State) (hw : s.within) :
    (State.grantRounds c n s).within := by
  induction n generalizing s with
  | zero => simp [State.grantRounds, hw]
  | succ n ih =>
    simp only [State.grantRounds]
    (repeat' split) <;> simp [ih, hw]

/-- A pass-over count in range keeps the ranges. -/
theorem State.setPassOver_within {s : State} {n : Nat} (hn : n ≤ s.cfg.line.m) (hw : s.within) :
    (s.setPassOver n).within :=
  ⟨hw.1, hw.2.1, hn⟩

@[simp] theorem mergeRounds_within (n : Nat) (s : State) (hw : s.within) :
    (State.mergeRounds n s).within := by
  induction n generalizing s with
  | zero => exact hw
  | succ n ih =>
    simp only [State.mergeRounds]
    repeat' split
    · exact ih _ (State.grantSegment_within _ _ _ (State.setPassOver_within (by omega) hw))
    · exact ih _ (State.grantSpur_within _ (State.setPassOver_within (Nat.zero_le _) hw))
    · exact ih _ (State.grantSpur_within _ (State.setPassOver_within (Nat.zero_le _) hw))
    · exact ih _ (State.grantSegment_within _ _ _ hw)
    · exact hw
    · exact hw

@[simp] theorem State.grantPass_within (s : State) (c : ConvId) (hw : s.within) :
    (s.grantPass c).within := by
  simp only [State.grantPass]
  split <;> simp (maxDischargeDepth := 40) +contextual [hw]

@[simp] theorem State.requestRoom_within (s : State) (c : ConvId) (h : Holder) (hw : s.within) :
    (s.requestRoom c h).within := by
  simp (maxDischargeDepth := 40) +contextual [State.requestRoom, hw]

@[simp] theorem State.cancelRequest_within (s : State) (c : ConvId) (h : Holder) (hw : s.within) :
    (s.cancelRequest c h).within := by
  simp (maxDischargeDepth := 40) +contextual [State.cancelRequest, hw]

@[simp] theorem State.removeReservation_within (s : State) (c : ConvId) (h : Holder) (hw : s.within) :
    (s.removeReservation c h).within := by
  simp (maxDischargeDepth := 40) +contextual [State.removeReservation, hw]

@[simp] theorem State.releaseRoom_within (s : State) (c : ConvId) (h : Holder) (hw : s.within) :
    (s.releaseRoom c h).within := by
  simp (maxDischargeDepth := 40) +contextual [State.releaseRoom, hw]

@[simp] theorem State.giveUpRoom_within (s : State) (k : Nat) (hw : s.within) :
    (s.giveUpRoom k).within := by
  simp only [State.giveUpRoom]
  (repeat' split) <;> simp (maxDischargeDepth := 40) +contextual [hw]

@[simp] theorem State.postpone_within (s : State) (id laps : Nat) (hw : s.within) :
    (s.postpone id laps).within := by
  simp only [State.postpone]
  (repeat' split) <;> simp (maxDischargeDepth := 40) +contextual [hw]

@[simp] theorem State.divertChoice_within (s : State) (id : Nat) (hw : s.within) :
    (s.divertChoice id).within := by
  simp only [State.divertChoice]
  (repeat' split) <;> simp (maxDischargeDepth := 40) +contextual [hw]

@[simp] theorem State.seekRoom_within (s : State) (k id : Nat) (hw : s.within) :
    (s.seekRoom k id).within := by
  simp only [State.seekRoom]
  (repeat' split) <;> simp (maxDischargeDepth := 40) +contextual [hw]

@[simp] theorem State.scTest_within (s : State) (k : Nat) (hw : s.within) :
    (s.scTest k).within := by
  simp only [State.scTest]
  (repeat' split) <;> simp (maxDischargeDepth := 40) +contextual [hw]

@[simp] theorem State.scMaybeReady_within (s : State) (k : Nat) (hw : s.within) :
    (s.scMaybeReady k).within := by
  unfold State.scMaybeReady
  (repeat' split) <;> simp (maxDischargeDepth := 40) +contextual [hw]

@[simp] theorem State.scWithdraw_within (s : State) (k : Nat) (target : SegState) (releaseIt : Bool) (hw : s.within) :
    (s.scWithdraw k target releaseIt).within := by
  simp only [State.scWithdraw]
  (repeat' split) <;> simp (maxDischargeDepth := 40) +contextual [hw]

@[simp] theorem State.scStationsFree_within (s : State) (k : Nat) (free : Bool) (hw : s.within) :
    (s.scStationsFree k free).within := by
  simp only [State.scStationsFree]
  (repeat' split) <;> simp (maxDischargeDepth := 40) +contextual [hw]

@[simp] theorem State.loadDone_within (s : State) (id : Nat) (hw : s.within) :
    (s.loadDone id).within := by
  simp only [State.loadDone]
  (repeat' split) <;> simp (maxDischargeDepth := 40) +contextual [hw]

@[simp] theorem State.unloadDone_within (s : State) (n id : Nat) (disposition : Disposition) (hw : s.within) :
    (s.unloadDone n id disposition).within := by
  simp only [State.unloadDone]
  (repeat' split) <;> simp (maxDischargeDepth := 40) +contextual [hw]

@[simp] theorem State.sqsAfter_within (s : State) (k : Nat) (hw : s.within) :
    (s.sqsAfter k).within := by
  simp only [State.sqsAfter]
  (repeat' split) <;> simp (maxDischargeDepth := 40) +contextual [hw]

@[simp] theorem State.outcomeGiven_within (s : State) (n : Nat) (hw : s.within) :
    (s.outcomeGiven n).within := by
  simp (maxDischargeDepth := 40) +contextual [State.outcomeGiven, hw]

@[simp] theorem State.handOn_within (s : State) (n : Nat) (e : JobEnd) (hw : s.within) :
    (s.handOn n e).within := by
  simp only [State.handOn]
  (repeat' split) <;> simp (maxDischargeDepth := 40) +contextual [hw]

@[simp] theorem State.handOnDone_within (s : State) (n : Nat) (short : Option Nat) (hw : s.within) :
    (s.handOnDone n short).within := by
  simp only [State.handOnDone]
  (repeat' split) <;> simp (maxDischargeDepth := 40) +contextual [hw]

@[simp] theorem State.stationFault_within (s : State) (n : Nat) (cause : StationCause) (e : JobEnd) (hw : s.within) :
    (s.stationFault n cause e).within := by
  simp only [State.stationFault]
  (repeat' split) <;> simp (maxDischargeDepth := 40) +contextual [hw]

@[simp] theorem State.stationIdle_within (s : State) (n : Nat) (to' : StationState) (hw : s.within) :
    (s.stationIdle n to').within := by
  simp (maxDischargeDepth := 40) +contextual [State.stationIdle, hw]

@[simp] theorem State.stationUnclamp_within (s : State) (n tUnclampMax : Nat) (hw : s.within) :
    (s.stationUnclamp n tUnclampMax).within := by
  simp (maxDischargeDepth := 40) +contextual [State.stationUnclamp, hw]

@[simp] theorem State.stationRetract_within (s : State) (n : Nat) (hw : s.within) :
    (s.stationRetract n).within := by
  simp only [State.stationRetract]
  (repeat' split) <;> simp (maxDischargeDepth := 40) +contextual [hw]

@[simp] theorem State.sqsJob_within (s : State) (n : Nat) (o : JobOrder) (hw : s.within) :
    (s.sqsJob n o).within := by
  simp only [State.sqsJob]
  (repeat' split) <;> simp (maxDischargeDepth := 40) +contextual [hw]

@[simp] theorem State.settleExpires_within (s : State) (n : Nat) (hw : s.within) :
    (s.settleExpires n).within := by
  unfold State.settleExpires
  (repeat' split) <;> simp (maxDischargeDepth := 40) +contextual [hw]

@[simp] theorem State.stationClamped_within (s : State) (n : Nat) (r : StationRecord) (hw : s.within) :
    (s.stationClamped n r).within := by
  simp only [State.stationClamped]
  (repeat' split) <;> simp (maxDischargeDepth := 40) +contextual [hw]

@[simp] theorem State.stationCycleDone_within (s : State) (n : Nat) (r : StationRecord) (hw : s.within) :
    (s.stationCycleDone n r).within := by
  simp only [State.stationCycleDone]
  (repeat' split) <;> simp (maxDischargeDepth := 40) +contextual [hw]

@[simp] theorem State.stationClearReport_within (s : State) (n : Nat) (r : StationRecord) (rep : StationReport) (hw : s.within) :
    (s.stationClearReport n r rep).within := by
  unfold State.stationClearReport
  (repeat' split) <;> simp (maxDischargeDepth := 40) +contextual [hw]

@[simp] theorem State.reportFault_within (s : State) (n : Nat) (r : StationRecord) (cause : StationCause) (e : JobEnd) (retract : Bool) (hw : s.within) :
    (s.reportFault n r cause e retract).within := by
  simp only [State.reportFault]
  (repeat' split) <;> simp (maxDischargeDepth := 40) +contextual [hw]

@[simp] theorem State.reportInReleased_within (s : State) (n : Nat) (r : StationRecord) (rep : StationReport) (hw : s.within) :
    (s.reportInReleased n r rep).within := by
  unfold State.reportInReleased
  (repeat' split) <;> simp (maxDischargeDepth := 40) +contextual [hw]

@[simp] theorem State.reportInClamping_within (s : State) (n : Nat) (r : StationRecord) (rep : StationReport) (hw : s.within) :
    (s.reportInClamping n r rep).within := by
  unfold State.reportInClamping
  (repeat' split) <;> simp (maxDischargeDepth := 40) +contextual [hw]

@[simp] theorem State.reportInClamped_within (s : State) (n : Nat) (r : StationRecord) (rep : StationReport) (hw : s.within) :
    (s.reportInClamped n r rep).within := by
  unfold State.reportInClamped
  (repeat' split) <;> simp (maxDischargeDepth := 40) +contextual [hw]

@[simp] theorem State.reportInCycle_within (s : State) (n : Nat) (r : StationRecord) (rep : StationReport) (hw : s.within) :
    (s.reportInCycle n r rep).within := by
  unfold State.reportInCycle
  (repeat' split) <;> simp (maxDischargeDepth := 40) +contextual [hw]

@[simp] theorem State.reportInDoneHeld_within (s : State) (n : Nat) (r : StationRecord) (rep : StationReport) (hw : s.within) :
    (s.reportInDoneHeld n r rep).within := by
  unfold State.reportInDoneHeld
  (repeat' split) <;> simp (maxDischargeDepth := 40) +contextual [hw]

@[simp] theorem State.reportInUnclamping_within (s : State) (n : Nat) (r : StationRecord) (rep : StationReport) (hw : s.within) :
    (s.reportInUnclamping n r rep).within := by
  unfold State.reportInUnclamping
  (repeat' split) <;> simp (maxDischargeDepth := 40) +contextual [hw]

@[simp] theorem State.reportInLockout_within (s : State) (n : Nat) (r : StationRecord) (rep : StationReport) (hw : s.within) :
    (s.reportInLockout n r rep).within := by
  unfold State.reportInLockout
  (repeat' split) <;> simp (maxDischargeDepth := 40) +contextual [hw]

@[simp] theorem State.actOnStationReport_within (s : State) (n : Nat) (r : StationRecord) (rep : StationReport) (hw : s.within) :
    (s.actOnStationReport n r rep).within := by
  unfold State.actOnStationReport
  (repeat' split) <;> simp (maxDischargeDepth := 40) +contextual [hw]

@[simp] theorem State.sqsReport_within (s : State) (n : Nat) (rep : StationReport) (faultCode : Nat) (hw : s.within) :
    (s.sqsReport n rep faultCode).within := by
  simp only [State.sqsReport]
  (repeat' split) <;> simp (maxDischargeDepth := 40) +contextual [hw]

@[simp] theorem State.sqsDelivered_within (s : State) (n : Nat) (code : CmdCode) (hw : s.within) :
    (s.sqsDelivered n code).within := by
  unfold State.sqsDelivered
  (repeat' split) <;> simp (maxDischargeDepth := 40) +contextual [hw]

@[simp] theorem State.stationClearFails_within (s : State) (n : Nat) (cause : StationCause) (hw : s.within) :
    (s.stationClearFails n cause).within := by
  simp (maxDischargeDepth := 40) +contextual [State.stationClearFails, hw]

@[simp] theorem State.sqsRefused_within (s : State) (n : Nat) (code : CmdCode) (hw : s.within) :
    (s.sqsRefused n code).within := by
  unfold State.sqsRefused
  (repeat' split) <;> simp (maxDischargeDepth := 40) +contextual [hw]

@[simp] theorem State.sqsLost_within (s : State) (n : Nat) (hw : s.within) :
    (s.sqsLost n).within := by
  simp only [State.sqsLost]
  (repeat' split) <;> simp (maxDischargeDepth := 40) +contextual [hw]

@[simp] theorem State.commonDelivered_within (s : State) (k : Nat) (hw : s.within) :
    (s.commonDelivered k).within := by
  apply State.sqsAfter_within
  refine forEach_within (fun p x hx => ?_) _ _ hw
  split <;> simp [hx]

@[simp] theorem State.commonRefused_within (s : State) (k : Nat) (hw : s.within) :
    (s.commonRefused k).within := by
  apply State.sqsAfter_within
  refine forEach_within (fun p x hx => ?_) _ _ hw
  split <;> simp [hx]

@[simp] theorem State.commonSuperseded_within (s : State) (k : Nat) (hw : s.within) :
    (s.commonSuperseded k).within := by
  simp (maxDischargeDepth := 40) +contextual [State.commonSuperseded, hw]

@[simp] theorem State.haltStation_within (s : State) (n : Nat) (hw : s.within) :
    (s.haltStation n).within := by
  unfold State.haltStation
  (repeat' split) <;> simp (maxDischargeDepth := 40) +contextual [hw]

@[simp] theorem State.haltStations_within (s : State) (hw : s.within) : s.haltStations.within := by
  have h1 : (forEach (fun n x => x.haltStation n) s.stationNumbers s).within :=
    forEach_within (fun _ _ h => State.haltStation_within _ _ h) _ _ hw
  exact forEach_within (fun _ _ h => State.sqsAfter_within _ _ h) _ _ h1

@[simp] theorem State.recoverStation_within (s : State) (n : Nat) (hw : s.within) :
    (s.recoverStation n).within := by
  simp only [State.recoverStation]
  (repeat' split) <;> simp (maxDischargeDepth := 40) +contextual [hw]

@[simp] theorem State.recoverStations_within (s : State) (hw : s.within) :
    s.recoverStations.within := by
  simp (maxDischargeDepth := 40) +contextual [State.recoverStations, hw]

@[simp] theorem State.clampExpires_within (s : State) (n : Nat) (hw : s.within) :
    (s.clampExpires n).within := by
  simp only [State.clampExpires]
  (repeat' split) <;> simp (maxDischargeDepth := 40) +contextual [hw]

@[simp] theorem State.cycleExpires_within (s : State) (n : Nat) (hw : s.within) :
    (s.cycleExpires n).within := by
  simp only [State.cycleExpires]
  (repeat' split) <;> simp (maxDischargeDepth := 40) +contextual [hw]

@[simp] theorem State.unclampExpires_within (s : State) (n : Nat) (hw : s.within) :
    (s.unclampExpires n).within := by
  unfold State.unclampExpires
  (repeat' split) <;> simp (maxDischargeDepth := 40) +contextual [hw]

@[simp] theorem State.commonExpires_within (s : State) (k : Nat) (hw : s.within) :
    (s.commonExpires k).within := by
  unfold State.commonExpires
  split
  · apply State.sqsAfter_within
    refine forEach_within (fun p x hx => ?_) _ _ hw
    split <;> simp [hx]
  · exact hw

@[simp] theorem State.stationClearExpires_within (s : State) (n : Nat) (hw : s.within) :
    (s.stationClearExpires n).within := by
  unfold State.stationClearExpires
  (repeat' split) <;> simp (maxDischargeDepth := 40) +contextual [hw]

@[simp] theorem State.withdrawReservation_within (s : State) (c : ConvId) (k : Nat) (hw : s.within) :
    (s.withdrawReservation c k).within := by
  simp only [State.withdrawReservation]
  (repeat' split) <;> simp (maxDischargeDepth := 40) +contextual [hw]

@[simp] theorem State.jam_within (s : State) (c : ConvId) (cause : JamCause) (pallet : Option Nat) (hw : s.within) :
    (s.jam c cause pallet).within := by
  simp only [State.jam]
  (repeat' split) <;> simp (maxDischargeDepth := 40) +contextual [hw]

@[simp] theorem State.travelJam_within (s : State) (c : ConvId) (hw : s.within) :
    (s.travelJam c).within := by
  simp (maxDischargeDepth := 40) +contextual [State.travelJam, hw]

@[simp] theorem State.setTravel_within (s : State) (c : ConvId) (hw : s.within) :
    (s.setTravel c).within := by
  simp (maxDischargeDepth := 40) +contextual [State.setTravel, hw]

@[simp] theorem State.syncTravel_within (s : State) (was : Option Nat) (c : ConvId) (hw : s.within) :
    (s.syncTravel was c).within := by
  simp only [State.syncTravel]
  (repeat' split) <;> simp (maxDischargeDepth := 40) +contextual [hw]

@[simp] theorem State.travelExpires_within (s : State) (c : ConvId) (hw : s.within) :
    (s.travelExpires c).within := by
  unfold State.travelExpires
  (repeat' split) <;> simp (maxDischargeDepth := 40) +contextual [hw]

@[simp] theorem State.expectMore_within (s : State) (c : ConvId) (hw : s.within) :
    (s.expectMore c).within := by
  simp (maxDischargeDepth := 40) +contextual [State.expectMore, hw]

@[simp] theorem State.expectFewer_within (s : State) (c : ConvId) (hw : s.within) :
    (s.expectFewer c).within := by
  simp (maxDischargeDepth := 40) +contextual [State.expectFewer, hw]

@[simp] theorem State.stopTravel_within (s : State) (hw : s.within) : s.stopTravel.within := hw

@[simp] theorem State.restartTravel_within (s : State) (hw : s.within) :
    s.restartTravel.within :=
  forEach_within (fun _ _ h => State.setTravel_within _ _ h) _ _ hw

@[simp] theorem State.convLost_within (s : State) (c : ConvId) (hw : s.within) :
    (s.convLost c).within := by
  simp (maxDischargeDepth := 40) +contextual [State.convLost, hw]

@[simp] theorem State.loadDecision_within (s : State) (n id : Nat) (p : Pallet) (hw : s.within) :
    (s.loadDecision n id p).within := by
  simp only [State.loadDecision]
  (repeat' split) <;> simp (maxDischargeDepth := 40) +contextual [hw]

@[simp] theorem State.arrival_within (s : State) (k j id : Nat) (hw : s.within) :
    (s.arrival k j id).within := by
  simp only [State.arrival]
  (repeat' split) <;> simp (maxDischargeDepth := 40) +contextual [hw]

@[simp] theorem State.tryCheck_within (s : State) (hw : s.within) :
    s.tryCheck.within := by
  simp only [State.tryCheck]
  (repeat' split) <;> simp (maxDischargeDepth := 40) +contextual [hw]

@[simp] theorem State.vsHeadNotice_within (s : State) (hw : s.within) :
    s.vsHeadNotice.within := by
  simp only [State.vsHeadNotice]
  (repeat' split) <;> simp (maxDischargeDepth := 40) +contextual [hw]

@[simp] theorem State.passCheck_within (s : State) (hw : s.within) :
    s.passCheck.within := by
  simp (maxDischargeDepth := 40) +contextual [State.passCheck, hw]

@[simp] theorem State.verifyPass_within (s : State) (id : Nat) (hw : s.within) :
    (s.verifyPass id).within := by
  simp (maxDischargeDepth := 40) +contextual [State.verifyPass, hw]

@[simp] theorem State.verifyFail_within (s : State) (id : Nat) (hw : s.within) :
    (s.verifyFail id).within := by
  simp (maxDischargeDepth := 40) +contextual [State.verifyFail, hw]

@[simp] theorem State.verifyReport_within (s : State) (st : VerifyState) (seq : Nat) (hw : s.within) :
    (s.verifyReport st seq).within := by
  simp only [State.verifyReport]
  (repeat' split) <;> simp (maxDischargeDepth := 40) +contextual [hw]

@[simp] theorem State.checkDelivered_within (s : State) (hw : s.within) :
    s.checkDelivered.within := by
  unfold State.checkDelivered
  (repeat' split) <;> simp (maxDischargeDepth := 40) +contextual [hw]

@[simp] theorem State.checkRefused_within (s : State) (hw : s.within) :
    s.checkRefused.within := by
  simp only [State.checkRefused]
  (repeat' split) <;> simp (maxDischargeDepth := 40) +contextual [hw]

@[simp] theorem State.checkSuperseded_within (s : State) (hw : s.within) :
    s.checkSuperseded.within := by
  unfold State.checkSuperseded
  (repeat' split) <;> simp (maxDischargeDepth := 40) +contextual [hw]

@[simp] theorem State.dropSpur_within (s : State) (hw : s.within) : s.dropSpur.within := by
  simp only [State.dropSpur]
  split
  · exact State.releaseRoom_within _ _ _ (State.cancelRequest_within s .rc .spur hw)
  · simp (maxDischargeDepth := 40) +contextual [hw]

@[simp] theorem State.abandonCheck_within (s : State) (id : Nat) (hw : s.within) :
    (s.abandonCheck id).within := by
  simp only [State.abandonCheck]
  (repeat' split) <;> simp (maxDischargeDepth := 40) +contextual [hw]

@[simp] theorem State.headNotice_within (s : State) (c : ConvId) (hw : s.within) :
    (s.headNotice c).within := by
  unfold State.headNotice
  (repeat' split) <;> simp (maxDischargeDepth := 40) +contextual [hw]

@[simp] theorem State.credit_within (s : State) (c : ConvId) (n : Nat) (hw : s.within) :
    (s.credit c n).within := by
  simp only [State.credit]
  (repeat' split) <;> simp (maxDischargeDepth := 40) +contextual [hw]

@[simp] theorem State.takeCount_within (s : State) (c : ConvId) (count : Nat) (hw : s.within) :
    (s.takeCount c count).within := by
  simp only [State.takeCount]
  (repeat' split) <;> simp (maxDischargeDepth := 40) +contextual [hw]

@[simp] theorem State.conveyorReport_within (s : State) (c : ConvId) (count : Nat) (jam head : Bool) (hw : s.within) :
    (s.conveyorReport c count jam head).within := by
  simp only [State.conveyorReport]
  (repeat' split) <;> simp (maxDischargeDepth := 40) +contextual [hw]

@[simp] theorem State.convNotice_within (s : State) (c : ConvId) (st : NodeStatus) (isReturn : Bool) (hw : s.within) :
    (s.convNotice c st isReturn).within := by
  unfold State.convNotice
  (repeat' split) <;> simp (maxDischargeDepth := 40) +contextual [hw]

@[simp] theorem State.endStaleRelease_within (s : State) (hw : s.within) :
    s.endStaleRelease.within :=
  State.grantPass_within _ _ hw

@[simp] theorem State.requeueSpur_within (s : State) (hw : s.within) :
    s.requeueSpur.within := by
  simp (maxDischargeDepth := 40) +contextual [State.requeueSpur, hw]

@[simp] theorem State.spurMoves_within (s : State) (hw : s.within) :
    s.spurMoves.within := by
  simp only [State.spurMoves]
  (repeat' split) <;> simp (maxDischargeDepth := 40) +contextual [hw]

@[simp] theorem State.releaseDelivered_within (s : State) (hw : s.within) :
    s.releaseDelivered.within := by
  unfold State.releaseDelivered
  (repeat' split) <;> simp (maxDischargeDepth := 40) +contextual [hw]

@[simp] theorem State.releaseRefused_within (s : State) (hw : s.within) :
    s.releaseRefused.within := by
  unfold State.releaseRefused
  (repeat' split) <;> simp (maxDischargeDepth := 40) +contextual [hw]

@[simp] theorem State.releaseSuperseded_within (s : State) (hw : s.within) :
    s.releaseSuperseded.within := by
  unfold State.releaseSuperseded
  (repeat' split) <;> simp (maxDischargeDepth := 40) +contextual [hw]

@[simp] theorem State.joinTail_within (s : State) (c : ConvId) (id : Nat) (hw : s.within) :
    (s.joinTail c id).within := by
  simp (maxDischargeDepth := 40) +contextual [State.joinTail, hw]

@[simp] theorem State.exitJoins_within (s : State) (k : Nat) (oi : OpenIndex) (hw : s.within) :
    (s.exitJoins k oi).within := by
  unfold State.exitJoins
  (repeat' split) <;> simp (maxDischargeDepth := 40) +contextual [hw]

@[simp] theorem State.entryLeaves_within (s : State) (k : Nat) (oi : OpenIndex) (hw : s.within) :
    (s.entryLeaves k oi).within := by
  unfold State.entryLeaves
  (repeat' split) <;> simp (maxDischargeDepth := 40) +contextual [hw]

@[simp] theorem State.entryLap_within (s : State) (k : Nat) (oi : OpenIndex) (hw : s.within) :
    (s.entryLap k oi).within := by
  unfold State.entryLap
  (repeat' split) <;> simp (maxDischargeDepth := 40) +contextual [hw]

@[simp] theorem State.endIndex_within (s : State) (k : Nat) (nests : List (Option Nat)) (moved : List Nat) (hw : s.within) :
    (s.endIndex k nests moved).within := by
  simp only [State.endIndex]
  (repeat' split) <;> simp (maxDischargeDepth := 40) +contextual [hw]

@[simp] theorem State.destinationSettled_within (s : State) (k : Nat) (oi : OpenIndex) (joined : Bool) (hw : s.within) :
    (s.destinationSettled k oi joined).within := by
  unfold State.destinationSettled
  (repeat' split) <;> simp (maxDischargeDepth := 40) +contextual [hw]

@[simp] theorem State.upstreamSettled_within (s : State) (k : Nat) (oi : OpenIndex) (hw : s.within) :
    (s.upstreamSettled k oi).within := by
  unfold State.upstreamSettled
  (repeat' split) <;> simp (maxDischargeDepth := 40) +contextual [hw]

@[simp] theorem State.shift_within (s : State) (k : Nat) (oi : OpenIndex) (hw : s.within) :
    (s.shift k oi).within := by
  simp (maxDischargeDepth := 40) +contextual [State.shift, hw]

@[simp] theorem State.settleByList_within (s : State) (k : Nat) (oi : OpenIndex) (flag : Bool) (nests : List (Option Nat)) (hw : s.within) :
    (s.settleByList k oi flag nests).within := by
  simp only [State.settleByList]
  (repeat' split) <;> simp (maxDischargeDepth := 40) +contextual [hw]

@[simp] theorem State.settleBefore_within (s : State) (k : Nat) (oi : OpenIndex) (hw : s.within) :
    (s.settleBefore k oi).within := by
  simp only [State.settleBefore]
  (repeat' split) <;> simp (maxDischargeDepth := 40) +contextual [hw]

@[simp] theorem State.setTrackHold_within (s : State) (b : Bool) (hw : s.within) :
    (s.setTrackHold b).within := by
  simp (maxDischargeDepth := 40) +contextual [State.setTrackHold, hw]

@[simp] theorem State.openTag_within (s : State) (hw : s.within) :
    s.openTag.within := by
  simp (maxDischargeDepth := 40) +contextual [State.openTag, hw]

@[simp] theorem State.noticeN1_within (s : State) (id : Option Nat) (hw : s.within) :
    (s.noticeN1 id).within := by
  unfold State.noticeN1
  (repeat' split) <;> simp (maxDischargeDepth := 40) +contextual [hw]

@[simp] theorem State.closeTag_within (s : State) (notice : Option Nat) (hw : s.within) :
    (s.closeTag notice).within := by
  simp (maxDischargeDepth := 40) +contextual [State.closeTag, hw]

@[simp] theorem State.postTag_within (s : State) (kind : EventKind) (o : TagOpening) (value : Option Nat) (hw : s.within) :
    (s.postTag kind o value).within := by
  simp (maxDischargeDepth := 40) +contextual [State.postTag, hw]

@[simp] theorem State.freshRead_within (s : State) (o : TagOpening) (value : Nat) (hw : s.within) :
    (s.freshRead o value).within := by
  simp only [State.freshRead]
  (repeat' split) <;> simp (maxDischargeDepth := 40) +contextual [hw]

@[simp] theorem State.readerReport_within (s : State) (sequence value : Nat) (hw : s.within) :
    (s.readerReport sequence value).within := by
  simp only [State.readerReport]
  (repeat' split) <;> first | exact hw | exact State.freshRead_within _ _ _ hw

@[simp] theorem State.tagReadExpires_within (s : State) (hw : s.within) :
    s.tagReadExpires.within := by
  unfold State.tagReadExpires
  (repeat' split) <;> simp (maxDischargeDepth := 40) +contextual [hw]

@[simp] theorem State.markEdited_within (s : State) (hw : s.within) :
    s.markEdited.within := by
  unfold State.markEdited
  (repeat' split) <;> simp (maxDischargeDepth := 40) +contextual [hw]

@[simp] theorem State.closeEdited_within (s : State) (hw : s.within) :
    s.closeEdited.within := by
  unfold State.closeEdited
  (repeat' split) <;> simp (maxDischargeDepth := 40) +contextual [hw]

@[simp] theorem State.giveNotices_within (s : State) (k : Nat) (l : List (Nat × Nat)) (hw : s.within) :
    (s.giveNotices k l).within := by
  simp (maxDischargeDepth := 40) +contextual [State.giveNotices, hw]

@[simp] theorem State.indexNotices_within (s : State) (k : Nat) (l : List (Nat × Nat)) (opens : Bool) (hw : s.within) :
    (s.indexNotices k l opens).within := by
  unfold State.indexNotices
  (repeat' split) <;> simp (maxDischargeDepth := 40) +contextual [hw]

@[simp] theorem State.trkComplete_within (s : State) (k : Nat) (hw : s.within) :
    (s.trkComplete k).within := by
  simp only [State.trkComplete]
  (repeat' split) <;> simp (maxDischargeDepth := 40) +contextual [hw]

@[simp] theorem State.confirmAfter_within (s : State) (k : Nat) (oi : OpenIndex) (hw : s.within) :
    (s.confirmAfter k oi).within := by
  simp only [State.confirmAfter]
  (repeat' split) <;> simp (maxDischargeDepth := 40) +contextual [hw]

@[simp] theorem State.confirmList_within (s : State) (k : Nat) (oi : OpenIndex) (flag : Bool) (nests : List (Option Nat)) (hw : s.within) :
    (s.confirmList k oi flag nests).within := by
  simp only [State.confirmList]
  (repeat' split) <;> simp (maxDischargeDepth := 40) +contextual [hw]

@[simp] theorem State.takeOut_within (s : State) (id : Nat) (place : PlaceRef) (hw : s.within) :
    (s.takeOut id place).within := by
  simp only [State.takeOut]
  (repeat' split) <;> simp (maxDischargeDepth := 40) +contextual [hw]

@[simp] theorem State.withdrawCounting_within (s : State) (l : List Nat) (hw : s.within) :
    (s.withdrawCounting l).within := by
  simp (maxDischargeDepth := 40) +contextual [State.withdrawCounting, hw]

@[simp] theorem State.afterTaking_within (s : State) (id : Nat) (place : PlaceRef) (counting : List Nat)
    (was : Option Nat) (hw : s.within) : (s.afterTaking id place counting was).within := by
  simp only [State.afterTaking]
  (repeat' split) <;> simp (maxDischargeDepth := 40) +contextual [hw]

@[simp] theorem State.removePallet_within (s : State) (id : Nat) (place : PlaceRef) (hw : s.within) :
    (s.removePallet id place).within := by
  simp (maxDischargeDepth := 40) +contextual [State.removePallet, hw]

@[simp] theorem State.placeInNest_within (s : State) (id k j : Nat) (hw : s.within) :
    (s.placeInNest id k j).within := by
  simp (maxDischargeDepth := 40) +contextual [State.placeInNest, hw]

@[simp] theorem State.placeOnConveyor_within (s : State) (id : Nat) (c : ConvId) (hw : s.within) :
    (s.placeOnConveyor id c).within := by
  simp only [State.placeOnConveyor]
  (repeat' split) <;> simp (maxDischargeDepth := 40) +contextual [hw]

@[simp] theorem State.seatRead_within (s : State) (id : Nat) (hw : s.within) :
    (s.seatRead id).within := by
  simp only [State.seatRead]
  (repeat' split) <;> simp (maxDischargeDepth := 40) +contextual [hw]

@[simp] theorem State.acceptRead_within (s : State) (value : Nat) (hw : s.within) :
    (s.acceptRead value).within := by
  simp only [State.acceptRead]
  (repeat' split) <;> simp (maxDischargeDepth := 40) +contextual [hw]

@[simp] theorem State.lowerCertainty_within (s : State) (k : Nat) (c : Certainty) (hw : s.within) :
    (s.lowerCertainty k c).within := by
  simp (maxDischargeDepth := 40) +contextual [State.lowerCertainty, hw]

@[simp] theorem State.furtherFault_within (s : State) (k : Nat) (cause : SegCause) (hw : s.within) :
    (s.furtherFault k cause).within := by
  unfold State.furtherFault
  (repeat' split) <;> simp (maxDischargeDepth := 40) +contextual [hw]

@[simp] theorem State.postMotionFault_within (s : State) (k : Nat) (cause : SegCause) (hw : s.within) :
    (s.postMotionFault k cause).within := by
  simp (maxDischargeDepth := 40) +contextual [State.postMotionFault, hw]

@[simp] theorem State.driveSuperseded_within (s : State) (k : Nat) (code : CmdCode) (hw : s.within) :
    (s.driveSuperseded k code).within := by
  unfold State.driveSuperseded
  (repeat' split) <;> simp (maxDischargeDepth := 40) +contextual [hw]

@[simp] theorem State.postFeedhold_within (s : State) (k : Nat) (hw : s.within) :
    (s.postFeedhold k).within := by
  simp only [State.postFeedhold]
  (repeat' split) <;> simp (maxDischargeDepth := 40) +contextual [hw]

@[simp] theorem State.leaveQueue_within (s : State) (k : Nat) (was target : SegState) (hw : s.within) :
    (s.leaveQueue k was target).within := by
  unfold State.leaveQueue
  (repeat' split) <;> simp (maxDischargeDepth := 40) +contextual [hw]

@[simp] theorem State.scFault_within (s : State) (k : Nat) (cause : SegCause) (hw : s.within) :
    (s.scFault k cause).within := by
  simp only [State.scFault]
  (repeat' split) <;> simp (maxDischargeDepth := 40) +contextual [hw]

@[simp] theorem State.indexComplete_within (s : State) (k : Nat) (hw : s.within) :
    (s.indexComplete k).within := by
  simp (maxDischargeDepth := 40) +contextual [State.indexComplete, hw]

@[simp] theorem State.phaseComplete_within (s : State) (k : Nat) (st : SegState) (completion : DrivePhase) (hw : s.within) :
    (s.phaseComplete k st completion).within := by
  simp only [State.phaseComplete]
  (repeat' split) <;> simp (maxDischargeDepth := 40) +contextual [hw]

@[simp] theorem State.motionReport_within (s : State) (k : Nat) (st : SegState) (parts : PhaseParts) (p : DrivePhase) (hw : s.within) :
    (s.motionReport k st parts p).within := by
  unfold State.motionReport
  (repeat' split) <;> simp (maxDischargeDepth := 40) +contextual [hw]

@[simp] theorem State.barAtRest_within (s : State) (k : Nat) (hw : s.within) :
    (s.barAtRest k).within := by
  simp (maxDischargeDepth := 40) +contextual [State.barAtRest, hw]

@[simp] theorem State.barReport_within (s : State) (k : Nat) (p : DrivePhase) (hw : s.within) :
    (s.barReport k p).within := by
  unfold State.barReport
  (repeat' split) <;> simp (maxDischargeDepth := 40) +contextual [hw]

@[simp] theorem State.segCleared_within (s : State) (k : Nat) (hw : s.within) :
    (s.segCleared k).within := by
  unfold State.segCleared
  (repeat' split) <;> simp (maxDischargeDepth := 40) +contextual [hw]

@[simp] theorem State.faultReport_within (s : State) (k : Nat) (p : DrivePhase) (hw : s.within) :
    (s.faultReport k p).within := by
  unfold State.faultReport
  (repeat' split) <;> simp (maxDischargeDepth := 40) +contextual [hw]

@[simp] theorem State.driveReport_within (s : State) (k : Nat) (p : DrivePhase) (hw : s.within) :
    (s.driveReport k p).within := by
  simp only [State.driveReport]
  (repeat' split) <;> simp (maxDischargeDepth := 40) +contextual [hw]

@[simp] theorem State.startPhase_within (s : State) (k limit : Nat) (hw : s.within) :
    (s.startPhase k limit).within := by
  unfold State.startPhase
  (repeat' split) <;> simp (maxDischargeDepth := 40) +contextual [hw]

@[simp] theorem State.feedholdDelivered_within (s : State) (k : Nat) (hw : s.within) :
    (s.feedholdDelivered k).within := by
  simp only [State.feedholdDelivered]
  (repeat' split) <;> simp (maxDischargeDepth := 40) +contextual [hw]

@[simp] theorem State.resumeDelivered_within (s : State) (k : Nat) (hw : s.within) :
    (s.resumeDelivered k).within := by
  unfold State.resumeDelivered
  (repeat' split) <;> simp (maxDischargeDepth := 40) +contextual [hw]

@[simp] theorem State.actOnDelivery_within (s : State) (k : Nat) (code : CmdCode) (hw : s.within) :
    (s.actOnDelivery k code).within := by
  unfold State.actOnDelivery
  (repeat' split) <;> simp (maxDischargeDepth := 40) +contextual [hw]

@[simp] theorem State.driveDelivered_within (s : State) (k : Nat) (code : CmdCode) (hw : s.within) :
    (s.driveDelivered k code).within := by
  simp (maxDischargeDepth := 40) +contextual [State.driveDelivered, hw]

@[simp] theorem State.segClearFails_within (s : State) (k : Nat) (cause : SegCause) (hw : s.within) :
    (s.segClearFails k cause).within := by
  simp (maxDischargeDepth := 40) +contextual [State.segClearFails, hw]

@[simp] theorem State.actOnRefusal_within (s : State) (k : Nat) (code : CmdCode) (hw : s.within) :
    (s.actOnRefusal k code).within := by
  unfold State.actOnRefusal
  (repeat' split) <;> simp (maxDischargeDepth := 40) +contextual [hw]

@[simp] theorem State.driveRefused_within (s : State) (k : Nat) (code : CmdCode) (hw : s.within) :
    (s.driveRefused k code).within := by
  simp (maxDischargeDepth := 40) +contextual [State.driveRefused, hw]

@[simp] theorem State.driveLost_within (s : State) (k : Nat) (hw : s.within) :
    (s.driveLost k).within := by
  simp only [State.driveLost]
  (repeat' split) <;> simp (maxDischargeDepth := 40) +contextual [hw]

@[simp] theorem State.feedHold_within (s : State) (k : Nat) (hw : s.within) :
    (s.feedHold k).within := by
  unfold State.feedHold
  (repeat' split) <;> simp (maxDischargeDepth := 40) +contextual [hw]

@[simp] theorem State.holdSegment_within (s : State) (k : Nat) (hw : s.within) :
    (s.holdSegment k).within := by
  simp only [State.holdSegment]
  (repeat' split) <;> simp (maxDischargeDepth := 40) +contextual [hw]

@[simp] theorem State.feedContinue_within (s : State) (k : Nat) (hw : s.within) :
    (s.feedContinue k).within := by
  unfold State.feedContinue
  (repeat' split) <;> simp (maxDischargeDepth := 40) +contextual [hw]

@[simp] theorem State.continueSegment_within (s : State) (k : Nat) (hw : s.within) :
    (s.continueSegment k).within := by
  simp only [State.continueSegment]
  (repeat' split) <;> simp (maxDischargeDepth := 40) +contextual [hw]

@[simp] theorem State.startSegment_within (s : State) (k : Nat) (hw : s.within) :
    (s.startSegment k).within := by
  unfold State.startSegment
  (repeat' split) <;> simp (maxDischargeDepth := 40) +contextual [hw]

@[simp] theorem State.stopSegment_within (s : State) (k : Nat) (hw : s.within) :
    (s.stopSegment k).within := by
  unfold State.stopSegment
  (repeat' split) <;> simp (maxDischargeDepth := 40) +contextual [hw]

@[simp] theorem State.haltSegment_within (s : State) (k : Nat) (hw : s.within) :
    (s.haltSegment k).within := by
  simp only [State.haltSegment]
  (repeat' split) <;> simp (maxDischargeDepth := 40) +contextual [hw]

@[simp] theorem State.phaseExpires_within (s : State) (k : Nat) (hw : s.within) :
    (s.phaseExpires k).within := by
  unfold State.phaseExpires
  (repeat' split) <;> simp (maxDischargeDepth := 40) +contextual [hw]

@[simp] theorem State.feedWaitExpires_within (s : State) (k : Nat) (hw : s.within) :
    (s.feedWaitExpires k).within := by
  unfold State.feedWaitExpires
  (repeat' split) <;> simp (maxDischargeDepth := 40) +contextual [hw]

@[simp] theorem State.segClearExpires_within (s : State) (k : Nat) (hw : s.within) :
    (s.segClearExpires k).within := by
  unfold State.segClearExpires
  (repeat' split) <;> simp (maxDischargeDepth := 40) +contextual [hw]

/-- R and the carry at 0 are in range. -/
theorem Ada.zeroed_within {a : Ada} {l : LineRecord} (b : Bool) (h : a.within l) :
    ({ a with alarm := b, r := 0, c := 0 } : Ada).within l :=
  ⟨Nat.zero_le _, Nat.zero_le _, h.2.2⟩

@[simp] theorem State.hpuReport_within (s : State) (pump alarm : Bool) (hw : s.within) :
    (s.hpuReport pump alarm).within := by
  have h2 : ∀ x : State, x.within → (x.modAda fun a => { a with reportedAlarm := alarm }).within :=
    fun _ h => h
  have h3 : ∀ x : State, x.within → (x.modAda fun a => { a with alarm := false }).within :=
    fun _ h => h
  have h4 : ∀ x : State, x.within →
      (x.modAda fun a => { a with alarm := true, r := 0, c := 0 }).within :=
    fun _ h => ⟨h.1, Ada.zeroed_within _ h.2.1, h.2.2⟩
  unfold State.hpuReport
  extract_lets s1 s2 s3
  have h1 : s1.within := ⟨hw.1, Ada.update_within s.clock hw.2.1, hw.2.2⟩
  have hs2 : s2.within := by
    simp only [s2]
    repeat' split
    · exact State.post_within _ _ _ _ _ (h4 _ h1)
    · exact h3 _ h1
    · exact h1
  apply State.adaEvaluate_within
  simp only [s3]
  split
  · exact h2 _ (State.post_within _ _ _ _ _ hs2)
  · exact hs2

@[simp] theorem State.hpuLost_within (s : State) (hw : s.within) : s.hpuLost.within := by
  unfold State.hpuLost
  extract_lets s1 s2
  have h1 : s1.within := ⟨hw.1, Ada.update_within s.clock hw.2.1, hw.2.2⟩
  apply State.adaEvaluate_within
  simp only [s2]
  split
  · exact h1
  · exact State.post_within _ _ _ _ _ ⟨h1.1, Ada.zeroed_within _ h1.2.1, h1.2.2⟩

@[simp] theorem State.ownerNotice_within (s : State) (r : Role) (st : NodeStatus)
    (isReturn : Bool) (hw : s.within) : (s.ownerNotice r st isReturn).within := by
  unfold State.ownerNotice
  split <;> exact hw

@[simp] theorem State.ownerLost_within (s : State) (r : Role) (hw : s.within) :
    (s.ownerLost r).within := by
  unfold State.ownerLost
  (repeat' split) <;> simp (maxDischargeDepth := 40) +contextual [hw]

@[simp] theorem State.ownerDelivered_within (s : State) (r : Role) (code : CmdCode) (hw : s.within) :
    (s.ownerDelivered r code).within := by
  unfold State.ownerDelivered
  (repeat' split) <;> simp (maxDischargeDepth := 40) +contextual [hw]

@[simp] theorem State.ownerRefused_within (s : State) (r : Role) (code : CmdCode) (hw : s.within) :
    (s.ownerRefused r code).within := by
  unfold State.ownerRefused
  (repeat' split) <;> simp (maxDischargeDepth := 40) +contextual [hw]

@[simp] theorem State.ownerReport_within (s : State) (r : Role) (rep : Report) (hw : s.within) :
    (s.ownerReport r rep).within := by
  unfold State.ownerReport
  (repeat' split) <;> simp (maxDischargeDepth := 40) +contextual [hw]

@[simp] theorem State.nodeAnswers_within (s : State) (a : Nat) (n : Node) (hw : s.within) :
    (s.nodeAnswers a n).within := by
  simp only [State.nodeAnswers]
  (repeat' split) <;> simp (maxDischargeDepth := 40) +contextual [hw]

@[simp] theorem State.nodeEchoes_within (s : State) (a : Nat) (n : Node) (e : Echo) (hw : s.within) :
    (s.nodeEchoes a n e).within := by
  simp only [State.nodeEchoes]
  (repeat' split) <;> simp (maxDischargeDepth := 40) +contextual [hw]

@[simp] theorem State.goodReply_within (s : State) (a : Nat) (n : Node) (e : Echo) (rep : Report) (hw : s.within) :
    (s.goodReply a n e rep).within := by
  simp (maxDischargeDepth := 40) +contextual [State.goodReply, hw]

@[simp] theorem State.nodeLost_within (s : State) (a : Nat) (n : Node) (misses : Nat) (hw : s.within) :
    (s.nodeLost a n misses).within := by
  simp (maxDischargeDepth := 40) +contextual [State.nodeLost, hw]

@[simp] theorem State.nodeMisses_within (s : State) (a : Nat) (n : Node) (hw : s.within) :
    (s.nodeMisses a n).within := by
  simp only [State.nodeMisses]
  (repeat' split) <;> simp (maxDischargeDepth := 40) +contextual [hw]

@[simp] theorem State.ownerSuperseded_within (s : State) (r : Role) (code : CmdCode) (hw : s.within) :
    (s.ownerSuperseded r code).within := by
  unfold State.ownerSuperseded
  (repeat' split) <;> simp (maxDischargeDepth := 40) +contextual [hw]

@[simp] theorem State.haltNode_within (s : State) (a : Nat) (hw : s.within) :
    (s.haltNode a).within := by
  unfold State.haltNode
  (repeat' split) <;> simp (maxDischargeDepth := 40) +contextual [hw]

@[simp] theorem State.haltBus_within (s : State) (hw : s.within) :
    s.haltBus.within := by
  simp (maxDischargeDepth := 40) +contextual [State.haltBus, hw]

@[simp] theorem State.enterLine_within (s : State) (st : LineState) (cause : LineCause) (hw : s.within) :
    (s.enterLine st cause).within := by
  simp (maxDischargeDepth := 40) +contextual [State.enterLine, hw]

@[simp] theorem State.leaveStopping_within (s : State) (hw : s.within) : s.leaveStopping.within :=
  State.enterLine_within s .idle .settled hw

@[simp] theorem State.closeEvent_within (s : State) (hw : s.within) :
    s.closeEvent.within := by
  simp only [State.closeEvent]
  (repeat' split) <;> simp (maxDischargeDepth := 40) +contextual [hw]

@[simp] theorem State.enterHalt_within (s : State) (cause : LineCause) (hw : s.within) :
    (s.enterHalt cause).within := by
  simp (maxDischargeDepth := 40) +contextual [State.enterHalt, hw]

@[simp] theorem State.setEstop_within (s : State) (b : Bool) (hw : s.within) :
    (s.setEstop b).within := hw

@[simp] theorem State.fallSilent_within (s : State) (hw : s.within) : s.fallSilent.within := hw

@[simp] theorem State.estopOn_within (s : State) (hw : s.within) :
    s.estopOn.within := by
  simp only [State.estopOn]
  (repeat' split) <;> simp (maxDischargeDepth := 40) +contextual [hw]

@[simp] theorem State.estopOff_within (s : State) (hw : s.within) :
    s.estopOff.within := by
  unfold State.estopOff
  (repeat' split) <;> simp (maxDischargeDepth := 40) +contextual [hw]

@[simp] theorem State.firstScanInHalt_within (s : State) (hw : s.within) :
    s.firstScanInHalt.within := by
  simp (maxDischargeDepth := 40) +contextual [State.firstScanInHalt, hw]

@[simp] theorem State.startLine_within (s : State) (m : Mode) (hw : s.within) :
    (s.startLine m).within := by
  simp (maxDischargeDepth := 40) +contextual [State.startLine, hw]

@[simp] theorem State.stopLine_within (s : State) (hw : s.within) :
    s.stopLine.within := by
  simp (maxDischargeDepth := 40) +contextual [State.stopLine, hw]

@[simp] theorem State.modeSegment_within (s : State) (k : Nat) (hw : s.within) :
    (s.modeSegment k).within := by
  unfold State.modeSegment
  (repeat' split) <;> simp (maxDischargeDepth := 40) +contextual [hw]

@[simp] theorem State.modeLine_within (s : State) (m : Mode) (hw : s.within) :
    (s.modeLine m).within := by
  simp only [State.modeLine]
  (repeat' split) <;> simp (maxDischargeDepth := 40) +contextual [hw]

@[simp] theorem State.grantPermit_within (s : State) (k : Nat) (hw : s.within) :
    (s.grantPermit k).within := by
  unfold State.grantPermit
  (repeat' split) <;> simp (maxDischargeDepth := 40) +contextual [hw]

@[simp] theorem State.recoverLine_within (s : State) (hw : s.within) :
    s.recoverLine.within := by
  simp (maxDischargeDepth := 40) +contextual [State.recoverLine, hw]

end Sys2Proof.Machine
end

