-- ==== Sys2Proof/Laws/Line.lean ====
section
/-! SUPPORT. What a request and the end of an event do: the way of a request from its frame to its reply,
said once, and the frames of the supervisor's operations. -/

namespace Sys2Proof.Machine

/-! ## Requests -/

/-- A frame taken by a ready link is answered in the taking state and its reply queued (R177). -/
theorem State.offer_ready {s : State} (h : s.linkReady) (f : Frame) :
    s.offer f = (s.answer f).1.replied f.type f.tag (s.answer f).2 := by
  obtain ⟨hreq, hrep, hres⟩ := h
  have hx : ({ s with clp := { s.clp with requests := [] } } : State) = s := by
    rw [show ({ s.clp with requests := [] } : Clp) = s.clp from by rw [← hreq]]
  have hx' : (s.modClp fun c => { c with requests := c.requests ++ [f] }).modClp (fun c => { c with requests := [] }) = s :=
    hx
  have hcap : (0 : Nat) < Config.requestQueueCapacity := by decide
  simp only [State.offer, hreq, List.length_nil, hcap, if_true, List.nil_append, State.takeAll,
    State.modClp_clp, List.length_cons, Nat.zero_add, State.takeFrames, Clp.mayTake, hrep, hres,
    decide_true, Bool.not_false, Bool.and_self, State.takeFrame]
  rw [hx']
  rfl

/-- A request whose frame arrives at a ready link is executed at once (R175 to R177). -/
theorem State.requestArrives_ready {s : State} (h : s.linkReady) (t : LineTime) (type tag : Byte)
    (body : List Byte) (hb : body.length ≤ Config.maxBody) :
    (s.at t).requestArrives type tag body =
      ((s.taking t).answer { type := type, tag := tag, body := body }).1.replied type tag
        ((s.taking t).answer { type := type, tag := tag, body := body }).2 := by
  have hn : ¬ Config.maxBody < body.length := Nat.not_lt.mpr hb
  simp only [State.requestArrives, State.frameArrives, hn, if_false, State.judgeFrame, if_true]
  exact State.offer_ready (s := s.taking t) h _


section
variable {s : State} (h : s.linkReady) (t : LineTime) (tag : Byte)
include h

/-! One lemma for each request: what its command answers at a ready link. -/

theorem exec_commit :
    exec (.commit t tag) s =
      .next (((s.taking t).requestCommit).1.replied 0x14 tag ((s.taking t).requestCommit).2) :=
  congrArg Host.Outcome.next (State.requestArrives_ready h t 0x14 tag [] (Nat.le_of_ble_eq_true rfl))

theorem exec_uncommit :
    exec (.uncommit t tag) s =
      .next (((s.taking t).requestUncommit).1.replied 0x15 tag ((s.taking t).requestUncommit).2) :=
  congrArg Host.Outcome.next (State.requestArrives_ready h t 0x15 tag [] (Nat.le_of_ble_eq_true rfl))

theorem exec_start (m : Byte) :
    exec (.start t tag m) s =
      .next (((s.taking t).requestStart m.toNat).1.replied 0x20 tag ((s.taking t).requestStart m.toNat).2) :=
  congrArg Host.Outcome.next (State.requestArrives_ready h t 0x20 tag [m] (Nat.le_of_ble_eq_true rfl))

theorem exec_mode (m : Byte) :
    exec (.mode t tag m) s =
      .next (((s.taking t).requestMode m.toNat).1.replied 0x21 tag ((s.taking t).requestMode m.toNat).2) :=
  congrArg Host.Outcome.next (State.requestArrives_ready h t 0x21 tag [m] (Nat.le_of_ble_eq_true rfl))

theorem exec_stop :
    exec (.stop t tag) s =
      .next (((s.taking t).requestStop).1.replied 0x22 tag ((s.taking t).requestStop).2) :=
  congrArg Host.Outcome.next (State.requestArrives_ready h t 0x22 tag [] (Nat.le_of_ble_eq_true rfl))

theorem exec_halt :
    exec (.halt t tag) s =
      .next (((s.taking t).requestHalt).1.replied 0x23 tag ((s.taking t).requestHalt).2) :=
  congrArg Host.Outcome.next (State.requestArrives_ready h t 0x23 tag [] (Nat.le_of_ble_eq_true rfl))

theorem exec_recover :
    exec (.recover t tag) s =
      .next (((s.taking t).requestRecover).1.replied 0x24 tag ((s.taking t).requestRecover).2) :=
  congrArg Host.Outcome.next (State.requestArrives_ready h t 0x24 tag [] (Nat.le_of_ble_eq_true rfl))

theorem exec_stepGrant (m : Byte) :
    exec (.stepGrant t tag m) s =
      .next (((s.taking t).requestStepGrant (byteOf m.toNat)).1.replied 0x25 tag ((s.taking t).requestStepGrant (byteOf m.toNat)).2) :=
  congrArg Host.Outcome.next (State.requestArrives_ready h t 0x25 tag [m] (Nat.le_of_ble_eq_true rfl))

theorem exec_hold (m : Byte) :
    exec (.hold t tag m) s =
      .next (((s.taking t).requestHold (byteOf m.toNat)).1.replied 0x26 tag ((s.taking t).requestHold (byteOf m.toNat)).2) :=
  congrArg Host.Outcome.next (State.requestArrives_ready h t 0x26 tag [m] (Nat.le_of_ble_eq_true rfl))

theorem exec_continueRun (m : Byte) :
    exec (.continueRun t tag m) s =
      .next (((s.taking t).requestContinue (byteOf m.toNat)).1.replied 0x27 tag ((s.taking t).requestContinue (byteOf m.toNat)).2) :=
  congrArg Host.Outcome.next (State.requestArrives_ready h t 0x27 tag [m] (Nat.le_of_ble_eq_true rfl))

theorem exec_restart :
    exec (.restart t tag) s =
      .next (((s.taking t).requestRestart).1.replied 0x28 tag ((s.taking t).requestRestart).2) :=
  congrArg Host.Outcome.next (State.requestArrives_ready h t 0x28 tag [] (Nat.le_of_ble_eq_true rfl))

theorem exec_bypassOn (n : Byte) :
    exec (.bypassOn t tag n) s =
      .next (((s.taking t).requestBypassOn n.toNat).1.replied 0x30 tag ((s.taking t).requestBypassOn n.toNat).2) :=
  congrArg Host.Outcome.next (State.requestArrives_ready h t 0x30 tag [n, 1] (Nat.le_of_ble_eq_true rfl))

theorem exec_bypassOff (n : Byte) :
    exec (.bypassOff t tag n) s =
      .next (((s.taking t).requestBypassOff n.toNat).1.replied 0x30 tag ((s.taking t).requestBypassOff n.toNat).2) :=
  congrArg Host.Outcome.next (State.requestArrives_ready h t 0x30 tag [n, 0] (Nat.le_of_ble_eq_true rfl))

theorem exec_abortCycle (n : Byte) :
    exec (.abortCycle t tag n) s =
      .next (((s.taking t).requestAbortCycle n.toNat).1.replied 0x31 tag ((s.taking t).requestAbortCycle n.toNat).2) :=
  congrArg Host.Outcome.next (State.requestArrives_ready h t 0x31 tag [n] (Nat.le_of_ble_eq_true rfl))

theorem exec_clearFaultStation (n : Byte) :
    exec (.clearFaultStation t tag n) s =
      .next (((s.taking t).requestClearStation n.toNat).1.replied 0x32 tag ((s.taking t).requestClearStation n.toNat).2) :=
  congrArg Host.Outcome.next (State.requestArrives_ready h t 0x32 tag [2, n] (Nat.le_of_ble_eq_true rfl))

theorem exec_clearFaultSegment (n : Byte) :
    exec (.clearFaultSegment t tag n) s =
      .next (((s.taking t).requestClearSegment n.toNat).1.replied 0x32 tag ((s.taking t).requestClearSegment n.toNat).2) :=
  congrArg Host.Outcome.next (State.requestArrives_ready h t 0x32 tag [1, n] (Nat.le_of_ble_eq_true rfl))

theorem exec_clearFaultConveyor (n : Byte) :
    exec (.clearFaultConveyor t tag n) s =
      .next (((s.taking t).requestClearConveyor n.toNat).1.replied 0x32 tag ((s.taking t).requestClearConveyor n.toNat).2) :=
  congrArg Host.Outcome.next (State.requestArrives_ready h t 0x32 tag [3, n] (Nat.le_of_ble_eq_true rfl))

theorem exec_palletDefine (id v : Byte) :
    exec (.palletDefine t tag id v) s =
      .next (((s.taking t).requestPalletDefine id.toNat v.toNat).1.replied 0x40 tag ((s.taking t).requestPalletDefine id.toNat v.toNat).2) :=
  congrArg Host.Outcome.next (State.requestArrives_ready h t 0x40 tag [id, v] (Nat.le_of_ble_eq_true rfl))

theorem exec_palletDelete (id : Byte) :
    exec (.palletDelete t tag id) s =
      .next (((s.taking t).requestPalletDelete id.toNat).1.replied 0x41 tag ((s.taking t).requestPalletDelete id.toNat).2) :=
  congrArg Host.Outcome.next (State.requestArrives_ready h t 0x41 tag [id] (Nat.le_of_ble_eq_true rfl))

theorem exec_palletRead (id : Byte) :
    exec (.palletRead t tag id) s =
      .next (((s.taking t).requestPalletRead id.toNat).1.replied 0x42 tag ((s.taking t).requestPalletRead id.toNat).2) :=
  congrArg Host.Outcome.next (State.requestArrives_ready h t 0x42 tag [id] (Nat.le_of_ble_eq_true rfl))

theorem exec_place (id pos : Byte) :
    exec (.place t tag id pos) s =
      .next (((s.taking t).requestPlace id.toNat pos.toNat).1.replied 0x43 tag ((s.taking t).requestPlace id.toNat pos.toNat).2) :=
  congrArg Host.Outcome.next (State.requestArrives_ready h t 0x43 tag [id, pos] (Nat.le_of_ble_eq_true rfl))

theorem exec_remove (id : Byte) :
    exec (.remove t tag id) s =
      .next (((s.taking t).requestRemove id.toNat).1.replied 0x44 tag ((s.taking t).requestRemove id.toNat).2) :=
  congrArg Host.Outcome.next (State.requestArrives_ready h t 0x44 tag [id] (Nat.le_of_ble_eq_true rfl))

theorem exec_acceptTag :
    exec (.acceptTag t tag) s =
      .next (((s.taking t).requestAcceptTag).1.replied 0x45 tag ((s.taking t).requestAcceptTag).2) :=
  congrArg Host.Outcome.next (State.requestArrives_ready h t 0x45 tag [] (Nat.le_of_ble_eq_true rfl))

theorem exec_confirmSegmentBefore (k : Byte) :
    exec (.confirmSegmentBefore t tag k) s =
      .next (((s.taking t).requestConfirmBefore k.toNat).1.replied 0x46 tag ((s.taking t).requestConfirmBefore k.toNat).2) :=
  congrArg Host.Outcome.next (State.requestArrives_ready h t 0x46 tag [k, 0] (Nat.le_of_ble_eq_true rfl))

theorem exec_confirmSegmentAfter (k : Byte) :
    exec (.confirmSegmentAfter t tag k) s =
      .next (((s.taking t).requestConfirmAfter k.toNat).1.replied 0x46 tag ((s.taking t).requestConfirmAfter k.toNat).2) :=
  congrArg Host.Outcome.next (State.requestArrives_ready h t 0x46 tag [k, 1] (Nat.le_of_ble_eq_true rfl))

theorem exec_mapRead (start count : Byte) :
    exec (.mapRead t tag start count) s =
      .next (((s.taking t).requestMapRead start.toNat count.toNat).1.replied 0x47 tag ((s.taking t).requestMapRead start.toNat count.toNat).2) :=
  congrArg Host.Outcome.next (State.requestArrives_ready h t 0x47 tag [start, count] (Nat.le_of_ble_eq_true rfl))

theorem exec_status (no : Byte) :
    exec (.status t tag no) s =
      .next (((s.taking t).requestStatus no.toNat).1.replied 0x60 tag ((s.taking t).requestStatus no.toNat).2) :=
  congrArg Host.Outcome.next (State.requestArrives_ready h t 0x60 tag [no] (Nat.le_of_ble_eq_true rfl))

theorem exec_identify :
    exec (.identify t tag) s =
      .next (((s.taking t).requestIdentify).1.replied 0x61 tag ((s.taking t).requestIdentify).2) :=
  congrArg Host.Outcome.next (State.requestArrives_ready h t 0x61 tag [] (Nat.le_of_ble_eq_true rfl))

theorem exec_eventsTake (count : Byte) :
    exec (.eventsTake t tag count) s =
      .next (((s.taking t).requestEventsTake count.toNat).1.replied 0x62 tag ((s.taking t).requestEventsTake count.toNat).2) :=
  congrArg Host.Outcome.next (State.requestArrives_ready h t 0x62 tag [count] (Nat.le_of_ble_eq_true rfl))

theorem exec_reserveSet (volume : BitVec 16) :
    exec (.reserveSet t tag volume) s =
      .next (((s.taking t).requestReserveSet volume.toNat).1.replied 0x50 tag
        ((s.taking t).requestReserveSet volume.toNat).2) := by
  have hv : beNat ((beBytes 2 volume.toNat).take 2) = volume.toNat := by
    simp only [beBytes, beNat, byteOf, List.take, List.foldl, BitVec.toNat_ofNat]
    have := volume.isLt
    omega
  have hx := State.requestArrives_ready h t 0x50 tag (beBytes 2 volume.toNat) (Nat.le_of_ble_eq_true rfl)
  have ha : (s.taking t).answer { type := 0x50, tag := tag, body := beBytes 2 volume.toNat }
      = (s.taking t).requestReserveSet (beNat ((beBytes 2 volume.toNat).take 2)) := rfl
  rw [ha, hv] at hx
  exact congrArg Host.Outcome.next hx

theorem exec_confirmSegmentList (k flag : Byte) (occupants : List Byte) (ho : occupants.length ≤ 236) :
    exec (.confirmSegmentList t tag k flag occupants) s =
      .next (((s.taking t).requestConfirmList k.toNat flag.toNat occupants).1.replied 0x46 tag
        ((s.taking t).requestConfirmList k.toNat flag.toNat occupants).2) := by
  have hb : ([k, 2, flag, byteOf occupants.length] ++ occupants).length ≤ Config.maxBody := by
    simp [Config.maxBody]; omega
  have hx := State.requestArrives_ready h t 0x46 tag _ hb
  have hl : (byteOf occupants.length).toNat = occupants.length := by
    simp [byteOf]; omega
  have ha : (s.taking t).answer
      { type := 0x46, tag := tag, body := [k, 2, flag, byteOf occupants.length] ++ occupants }
      = (s.taking t).requestConfirmList k.toNat flag.toNat occupants := by
    simp [State.answer, bodyRequired, byteAt, hl, State.owner, State.requestConfirm]
    omega
  rw [ha] at hx
  exact congrArg Host.Outcome.next hx

theorem exec_lineSet (body : List Byte) (hb : body.length ≤ Config.maxBody) (hn : 57 ≤ body.length) :
    exec (.lineSet t tag body) s =
      .next (((s.taking t).requestLineSet body).1.replied 0x10 tag
        ((s.taking t).requestLineSet body).2) := by
  have hx := State.requestArrives_ready h t 0x10 tag body hb
  have ha : (s.taking t).answer { type := 0x10, tag := tag, body := body }
      = (s.taking t).requestLineSet body := by
    simp [State.answer, bodyRequired, State.owner, Nat.not_lt.mpr hn]
  rw [ha] at hx
  exact congrArg Host.Outcome.next hx

theorem exec_segmentSet (body : List Byte) (hb : body.length ≤ Config.maxBody) (hn : 23 ≤ body.length) :
    exec (.segmentSet t tag body) s =
      .next (((s.taking t).requestSegmentSet body).1.replied 0x11 tag
        ((s.taking t).requestSegmentSet body).2) := by
  have hx := State.requestArrives_ready h t 0x11 tag body hb
  have ha : (s.taking t).answer { type := 0x11, tag := tag, body := body }
      = (s.taking t).requestSegmentSet body := by
    simp [State.answer, bodyRequired, State.owner, Nat.not_lt.mpr hn]
  rw [ha] at hx
  exact congrArg Host.Outcome.next hx

theorem exec_stationSet (body : List Byte) (hb : body.length ≤ Config.maxBody) (hn : 21 ≤ body.length) :
    exec (.stationSet t tag body) s =
      .next (((s.taking t).requestStationSet body).1.replied 0x12 tag
        ((s.taking t).requestStationSet body).2) := by
  have hx := State.requestArrives_ready h t 0x12 tag body hb
  have ha : (s.taking t).answer { type := 0x12, tag := tag, body := body }
      = (s.taking t).requestStationSet body := by
    simp [State.answer, bodyRequired, State.owner, Nat.not_lt.mpr hn]
  rw [ha] at hx
  exact congrArg Host.Outcome.next hx

theorem exec_busSet (body : List Byte) (hb : body.length ≤ Config.maxBody)
    (hn : 9 + byteAt body 7 ≤ body.length) :
    exec (.busSet t tag body) s =
      .next (((s.taking t).requestBusSet body).1.replied 0x13 tag
        ((s.taking t).requestBusSet body).2) := by
  have hx := State.requestArrives_ready h t 0x13 tag body hb
  have ha : (s.taking t).answer { type := 0x13, tag := tag, body := body }
      = (s.taking t).requestBusSet body := by
    simp [State.answer, bodyRequired, State.owner, Nat.not_lt.mpr hn]
  rw [ha] at hx
  exact congrArg Host.Outcome.next hx

end

/-! ## Timers -/

/-- A timer whose limit has elapsed is due (R46, R71, R114). -/
theorem State.due_of_le {s : State} {tm : Timer} (h : tm.limit ≤ (s.clock - tm.start).toNat) :
    s.due tm = true := decide_eq_true h

theorem State.not_due_of_lt {s : State} {tm : Timer} (h : (s.clock - tm.start).toNat < tm.limit) :
    s.due tm = false := decide_eq_false (Nat.not_le.mpr h)

/-! ## The end of an event -/

/-- A settled STOPPING line enters IDLE, and nothing else changes the line state (R148, R149). -/
theorem State.closeEvent_lineState (s : State) :
    s.closeEvent.lsv.lineState = s.lsv.lineState
      ∨ (s.lsv.lineState = .stopping ∧ s.closeEvent.lsv.lineState = .idle) := by
  simp only [State.closeEvent]
  split
  · exact .inl rfl
  · split
    · next h => exact .inr ⟨of_decide_eq_true (Bool.and_eq_true_iff.mp h).1, rfl⟩
    · exact .inl rfl

/-- Outside STOPPING the end of an event takes the notices. -/
theorem State.closeEvent_notices {s : State} (hc : s.lsv.lineState ≠ .config)
    (hs : s.lsv.lineState ≠ .stopping) : s.closeEvent = s.takeNotices := by
  simp [State.closeEvent, hc, hs, State.takeNotices]

theorem State.enterLine_still (s : State) (st : LineState) (cause : LineCause) :
    (s.enterLine st cause).still = { s with lsv := { s.lsv with lineState := st } }.still := by
  simp only [State.enterLine, State.post_still]; rfl

theorem State.enterLine_fixed (s : State) (st : LineState) (cause : LineCause) :
    (s.enterLine st cause).fixed = { s with lsv := { s.lsv with lineState := st } }.fixed := by
  simp only [State.enterLine, State.post_fixed]; rfl

/-- The end of STOPPING changes the segment records only, besides the line state and its event. -/
theorem State.leaveStopping_still (s : State) :
    s.leaveStopping.still = { s with lsv := { s.lsv with lineState := .idle } }.still := by
  have h : s.leaveStopping.still = (s.enterLine .idle .settled).still := by
    simp [State.leaveStopping, State.still, List.map_map, Function.comp_def]
  rw [h, State.enterLine_still]

theorem State.leaveStopping_fixed (s : State) :
    s.leaveStopping.fixed = { s with lsv := { s.lsv with lineState := .idle } }.fixed := by
  have h : s.leaveStopping.fixed = (s.enterLine .idle .settled).fixed := by
    simp [State.leaveStopping, State.fixed, List.map_map, Function.comp_def]
  rw [h, State.enterLine_fixed]

theorem State.closeEvent_still (s : State) :
    s.closeEvent.still = { s with lsv := { s.lsv with lineState := s.closeEvent.lsv.lineState } }.still := by
  simp only [State.closeEvent]
  split
  · rfl
  · split
    · rw [State.leaveStopping_still]; rfl
    · rfl

theorem State.closeEvent_fixed (s : State) :
    s.closeEvent.fixed = { s with lsv := { s.lsv with lineState := s.closeEvent.lsv.lineState } }.fixed := by
  simp only [State.closeEvent]
  split
  · rfl
  · split
    · rw [State.leaveStopping_fixed]; rfl
    · rfl

/-- Equal views have equal line states. -/
theorem lineState_of_still {s u : State} (h : u.still = s.still) : u.lsv.lineState = s.lsv.lineState := by
  have := congrArg (fun x : State => x.lsv.lineState) h
  exact this

theorem lineState_of_fixed {s u : State} (h : u.fixed = s.fixed) : u.lsv.lineState = s.lsv.lineState := by
  have := congrArg (fun x : State => x.lsv.lineState) h
  exact this

/-- The flow of segments with the end of the event after it. -/
theorem flowsTo_closeEvent {y u : State} (h : u.still = y.still) : y.flowsTo u.closeEvent := by
  have hl := lineState_of_still h
  refine ⟨?_, hl ▸ State.closeEvent_lineState u⟩
  rw [State.closeEvent_still]
  exact congrArg (fun x : State => { x with lsv := { x.lsv with
    lineState := u.closeEvent.lsv.lineState } }) h

/-- Effects between the blocks with the end of the event after them. -/
theorem worksTo_closeEvent {y u : State} (h : u.fixed = y.fixed) : y.worksTo u.closeEvent := by
  have hl := lineState_of_fixed h
  refine ⟨?_, hl ▸ State.closeEvent_lineState u⟩
  rw [State.closeEvent_fixed]
  exact congrArg (fun x : State => { x with lsv := { x.lsv with
    lineState := u.closeEvent.lsv.lineState } }) h

/-! ## The end of STOPPING (R94, R48, R149) -/

theorem Segment.settled_iff (g : Segment) : g.settled = true ↔
    g.state = .off ∨ g.state = .ready ∨ g.state = .fault ∨ (g.state = .work ∧ g.bar = .atRest) := by
  cases h : g.state <;> simp [Segment.settled, h]

theorem Station.settled_iff (st : Station) : st.settled = true ↔
    st.state = .released ∨ st.state = .skipped ∨ st.state = .fault ∨ st.state = .lockout := by
  simp [Station.settled, or_assoc]

/-- The notices of an event are all YES exactly when the line is settled. -/
theorem State.takeNotices_allSettled (s : State) :
    s.takeNotices.lsv.allSettled = true ↔ s.lineSettled := by
  rw [show s.takeNotices.lsv.allSettled = ((s.sc.map fun p => (p.1, p.2.settled)).all (·.2) &&
    decide (some s.stationsAllSettled = some true)) from rfl, Bool.and_eq_true, decide_eq_true_iff,
    Option.some.injEq]
  simp [State.lineSettled, State.stationsAllSettled, Segment.settled_iff, Station.settled_iff]

/-! ## The filter of ESTOP_IN and the travel timer (R189, R120) -/

/-- The filter passes at a line time exactly when the level in force has stood for 2 ms by then. -/
theorem State.filterPasses_at (s : State) (t : LineTime) :
    (s.at t).filterPasses = true ↔ Config.estopFilter ≤ s.estopHeld + elapsed s.clock t := by
  simp [State.filterPasses]

/-- While the same entry stays the oldest, the travel timer is left alone. -/
theorem State.syncTravel_same {s : State} {was : Option Nat} {c : ConvId}
    (h : s.oldestTraveller c = was) : s.syncTravel was c = s := by
  simp [State.syncTravel, h]

/-- Where another entry is the oldest, the timer is set from it, and an overdue one jams the conveyor. -/
theorem State.syncTravel_other {s : State} {was : Option Nat} {c : ConvId}
    (h : s.oldestTraveller c ≠ was) :
    s.syncTravel was c = if (s.travelFor c).any s.due then (s.setTravel c).travelJam c else s.setTravel c := by
  cases hx : s.travelFor c <;> simp [State.syncTravel, h, hx]

end Sys2Proof.Machine
end

