-- ==== Sys2Proof/Laws/PerInstr.lean ====
section
/-! SUPPORT. A statement of every command, one lemma for each constructor: a command that is not a hardware
reset bears a line time (00 section 5.2, log entry 1). -/

namespace Sys2Proof.Laws

open Sys2Proof.Machine

/-- A command bears a line time unless it is a hardware reset, which restarts the line clock (R145). -/
def LineTimed.Statement (c : Instr) : Prop :=
  (∀ estop br, c ≠ .hardwareReset estop br) → ∃ t, lineTimeOf c = some t

theorem LineTimed.hardwareReset (estopAsserted : Bool) (br : BitVec 2) :
    LineTimed.Statement (.hardwareReset estopAsserted br) := fun h => absurd rfl (h estopAsserted br)

theorem LineTimed.estopInAsserted (t : LineTime) :
    LineTimed.Statement (.estopInAsserted t) := fun _ => ⟨t, rfl⟩

theorem LineTimed.estopInReleased (t : LineTime) :
    LineTimed.Statement (.estopInReleased t) := fun _ => ⟨t, rfl⟩

theorem LineTimed.frameReceived (t : LineTime) (type tag : Byte) (body : List Byte) (check : BitVec 16) :
    LineTimed.Statement (.frameReceived t type tag body check) := fun _ => ⟨t, rfl⟩

theorem LineTimed.frameLengthInvalid (t : LineTime) :
    LineTimed.Statement (.frameLengthInvalid t) := fun _ => ⟨t, rfl⟩

theorem LineTimed.framingError (t : LineTime) :
    LineTimed.Statement (.framingError t) := fun _ => ⟨t, rfl⟩

theorem LineTimed.gapTimerExpiry (t : LineTime) :
    LineTimed.Statement (.gapTimerExpiry t) := fun _ => ⟨t, rfl⟩

theorem LineTimed.replySendStart (t : LineTime) (cts : Bool) :
    LineTimed.Statement (.replySendStart t cts) := fun _ => ⟨t, rfl⟩

theorem LineTimed.replySendEnd (t : LineTime) (br : BitVec 2) :
    LineTimed.Statement (.replySendEnd t br) := fun _ => ⟨t, rfl⟩

theorem LineTimed.unknownRequestType (t : LineTime) (type tag : Byte) (body : List Byte) :
    LineTimed.Statement (.unknownRequestType t type tag body) := fun _ => ⟨t, rfl⟩

theorem LineTimed.lineSet (t : LineTime) (tag : Byte) (body : List Byte) :
    LineTimed.Statement (.lineSet t tag body) := fun _ => ⟨t, rfl⟩

theorem LineTimed.segmentSet (t : LineTime) (tag : Byte) (body : List Byte) :
    LineTimed.Statement (.segmentSet t tag body) := fun _ => ⟨t, rfl⟩

theorem LineTimed.stationSet (t : LineTime) (tag : Byte) (body : List Byte) :
    LineTimed.Statement (.stationSet t tag body) := fun _ => ⟨t, rfl⟩

theorem LineTimed.busSet (t : LineTime) (tag : Byte) (body : List Byte) :
    LineTimed.Statement (.busSet t tag body) := fun _ => ⟨t, rfl⟩

theorem LineTimed.commit (t : LineTime) (tag : Byte) :
    LineTimed.Statement (.commit t tag) := fun _ => ⟨t, rfl⟩

theorem LineTimed.uncommit (t : LineTime) (tag : Byte) :
    LineTimed.Statement (.uncommit t tag) := fun _ => ⟨t, rfl⟩

theorem LineTimed.start (t : LineTime) (tag mode : Byte) :
    LineTimed.Statement (.start t tag mode) := fun _ => ⟨t, rfl⟩

theorem LineTimed.stop (t : LineTime) (tag : Byte) :
    LineTimed.Statement (.stop t tag) := fun _ => ⟨t, rfl⟩

theorem LineTimed.mode (t : LineTime) (tag mode : Byte) :
    LineTimed.Statement (.mode t tag mode) := fun _ => ⟨t, rfl⟩

theorem LineTimed.stepGrant (t : LineTime) (tag mask : Byte) :
    LineTimed.Statement (.stepGrant t tag mask) := fun _ => ⟨t, rfl⟩

theorem LineTimed.hold (t : LineTime) (tag mask : Byte) :
    LineTimed.Statement (.hold t tag mask) := fun _ => ⟨t, rfl⟩

theorem LineTimed.continueRun (t : LineTime) (tag mask : Byte) :
    LineTimed.Statement (.continueRun t tag mask) := fun _ => ⟨t, rfl⟩

theorem LineTimed.halt (t : LineTime) (tag : Byte) :
    LineTimed.Statement (.halt t tag) := fun _ => ⟨t, rfl⟩

theorem LineTimed.recover (t : LineTime) (tag : Byte) :
    LineTimed.Statement (.recover t tag) := fun _ => ⟨t, rfl⟩

theorem LineTimed.restart (t : LineTime) (tag : Byte) :
    LineTimed.Statement (.restart t tag) := fun _ => ⟨t, rfl⟩

theorem LineTimed.bypassOn (t : LineTime) (tag station : Byte) :
    LineTimed.Statement (.bypassOn t tag station) := fun _ => ⟨t, rfl⟩

theorem LineTimed.bypassOff (t : LineTime) (tag station : Byte) :
    LineTimed.Statement (.bypassOff t tag station) := fun _ => ⟨t, rfl⟩

theorem LineTimed.abortCycle (t : LineTime) (tag station : Byte) :
    LineTimed.Statement (.abortCycle t tag station) := fun _ => ⟨t, rfl⟩

theorem LineTimed.clearFaultStation (t : LineTime) (tag number : Byte) :
    LineTimed.Statement (.clearFaultStation t tag number) := fun _ => ⟨t, rfl⟩

theorem LineTimed.clearFaultSegment (t : LineTime) (tag number : Byte) :
    LineTimed.Statement (.clearFaultSegment t tag number) := fun _ => ⟨t, rfl⟩

theorem LineTimed.clearFaultConveyor (t : LineTime) (tag number : Byte) :
    LineTimed.Statement (.clearFaultConveyor t tag number) := fun _ => ⟨t, rfl⟩

theorem LineTimed.palletDefine (t : LineTime) (tag id variant : Byte) :
    LineTimed.Statement (.palletDefine t tag id variant) := fun _ => ⟨t, rfl⟩

theorem LineTimed.palletDelete (t : LineTime) (tag id : Byte) :
    LineTimed.Statement (.palletDelete t tag id) := fun _ => ⟨t, rfl⟩

theorem LineTimed.palletRead (t : LineTime) (tag id : Byte) :
    LineTimed.Statement (.palletRead t tag id) := fun _ => ⟨t, rfl⟩

theorem LineTimed.place (t : LineTime) (tag id position : Byte) :
    LineTimed.Statement (.place t tag id position) := fun _ => ⟨t, rfl⟩

theorem LineTimed.remove (t : LineTime) (tag id : Byte) :
    LineTimed.Statement (.remove t tag id) := fun _ => ⟨t, rfl⟩

theorem LineTimed.acceptTag (t : LineTime) (tag : Byte) :
    LineTimed.Statement (.acceptTag t tag) := fun _ => ⟨t, rfl⟩

theorem LineTimed.confirmSegmentBefore (t : LineTime) (tag segment : Byte) :
    LineTimed.Statement (.confirmSegmentBefore t tag segment) := fun _ => ⟨t, rfl⟩

theorem LineTimed.confirmSegmentAfter (t : LineTime) (tag segment : Byte) :
    LineTimed.Statement (.confirmSegmentAfter t tag segment) := fun _ => ⟨t, rfl⟩

theorem LineTimed.confirmSegmentList (t : LineTime) (tag segment flag : Byte) (occupants : List Byte) :
    LineTimed.Statement (.confirmSegmentList t tag segment flag occupants) := fun _ => ⟨t, rfl⟩

theorem LineTimed.mapRead (t : LineTime) (tag start count : Byte) :
    LineTimed.Statement (.mapRead t tag start count) := fun _ => ⟨t, rfl⟩

theorem LineTimed.reserveSet (t : LineTime) (tag : Byte) (volume : BitVec 16) :
    LineTimed.Statement (.reserveSet t tag volume) := fun _ => ⟨t, rfl⟩

theorem LineTimed.status (t : LineTime) (tag sectionNo : Byte) :
    LineTimed.Statement (.status t tag sectionNo) := fun _ => ⟨t, rfl⟩

theorem LineTimed.identify (t : LineTime) (tag : Byte) :
    LineTimed.Statement (.identify t tag) := fun _ => ⟨t, rfl⟩

theorem LineTimed.eventsTake (t : LineTime) (tag count : Byte) :
    LineTimed.Statement (.eventsTake t tag count) := fun _ => ⟨t, rfl⟩

theorem LineTimed.scanStart (t : LineTime) :
    LineTimed.Statement (.scanStart t) := fun _ => ⟨t, rfl⟩

theorem LineTimed.slotPoll (t : LineTime) (slot : Nat) :
    LineTimed.Statement (.slotPoll t slot) := fun _ => ⟨t, rfl⟩

theorem LineTimed.nodeReply (t : LineTime) (chars : List BusChar) :
    LineTimed.Statement (.nodeReply t chars) := fun _ => ⟨t, rfl⟩

theorem LineTimed.responseWindowExpiry (t : LineTime) :
    LineTimed.Statement (.responseWindowExpiry t) := fun _ => ⟨t, rfl⟩

theorem LineTimed.clampTimeout (t : LineTime) (station : Nat) :
    LineTimed.Statement (.clampTimeout t station) := fun _ => ⟨t, rfl⟩

theorem LineTimed.settleExpiry (t : LineTime) (station : Nat) :
    LineTimed.Statement (.settleExpiry t station) := fun _ => ⟨t, rfl⟩

theorem LineTimed.cycleTimeout (t : LineTime) (station : Nat) :
    LineTimed.Statement (.cycleTimeout t station) := fun _ => ⟨t, rfl⟩

theorem LineTimed.unclampTimeout (t : LineTime) (station : Nat) :
    LineTimed.Statement (.unclampTimeout t station) := fun _ => ⟨t, rfl⟩

theorem LineTimed.commonTimerExpiry (t : LineTime) (segment : Nat) :
    LineTimed.Statement (.commonTimerExpiry t segment) := fun _ => ⟨t, rfl⟩

theorem LineTimed.stationClearTimeout (t : LineTime) (station : Nat) :
    LineTimed.Statement (.stationClearTimeout t station) := fun _ => ⟨t, rfl⟩

theorem LineTimed.phaseTimeout (t : LineTime) (segment : Nat) :
    LineTimed.Statement (.phaseTimeout t segment) := fun _ => ⟨t, rfl⟩

theorem LineTimed.feedWaitExpiry (t : LineTime) (segment : Nat) :
    LineTimed.Statement (.feedWaitExpiry t segment) := fun _ => ⟨t, rfl⟩

theorem LineTimed.segmentClearTimeout (t : LineTime) (segment : Nat) :
    LineTimed.Statement (.segmentClearTimeout t segment) := fun _ => ⟨t, rfl⟩

theorem LineTimed.evaluationTimerExpiry (t : LineTime) :
    LineTimed.Statement (.evaluationTimerExpiry t) := fun _ => ⟨t, rfl⟩

theorem LineTimed.urgencyExpiry (t : LineTime) (segment : Nat) :
    LineTimed.Statement (.urgencyExpiry t segment) := fun _ => ⟨t, rfl⟩

theorem LineTimed.hEntryExpiry (t : LineTime) :
    LineTimed.Statement (.hEntryExpiry t) := fun _ => ⟨t, rfl⟩

theorem LineTimed.staggerExpiry (t : LineTime) :
    LineTimed.Statement (.staggerExpiry t) := fun _ => ⟨t, rfl⟩

theorem LineTimed.periodExpiry (t : LineTime) (segment : Nat) :
    LineTimed.Statement (.periodExpiry t segment) := fun _ => ⟨t, rfl⟩

theorem LineTimed.travelTimeout (t : LineTime) (conveyor : Nat) :
    LineTimed.Statement (.travelTimeout t conveyor) := fun _ => ⟨t, rfl⟩

theorem LineTimed.tagReadTimeout (t : LineTime) :
    LineTimed.Statement (.tagReadTimeout t) := fun _ => ⟨t, rfl⟩

theorem LineTimed.cellLinkByteReceived (t : LineTime) (b : Byte) :
    LineTimed.Statement (.cellLinkByteReceived t b) := fun _ => ⟨t, rfl⟩

end Sys2Proof.Laws
end

