-- ==== Sys2Proof/Tests/Slice0.lean ====
section
/-! SUPPORT. Tests of our own. `test_<what>` checks one step, or one rule, against figures of spec/;
`meets_<Name>` shows concrete states and operands that meet the hypotheses of Obligations.<Name>, clause by
clause. The line is the worked example of 01 sections 1.6.1 and 1.8. -/

namespace Sys2Proof.Tests

set_option Elab.async false

open Sys2Proof Sys2Proof.Machine

/-! ## Well-formedness: one ill-formed command for each check -/

theorem test_ill_formed_frame_body :
    Instr.wellFormed (.frameReceived 0 0x10 0 (List.replicate 241 0) 0) = false := by decide +kernel
theorem test_well_formed_frame_body :
    Instr.wellFormed (.frameReceived 0 0x10 0 (List.replicate 240 0) 0) = true := by decide +kernel
theorem test_ill_formed_unknown_type :
    Instr.wellFormed (.unknownRequestType 0 0x14 0 []) = false
      ∧ Instr.wellFormed (.unknownRequestType 0 0x16 0 (List.replicate 241 0)) = false
      ∧ Instr.wellFormed (.unknownRequestType 0 0x16 0 []) = true := by decide +kernel
theorem test_ill_formed_set_bodies :
    [Instr.lineSet 0 0 (List.replicate 241 0), .segmentSet 0 0 (List.replicate 241 0),
      .stationSet 0 0 (List.replicate 241 0), .busSet 0 0 (List.replicate 241 0)].map Instr.wellFormed
      = [false, false, false, false] := by decide +kernel
theorem test_ill_formed_confirm_list :
    Instr.wellFormed (.confirmSegmentList 0 0 1 0 (List.replicate 237 0)) = false := by decide +kernel
theorem test_ill_formed_slot : Instr.wellFormed (.slotPoll 0 48) = false := by decide
theorem test_ill_formed_reply :
    Instr.wellFormed (.nodeReply 0 []) = false
      ∧ Instr.wellFormed (.nodeReply 0 (List.replicate 9
          { data := 0, mark := false, stopFound := true })) = false := by decide +kernel
theorem test_ill_formed_station_timers :
    [Instr.clampTimeout 0 0, .settleExpiry 0 33, .cycleTimeout 0 0, .unclampTimeout 0 33,
      .stationClearTimeout 0 0].map Instr.wellFormed = [false, false, false, false, false] := by decide
theorem test_ill_formed_segment_timers :
    [Instr.commonTimerExpiry 0 0, .phaseTimeout 0 5, .feedWaitExpiry 0 0, .segmentClearTimeout 0 5,
      .urgencyExpiry 0 0, .periodExpiry 0 5].map Instr.wellFormed
      = [false, false, false, false, false, false] := by decide
theorem test_ill_formed_conveyor_timer :
    [Instr.travelTimeout 0 0, .travelTimeout 0 6].map Instr.wellFormed = [false, false] := by decide

/-! ## No row gives bits -/

theorem test_no_word_spells_a_command : decodeTableWord 8 0x14 = none := rfl
theorem test_fetch_word_changes_nothing : State.reset.withFetchWord 8 0x14 = State.reset := rfl

/-! ## The check codes: the nine digits have the published check values of these polynomials (PRESUMED) -/

def digits : List Byte := [0x31, 0x32, 0x33, 0x34, 0x35, 0x36, 0x37, 0x38, 0x39]

theorem test_crc16_of_the_digits : crc16 digits = 0x29B1 := by decide +kernel
theorem test_crc8_of_the_digits : crc8 digits = 0xFB := by decide +kernel

/-! ## The line of the worked example (01 section 1.8) -/

def line : LineRecord :=
  { LineRecord.default with
    nseg := 3, capB1 := 4, capB2 := 6, capVs := 2, capRc := 14,
    nodeB1 := 20, nodeB2 := 21, nodeVs := 22, nodeRc := 23, nodeReader := 30, nodeVerify := 31,
    nodeHpu := 40, cap := 24000, f := 6000, q := 1500, tRead := 500 }

def segment (nests node l k : Nat) : SegmentRecord :=
  { SegmentRecord.default with nests := nests, nodeDrive := node, l := l, k := k }

def stationRecord (kind : StationKind) (segment nest node : Nat) (mask : BitVec 4) : StationRecord :=
  { kind := kind, segment := segment, nest := nest, node := node, mask := mask, autoRelease := true,
    tSettle := 300, tClampMax := 2000, tCycleMin := 4000, tCycleMax := 20000, tUnclampMax := 2500 }

def bus (last : Nat) : BusRecord :=
  { bitRate := .r500000, deLead := 3, deLag := 3, tResponse := 800, slotTime := 4, scanOffset := 2,
    missLimit := 3,
    slots := [1, 2, 3, 1, 2, 3, 10, 11, 12, 13, 14, 20, 21, 22, 23, 30, 31, 1, 2, last] }

/-- The configuration store of the worked example with `last` in slot 19. -/
def store (last : Nat) : ConfigStore :=
  { line := line,
    segments := [(1, segment 8 1 2500 400), (2, segment 10 2 3000 400), (3, segment 6 3 2000 300),
                 (4, .default)],
    stations := [(1, stationRecord .load 1 1 10 15), (2, stationRecord .machine 1 4 11 3),
                 (3, stationRecord .machine 2 5 12 15), (4, stationRecord .machine 3 3 13 12),
                 (5, stationRecord .unload 3 6 14 15)],
    bus := bus last, committed := false, derived := none }

theorem test_first_commit_fails_at_check_7 :
    (store 3).failure = some (7, { kind := .hpu, number := 0 }) := by decide +kernel
theorem test_second_commit_passes :
    (store 40).failure = none ∧ (store 40).derive.p = 50 ∧ (store 40).scanPeriod = 82066 := by
  decide +kernel
theorem test_runs_of_the_example :
    (store 40).derive.segRuns = [(1, 0, 8), (2, 12, 10), (3, 28, 6)]
      ∧ (store 40).derive.convRuns = [(.b1, 8, 4), (.b2, 22, 6), (.vs, 34, 2), (.rc, 36, 14)] := by
  decide +kernel

/-! ## States -/

/-- The next state of a command; the state itself where there is none. -/
def after (c : Instr) (s : State) : State :=
  match exec c s with
  | .next u => u
  | .fault _ | .refused _ => s

/-- The example in CONFIG, ready for COMMIT. -/
def config : State := { State.reset with cfg := store 40 }

/-- The example in service, in the line state `l`. -/
def inService (l : LineState) : State :=
  { config.putIntoService with lsv := { config.putIntoService.lsv with lineState := l } }

def idle : State := inService .idle
def run : State := inService .run
def stopping : State := inService .stopping
def halt : State := inService .halt

def withEstop (s : State) : State := { s with lsv := { s.lsv with estop := true } }

theorem ready_of_reset {s : State} (h : s.clp = Clp.reset) : s.linkReady := by
  unfold State.linkReady; rw [h]; decide

theorem config_ready : config.linkReady := ready_of_reset rfl
theorem idle_ready : idle.linkReady := ready_of_reset rfl
theorem run_ready : run.linkReady := ready_of_reset rfl
theorem stopping_ready : stopping.linkReady := ready_of_reset rfl
theorem halt_ready : halt.linkReady := ready_of_reset rfl

theorem idle_in_service : idle.InService := by
  constructor <;> decide +kernel

theorem in_service (l : LineState) : (inService l).InService :=
  ⟨rfl, rfl, idle_in_service.checked, idle_in_service.segments, idle_in_service.nests,
    idle_in_service.permits, idle_in_service.common, idle_in_service.stations, idle_in_service.lists,
    idle_in_service.conveyors, idle_in_service.nodes, rfl⟩

theorem in_service_shaped (l : LineState) (h : l ≠ .config) : (inService l).shaped :=
  ⟨fun h' => absurd h' h, fun _ => in_service l⟩

theorem line_in_range : line.InRange := by
  constructor <;> decide

/-! ## The step, the resets and the line -/

theorem test_step_takes_the_front :
    step { run with pending := [.stop 5 7, .status 6 8 0] }
      = exec (.stop 5 7) { run with pending := [.status 6 8 0] } := rfl
theorem test_step_idles_on_an_empty_queue : step run = .next run := rfl

/-- A reply being sent, the last of the queue, with RESTART executed. -/
def restarting : State :=
  { idle with clp := { Clp.reset with
      restarting := true, sending := some [], replies := [{ type := 0x28, tag := 1, body := [0] }] } }

theorem test_reset_after_restart :
    (after (.replySendEnd 9 2) restarting).cfg = .reset
      ∧ (after (.replySendEnd 9 2) restarting).clp.rate = 2 := by decide +kernel
theorem test_reset_with_estop_asserted :
    (after (.hardwareReset true 1) run).lsv.estop = true
      ∧ (after (.hardwareReset true 1) run).clp.events.map (·.kind) = [.estopOn] := by decide +kernel

theorem meets_ConfigurationStoreIsKeptAsR2Says :
    (∃ u, exec (.hardwareReset true 3) run = .next u)
      ∧ (restarting.clp.sending = some []
        ∧ restarting.clp.replies = [{ type := 0x28, tag := 1, body := [0] }]
        ∧ restarting.clp.restarting = true ∧ ∃ u, exec (.replySendEnd 9 2) restarting = .next u)
      ∧ (idle.linkReady ∧ idle.lsv.lineState = .idle ∧ ∃ u, exec (.uncommit 1 2) idle = .next u)
      ∧ (run.linkReady ∧ run.lsv.lineState ≠ .config ∧ carriesFrames (.stop 1 2) = false
        ∧ ∃ u, exec (.stop 1 2) run = .next u) :=
  ⟨⟨_, rfl⟩, ⟨rfl, rfl, rfl, ⟨_, rfl⟩⟩, ⟨idle_ready, rfl, ⟨_, rfl⟩⟩, ⟨run_ready, by decide, rfl, ⟨_, rfl⟩⟩⟩

theorem meets_LineStateChangesOnlyByItsCauses :
    run.linkReady ∧ carriesFrames (.stop 1 2) = false ∧ ∃ u, exec (.stop 1 2) run = .next u :=
  ⟨run_ready, rfl, ⟨_, rfl⟩⟩

theorem meets_EstopInputIsTaken :
    (config.lsv.estop = false ∧ config.lsv.lineState = .config)
      ∧ (halt.lsv.estop = false ∧ halt.lsv.lineState = .halt)
      ∧ (idle.lsv.estop = false ∧ idle.lsv.lineState = .idle)
      ∧ (run.lsv.estop = false ∧ run.lsv.lineState = .run)
      ∧ (stopping.lsv.estop = false ∧ stopping.lsv.lineState = .stopping)
      ∧ (withEstop idle).lsv.estop = true := by decide +kernel

theorem test_estop_halts_the_line :
    (after (.estopInAsserted 5) run).lsv.lineState = .halt
      ∧ (after (.estopInAsserted 5) run).clp.events.map (·.kind) = [.estopOn, .lineState] := by
  decide +kernel
theorem test_estop_release_leaves_the_line :
    (after (.estopInReleased 5) (withEstop halt)).lsv.lineState = .halt
      ∧ (after (.estopInReleased 5) (withEstop halt)).lsv.estop = false := by decide +kernel

theorem meets_HaltRequestHaltsTheLine :
    (idle.linkReady ∧ idle.lsv.lineState = .idle) ∧ (run.linkReady ∧ run.lsv.lineState = .run)
      ∧ (stopping.linkReady ∧ stopping.lsv.lineState = .stopping)
      ∧ (halt.linkReady ∧ halt.lsv.lineState = .halt) ∧ config.linkReady ∧ config.lsv.lineState = .config :=
  ⟨⟨idle_ready, rfl⟩, ⟨run_ready, rfl⟩, ⟨stopping_ready, rfl⟩, ⟨halt_ready, rfl⟩, config_ready, rfl⟩

theorem test_halt_drops_run : (after (.halt 1 2) run).lsv.lineState = .halt := by decide +kernel

/-! ## The cell link -/

/-- A link whose reply queue holds `n` replies and whose request queue holds `m` frames. -/
def link (n m : Nat) : State :=
  { State.reset with clp := { Clp.reset with
      replies := List.replicate n { type := 0x61, tag := 0, body := [0] },
      requests := List.replicate m { type := 0x61, tag := 0, body := [] } } }

/-- A receiver that has heard `bytes` after the sync byte. -/
def hearing (bytes : List Byte) : State :=
  { State.reset with clp := { Clp.reset with rx := .assembling bytes { start := 0, limit := 10 } } }

theorem meets_FramesAreJudgedByTheirCheck :
    (List.replicate 240 (0 : Byte)).length ≤ Config.maxBody
      ∧ (0 : BitVec 16) ≠ crc16 (beBytes 2 0 ++ [0x61, 1] ++ [])
      ∧ Config.requestQueueCapacity ≤ (link 4 4).clp.requests.length
      ∧ ((link 4 3).clp.requests.length < Config.requestQueueCapacity
        ∧ Config.replyQueueCapacity ≤ (link 4 3).clp.replies.length)
      ∧ (restarting.clp.requests.length < Config.requestQueueCapacity ∧ restarting.clp.restarting = true)
      ∧ (link 3 0).linkReady := by
  refine ⟨by decide +kernel, by decide +kernel, by decide, by decide, by decide, ?_⟩
  unfold State.linkReady; decide

theorem test_bad_check_sets_link_error :
    (after (.frameReceived 1 0x61 9 [] 0) State.reset).clp.linkError = true
      ∧ (after (.frameReceived 1 0x61 9 [] 0) State.reset).clp.replies = [] := by decide +kernel
theorem test_fifth_frame_overruns :
    (after (.frameReceived 1 0x61 9 [] (crc16 [0, 0, 0x61, 9])) (link 4 4)).clp.overrun = true := by
  decide +kernel

theorem meets_TheReceiverAssemblesFrames :
    State.reset.clp.rx = .hunting
      ∧ (hearing [0]).clp.rx = .assembling [0] { start := 0, limit := 10 }
      ∧ (2 ≤ [(0 : Byte), 241].length ∧ 240 < beNat [0, 241])
      ∧ beNat [0, 240] ≤ 240
      ∧ (6 ≤ [(0 : Byte), 0, 0x61, 9, 1, 2].length ∧ beNat [0, 0] ≤ 240
        ∧ beNat [0, 0] + 6 ≤ [(0 : Byte), 0, 0x61, 9, 1, 2].length)
      ∧ (10 ≤ ((10 : LineTime) - 0).toNat ∧ ((9 : LineTime) - 0).toNat < 10)
      ∧ ∃ u, exec (.hardwareReset false 0) State.reset = .next u :=
  ⟨rfl, rfl, by decide, by decide, by decide, by decide, ⟨_, rfl⟩⟩

theorem test_length_241_is_dropped_at_its_second_byte :
    (after (.cellLinkByteReceived 3 241) (hearing [0])).clp.linkError = true := by decide +kernel
theorem test_length_240_goes_on :
    (after (.cellLinkByteReceived 3 240) (hearing [0])).clp.rx
      = .assembling [0, 240] { start := 3, limit := 10 } := by decide +kernel
theorem test_framing_error_while_assembling :
    (after (.framingError 3) (hearing [0])).clp.rx = .hunting
      ∧ (after (.framingError 3) (hearing [0])).clp.linkError = true := by decide +kernel
theorem test_gap_expires_at_10_ms :
    (after (.gapTimerExpiry 9) (hearing [0])).clp.linkError = false
      ∧ (after (.gapTimerExpiry 10) (hearing [0])).clp.linkError = true := by decide +kernel
theorem test_length_invalid : (after (.frameLengthInvalid 3) (hearing [0])).clp.linkError = true := by
  decide +kernel

theorem meets_BytesOfAFrameAreTheFrame :
    (List.replicate 240 (0 : Byte)).length ≤ Config.maxBody ∧ State.reset.clp.rx = .hunting :=
  ⟨by decide +kernel, rfl⟩

theorem test_an_identify_heard_byte_by_byte :
    (State.hear 4 (0xC3 :: ([0, 0, 0x61, 9] ++ beBytes 2 (crc16 [0, 0, 0x61, 9]).toNat))
      State.reset).clp.replies.map (fun r => (r.type, r.tag, r.body.length)) = [(0x61, 9, 19)] := by
  decide +kernel

/-- Two replies, the first being sent, and `m` frames that wait. -/
def sendingLink (m : Nat) : State := { link 2 m with clp := { (link 2 m).clp with sending := some [] } }

theorem meets_RepliesAreSentInTurn :
    ((link 1 0).clp.sending = none ∧ (link 1 0).clp.replies = [{ type := 0x61, tag := 0, body := [0] }])
      ∧ (State.reset.clp.replies = [] ∧ restarting.clp.sending.isSome = true)
      ∧ ((sendingLink 1).clp.sending = some []
          ∧ (sendingLink 1).clp.replies = { type := 0x61, tag := 0, body := [0] } ::
              [{ type := 0x61, tag := 0, body := [0] }]
          ∧ (sendingLink 1).clp.restarting = false
          ∧ (sendingLink 1).clp.requests = [{ type := 0x61, tag := 0, body := [] }]
          ∧ (sendingLink 0).clp.requests = [])
      ∧ restarting.clp.restarting = true := by decide +kernel

theorem test_cts_holds_a_reply_back :
    (after (.replySendStart 1 false) (link 1 0)).clp.sending = none
      ∧ (after (.replySendStart 1 true) (link 1 0)).clp.sending.isSome = true := by decide +kernel

theorem meets_UnknownAndShortRequestsAreRefused :
    State.reset.linkReady ∧ (0x16 : Byte) ∉ requestTypeCodes ∧ (List.replicate 240 (0 : Byte)).length ≤ Config.maxBody
      ∧ (List.replicate 56 (0 : Byte)).length < 57 ∧ (List.replicate 22 (0 : Byte)).length < 23
      ∧ (List.replicate 20 (0 : Byte)).length < 21 ∧ (List.replicate 8 (0 : Byte)).length < 9 :=
  ⟨ready_of_reset rfl, by decide, by decide +kernel, by decide, by decide, by decide, by decide⟩

theorem meets_AnswersOtherThanOkChangeNothing :
    State.reset.answer { type := 0x20, tag := 0, body := [0] } = (State.reset, .state)
      ∧ ∀ data, Answer.state ≠ .ok data := ⟨rfl, nofun⟩

theorem meets_EachTakenFrameGivesOneReply :
    (link 0 1).clp.requests = { type := 0x61, tag := 0, body := [] } :: [] := rfl

theorem meets_EveryStepKeepsTheQueues :
    (link 4 4).QueuesWithin ∧ ∃ u, step { link 4 4 with pending := [.stop 1 2] } = .next u :=
  ⟨⟨by decide, by decide, by decide, by decide, by decide, fun _ => .inl (by decide)⟩, ⟨_, rfl⟩⟩

/-! ## Configuration -/

theorem meets_LineSetStoresExactlyItsRecord :
    config.linkReady ∧ config.lsv.lineState = .config ∧ line.InRange
      ∧ (List.replicate 100 (0 : Byte)).length ≤ 100 :=
  ⟨config_ready, rfl, line_in_range, by decide +kernel⟩

theorem test_line_set_stores_cap :
    (after (.lineSet 1 2 line.bytes) State.reset).cfg.line = line := by decide +kernel

theorem load_in_range : (stationRecord .load 1 1 10 15).InRange := by
  constructor <;> decide

theorem machine_in_range : (stationRecord .machine 1 4 11 3).InRange := by
  constructor <;> decide

theorem segment_in_range : (segment 8 1 2500 400).InRange := by
  constructor <;> decide

theorem bus_in_range : (bus 40).InRange := by
  constructor <;> decide

theorem meets_OtherSetsStoreExactlyTheirRecord :
    config.linkReady ∧ config.lsv.lineState = .config ∧ (segment 8 1 2500 400).InRange
      ∧ (stationRecord .load 1 1 10 15).InRange ∧ (bus 40).InRange
      ∧ (List.replicate 19 (0 : Byte)).length = 19 :=
  ⟨config_ready, rfl, segment_in_range, load_in_range, bus_in_range, by decide⟩

theorem test_segment_set : (after (.segmentSet 1 2 ((segment 8 1 2500 400).bytes 1)) State.reset).cfg.seg 1
    = segment 8 1 2500 400 := by decide +kernel
theorem test_station_set :
    tableGet 32 (after (.stationSet 1 2 ((stationRecord .load 1 1 10 15).bytes 32))
      State.reset).cfg.stations = some (stationRecord .load 1 1 10 15) := by decide +kernel
theorem test_station_set_none_empties :
    tableGet 2 (after (.stationSet 1 2 (2 :: 0 :: List.replicate 19 0)) config).cfg.stations = none := by
  decide +kernel
theorem test_bus_set : (after (.busSet 1 2 (bus 40).bytes) State.reset).cfg.bus = bus 40 := by decide +kernel

theorem meets_SetsAreRefusedByTheFirstBadField :
    (idle.linkReady ∧ idle.lsv.lineState ≠ .config
        ∧ 57 ≤ (List.replicate 57 (0 : Byte)).length ∧ 23 ≤ (List.replicate 23 (0 : Byte)).length
        ∧ 21 ≤ (List.replicate 21 (0 : Byte)).length
        ∧ 9 + byteAt (List.replicate 9 0) 7 ≤ (List.replicate 9 (0 : Byte)).length)
      ∧ (config.linkReady ∧ config.lsv.lineState = .config ∧ line.InRange
        ∧ (line.cap ≤ 24000 ∧ 24000 < 65536) ∧ (999 < 1000 ∧ 60000 < 60001) ∧ (63 ≤ 63 ∧ 255 < 256)
        ∧ (stationRecord .machine 1 4 11 3).tCycleMax ≤ 20000 ∧ (14 : BitVec 4) ≠ 15)
      ∧ ((stationRecord .machine 1 4 11 3).InRange ∧ (bus 40).InRange ∧ 19 < (bus 40).slots.length
        ∧ (List.replicate 100 (0 : Byte)) ≠ [] ∧ (List.replicate 100 (0 : Byte)).length ≤ 100) :=
  ⟨⟨idle_ready, by decide, by decide, by decide, by decide, by decide⟩,
    ⟨config_ready, rfl, line_in_range, by decide, by decide, by decide, by decide, by decide⟩,
    machine_in_range, bus_in_range, by decide, by decide, by decide +kernel⟩

theorem meets_LoopPositionsAreThoseOfR8 :
    (store 40).line.nseg = 3 ∧ { line with nseg := 1 }.nseg = 1 ∧ { line with nseg := 2 }.nseg = 2
      ∧ { line with nseg := 4 }.nseg = 4 ∧ (store 40).line.InRange
      ∧ ∀ k ∈ [1, 2, 3, 4], ((store 40).seg k).nests ≤ 12 :=
  ⟨rfl, rfl, rfl, rfl, line_in_range, by decide⟩

theorem meets_PositionsAndPlacesAgree :
    idle.InService ∧ idle.cfg.line.InRange ∧ idle.loopCount = 50 :=
  ⟨idle_in_service, line_in_range, by decide +kernel⟩

theorem test_positions_of_the_example :
    idle.placeAt 16 = some (.nest 2 5) ∧ idle.placeAt 27 = some (.entry .b2 0)
      ∧ idle.placeAt 33 = some (.nest 3 6) ∧ idle.placeAt 49 = some (.entry .rc 0) := by decide +kernel

/-- The example before its correction. -/
def firstTry : State := { State.reset with cfg := store 3 }

theorem meets_FailedCommitsChangeNothing :
    (firstTry.linkReady ∧ firstTry.lsv.lineState = .config
        ∧ firstTry.cfg.failure = some (7, { kind := .hpu, number := 0 }))
      ∧ run.linkReady ∧ run.lsv.lineState ≠ .config :=
  ⟨⟨ready_of_reset rfl, rfl, test_first_commit_fails_at_check_7⟩, run_ready, by decide⟩

theorem meets_CommitPutsTheConfigurationIntoService :
    (config.linkReady ∧ config.lsv.lineState = .config ∧ config.cfg.failure = none
        ∧ config.lsv.estop = false)
      ∧ ((withEstop config).linkReady ∧ (withEstop config).lsv.lineState = .config
        ∧ (withEstop config).cfg.failure = none ∧ (withEstop config).lsv.estop = true) :=
  ⟨⟨config_ready, rfl, test_second_commit_passes.1, rfl⟩,
    ⟨ready_of_reset rfl, rfl, test_second_commit_passes.1, rfl⟩⟩

theorem test_commit_of_the_example :
    (after (.commit 1 2) config).lsv.lineState = .idle ∧ (after (.commit 1 2) config).sbm.nodes.length = 15
      ∧ ((after (.commit 1 2) config).clp.replies.map (·.body)) = [[0, 50, 0, 1, 0x40, 0x92]] := by
  decide +kernel

theorem meets_UncommitTakesTheConfigurationOutOfService :
    (idle.linkReady ∧ idle.lsv.lineState = .idle) ∧ run.linkReady ∧ run.lsv.lineState ≠ .idle :=
  ⟨⟨idle_ready, rfl⟩, run_ready, by decide⟩

theorem test_uncommit_keeps_the_records :
    (after (.uncommit 1 2) idle).lsv.lineState = .config
      ∧ (after (.uncommit 1 2) idle).cfg = store 40 := by decide +kernel

theorem meets_EveryStepKeepsTheShape :
    run.shaped ∧ ∃ u, step { run with pending := [.stop 1 2] } = .next u :=
  ⟨in_service_shaped .run (by decide), ⟨_, rfl⟩⟩

theorem meets_EveryStepKeepsTheRanges :
    run.shaped ∧ run.within ∧ ∃ u, step { run with pending := [.stop 1 2] } = .next u := by
  refine ⟨in_service_shaped .run (by decide), ?_, ⟨_, rfl⟩⟩
  unfold State.within Ada.within; decide +kernel

/-! ## The line requests -/

theorem meets_StartStopAndModeChangeTheLine :
    (idle.linkReady ∧ idle.lsv.lineState = .idle ∧ Mode.ofCode (1 : Byte).toNat = some .step
        ∧ 1 ∈ idle.segNumbers ∧ (idle.seg 1).state = .off)
      ∧ (run.linkReady ∧ run.lsv.lineState = .run ∧ run.lsv.mode = .auto ∧ 3 ∈ run.segNumbers)
      ∧ Mode.ofCode (2 : Byte).toNat = none ∧ halt.lsv.lineState ≠ .idle ∧ halt.lsv.lineState ≠ .run :=
  ⟨⟨idle_ready, rfl, rfl, by decide +kernel, by decide +kernel⟩,
    ⟨run_ready, rfl, rfl, by decide +kernel⟩, rfl, by decide, by decide⟩

theorem test_start : (after (.start 1 2 1) idle).lsv.lineState = .run
    ∧ (after (.start 1 2 1) idle).lsv.mode = .step := by decide +kernel
theorem test_start_refuses_mode_2 :
    (after (.start 1 2 2) idle).clp.replies.map (·.body) = [[2, 1]] := by decide +kernel
theorem test_stop_of_a_returning_line : (after (.stop 1 2) run).lsv.lineState = .idle := by decide +kernel
theorem test_mode : (after (.mode 1 2 1) run).lsv.mode = .step := by decide +kernel

/-- In RUN, segment 2 in ADVANCE with the hold status `h`. -/
def advancing (h : HoldStatus) : State :=
  run.modSeg 2 fun g => { g with state := .advance, hold := h }

theorem meets_PermitsAndHoldsFollowTheMask :
    (maskRefused run.nseg 7 = false ∧ maskSegments 7 = [1, 2, 3]
        ∧ 3 ∈ run.lsv.permits.map (·.1) ∧ 3 ∈ run.segNumbers)
      ∧ ((advancing .none).linkReady ∧ (advancing .none).lsv.lineState = .run
        ∧ 2 ∈ maskSegments 2 ∧ ((advancing .none).seg 2).state.inMotion = true
        ∧ ((advancing .none).seg 2).hold = .none)
      ∧ ((advancing .held).seg 2).hold = .held ∧ ((advancing .holding).seg 2).hold = .holding
      ∧ (maskRefused 3 16 = true ∧ maskRefused 3 0 = true ∧ maskRefused 3 8 = true)
      ∧ (stopping.linkReady ∧ stopping.lsv.lineState = .stopping)
      ∧ idle.linkReady ∧ idle.lsv.lineState ≠ .run ∧ idle.lsv.lineState ≠ .stopping :=
  ⟨by decide +kernel, ⟨ready_of_reset rfl, by decide +kernel⟩, by decide +kernel, by decide +kernel,
    by decide +kernel, ⟨stopping_ready, rfl⟩, idle_ready, by decide, by decide⟩

theorem test_step_grant_twice :
    (after (.stepGrant 2 3 4) (after (.stepGrant 1 2 4) run)).permit 3 = true
      ∧ (after (.stepGrant 2 3 4) (after (.stepGrant 1 2 4) run)).clp.replies.map (·.body)
        = [[0, 0], [0, 1]] := by decide +kernel
theorem test_hold_stops_a_motion :
    ((after (.hold 1 2 2) (advancing .none)).seg 2).hold = .holding
      ∧ (after (.hold 1 2 2) (advancing .none)).drivePending 2 = some .feedhold := by decide +kernel
theorem test_continue_resumes :
    ((after (.continueRun 1 2 2) (advancing .held)).seg 2).hold = .resuming
      ∧ (after (.continueRun 1 2 2) (advancing .held)).drivePending 2 = some .resume := by decide +kernel

/-- `s` with station 2, of S1.N4, in `st`, its node ONLINE and last reporting `rep`. -/
def withStation (s : State) (st : StationState) (rep : StationReport) : State :=
  s.modStation 2 fun x => { x with
    state := st, node := .online, report := some (rep, 0),
    cause := if st = .fault then some .estop else none }

theorem meets_RecoverReturnsTheLineToIdle :
    ((withStation halt .fault .unclamped).linkReady ∧ (withStation halt .fault .unclamped).lsv.lineState = .halt
        ∧ (withStation halt .fault .unclamped).lsv.estop = false
        ∧ 2 ∈ (withStation halt .fault .unclamped).stationNumbers
        ∧ ((withStation halt .fault .unclamped).station 2).state = .fault
        ∧ ((withStation halt .fault .unclamped).station 2).cause = some .estop
        ∧ ((withStation halt .fault .unclamped).station 2).reportsUnclamped = true
        ∧ (withStation halt .fault .unclamped).stationPending 2 = none)
      ∧ ((withEstop halt).linkReady ∧ (withEstop halt).lsv.lineState = .halt ∧ (withEstop halt).lsv.estop = true)
      ∧ run.linkReady ∧ run.lsv.lineState ≠ .halt :=
  ⟨⟨ready_of_reset rfl, by decide +kernel⟩, ⟨ready_of_reset rfl, by decide +kernel⟩, run_ready, by decide⟩

theorem test_recover_releases_a_station :
    ((after (.recover 1 2) (withStation halt .fault .unclamped)).station 2).state = .released
      ∧ ((after (.recover 1 2) (withStation halt .fault .clamped)).station 2).state = .fault := by
  decide +kernel

theorem meets_RestartStopsTheTakingOfFrames :
    (config.linkReady ∧ config.lsv.lineState = .config) ∧ (idle.linkReady ∧ idle.lsv.lineState = .idle)
      ∧ (halt.linkReady ∧ halt.lsv.lineState = .halt) ∧ (run.linkReady ∧ run.lsv.lineState = .run)
      ∧ stopping.linkReady ∧ stopping.lsv.lineState = .stopping :=
  ⟨⟨config_ready, rfl⟩, ⟨idle_ready, rfl⟩, ⟨halt_ready, rfl⟩, ⟨run_ready, rfl⟩, stopping_ready, rfl⟩

theorem test_restart : (after (.restart 1 2) idle).clp.restarting = true := by decide +kernel

/-! ## Stations, segments and conveyors -/

theorem meets_BypassSkipsAndRestoresAStation :
    (1 ≤ (2 : Byte).toNat ∧ (2 : Byte).toNat ≤ 32)
      ∧ (∀ s ∈ [withStation idle .released .unclamped, withStation run .fault .unclamped,
          withStation idle .skipped .unclamped, withStation run .skipped .lockout],
        s.clp = Clp.reset ∧ (s.lsv.lineState = .idle ∨ s.lsv.lineState = .run)
          ∧ s.stationCfg 2 = some (stationRecord .machine 1 4 11 3)
          ∧ tableGet 2 s.sqs.stations = some (s.station 2) ∧ s.stationPending 2 = none
          ∧ (s.seg 1).state.inMotion = false ∧ (s.station 2).node = .online)
      ∧ ((withStation run .fault .unclamped).station 2).reportsUnclamped = true
      ∧ ((withStation run .skipped .lockout).station 2).reportsLockout = true
      ∧ (idle.stationCfg 1 = some (stationRecord .load 1 1 10 15)
        ∧ tableGet 1 idle.sqs.stations = some Station.fresh) := by decide +kernel

theorem test_bypass_on : ((after (.bypassOn 1 2 2) idle).station 2).state = .skipped := by decide +kernel
theorem test_bypass_on_refuses_a_load_station :
    (after (.bypassOn 1 2 1) idle).clp.replies.map (·.body) = [[3]] := by decide +kernel
theorem test_bypass_off :
    ((after (.bypassOff 1 2 2) (withStation run .skipped .lockout)).station 2).state = .lockout := by
  decide +kernel

/-- In RUN, station 2 in `st` with a job on pallet 9, which stands in its nest with a workpiece. -/
def working (st : StationState) : State :=
  ((({ run with trk := { run.trk with pallets :=
      [(9, { Pallet.fresh .a with workpiece := some (Workpiece.fresh 7) })] } }.modSegMap 1
      fun m => { m with nests := m.nests.set 3 (some 9) }).syncPlacements).modStation 2
    fun x => { x with
      state := st, node := .online, startTime := some 0,
      job := some { kind := .machine, pallet := 9, variant := .a, disposition := none } })

theorem meets_AbortCycleEndsTheJob :
    (∀ s ∈ [working .cycle, working .clamping, working .clamped],
      s.clp = Clp.reset ∧ s.lsv.lineState = .run
        ∧ s.stationCfg (2 : Byte).toNat = some (stationRecord .machine 1 4 11 3)
        ∧ tableGet 2 s.sqs.stations = some (s.station 2)
        ∧ (s.station 2).job = some { kind := .machine, pallet := 9, variant := .a, disposition := none }
        ∧ (s.station 2).outcomeGiven = false)
      ∧ ((working .cycle).station 2).state = .cycle ∧ ((working .clamping).station 2).state = .clamping
      ∧ ((working .doneHeld).station 2).state ≠ .cycle := by decide +kernel

theorem test_abort_of_a_cycle :
    ((after (.abortCycle 5 2 2) (working .cycle)).station 2).state = .unclamping
      ∧ (after (.abortCycle 5 2 2) (working .cycle)).stationPending 2 = some .retract
      ∧ (((after (.abortCycle 5 2 2) (working .cycle)).pallet 9).bind (·.workpiece)).map (·.defects)
        = some [{ station := 2, cause := .aborted, elapsed := 5 }] := by decide +kernel
theorem test_abort_of_a_clamping_station_misses :
    (((after (.abortCycle 5 2 2) (working .clamping)).pallet 9).bind (·.workpiece)).map (·.opsMissed)
      = some [2] := by decide +kernel

theorem meets_ClearFaultOfAStationFollowsItsReport :
    (∀ rep ∈ [StationReport.unclamped, .lockout, .clamped, .cycleDone, .fault, .cycling],
      (withStation idle .fault rep).clp = Clp.reset ∧ (withStation idle .fault rep).lsv.lineState = .idle
        ∧ (withStation idle .fault rep).stationCfg (2 : Byte).toNat = some (stationRecord .machine 1 4 11 3)
        ∧ tableGet 2 (withStation idle .fault rep).sqs.stations
          = some ((withStation idle .fault rep).station 2)
        ∧ ((withStation idle .fault rep).station 2).state = .fault
        ∧ ((withStation idle .fault rep).station 2).clearPending = false
        ∧ ((withStation idle .fault rep).station 2).node = .online
        ∧ (withStation idle .fault rep).stationPending 2 = none
        ∧ ((withStation idle .fault rep).station 2).report = some (rep, 0)
        ∧ ((withStation idle .fault rep).seg 1).state.inMotion = false)
      ∧ ((withStation idle .released .unclamped).station 2).state ≠ .fault := by decide +kernel

theorem test_clear_of_a_faulted_station :
    (after (.clearFaultStation 1 2 2) (withStation idle .fault .fault)).stationPending 2 = some .resetFault
      ∧ ((after (.clearFaultStation 1 2 2) (withStation idle .fault .fault)).station 2).clearPending = true
      ∧ ((after (.clearFaultStation 1 2 2) (withStation idle .fault .clamped)).station 2).state
        = .unclamping := by decide +kernel

/-- In IDLE, segment 3 in FAULT with its drive ONLINE, and its certainty `c`, with an open index of entry
pallet 5 and exit pallet 6 to VS. -/
def brokenSegment (c : Certainty) : State :=
  (idle.modSeg 3 fun g => { g with state := .fault, cause := some .driveFault, node := .online }).modSegMap 3
    fun m => { m with certainty := c, openIndex := some { entry := none, exit := none, dest := none } }

/-- In IDLE, conveyor B2 JAMMED with its node ONLINE, an empty list and a report that agrees. -/
def jammed : State :=
  idle.modConv .b2 fun v => { v with
    state := .jammed, cause := some .nodeJam, node := .online, report := some (0, false, false) }

theorem meets_ClearFaultOfSegmentsAndConveyors :
    (∀ c ∈ [Certainty.certain, .uncertain],
      (brokenSegment c).clp = Clp.reset ∧ (brokenSegment c).lsv.lineState = .idle
        ∧ (3 : Byte).toNat ≤ (brokenSegment c).nseg ∧ ((brokenSegment c).seg 3).state = .fault
        ∧ ((brokenSegment c).seg 3).clear = none ∧ ((brokenSegment c).seg 3).node = .online
        ∧ (brokenSegment c).drivePending 3 = none)
      ∧ (brokenSegment .certain).certain 3 = true ∧ (brokenSegment .uncertain).certain 3 = false
      ∧ (jammed.clp = Clp.reset ∧ jammed.lsv.lineState = .idle ∧ ConvId.ofNumber (2 : Byte).toNat = some .b2
        ∧ .b2 ∈ convsInService jammed.nseg ∧ (jammed.conv .b2).state = .jammed
        ∧ (jammed.conv .b2).node = .online ∧ (jammed.conv .b2).report = some (0, false, false)
        ∧ headAgrees false (jammed.list .b2) = true ∧ 0 < jammed.cfg.line.travel .b2)
      ∧ (idle.conv .rc).state = .flowing := by decide +kernel

theorem test_clear_of_a_segment :
    (after (.clearFaultSegment 1 2 3) (brokenSegment .certain)).drivePending 3 = some .resetFault
      ∧ (after (.clearFaultSegment 1 2 3) (brokenSegment .uncertain)).clp.replies.map (·.body) = [[7]] := by
  decide +kernel
theorem test_clear_of_a_conveyor :
    ((after (.clearFaultConveyor 1 2 2) jammed).conv .b2).state = .flowing := by decide +kernel

/-! ## Pallets and the map -/

/-- `s` with a record of pallet `id`, UNPLACED. -/
def define (id : Nat) (s : State) : State :=
  { s with trk := { s.trk with pallets := tableInsert id (Pallet.fresh .a) s.trk.pallets } }

/-- `s` with pallet `id` in nest `j` of segment `k`. -/
def seat (id k j : Nat) (s : State) : State :=
  ((define id s).modSegMap k fun m => { m with nests := m.nests.set (j - 1) (some id) }).syncPlacements

/-- `s` with pallet `id` at the tail of conveyor `c`, ARRIVED. -/
def queue (id : Nat) (c : ConvId) (s : State) : State :=
  ((define id s).setList c (s.list c ++ [{ pallet := id, state := .arrived, entryTime := 0 }])).syncPlacements

/-- IDLE with a full Pallet Table. -/
def fullTable : State :=
  { idle with trk := { idle.trk with pallets := (List.range' 1 80).map fun id => (id, Pallet.fresh .b) } }

theorem meets_PalletRecordsAreDefinedAndDeleted :
    (idle.linkReady ∧ ¬ (1 ≤ (0 : Byte).toNat) ∧ ¬ ((251 : Byte).toNat ≤ 250) ∧ 4 ≤ (4 : Byte).toNat)
      ∧ (1 ≤ (250 : Byte).toNat ∧ (250 : Byte).toNat ≤ 250 ∧ Variant.ofCode (3 : Byte).toNat = some .d)
      ∧ (fullTable.clp = Clp.reset ∧ fullTable.pallet 250 = none ∧ 80 ≤ fullTable.trk.pallets.length
        ∧ fullTable.pallet 80 = some (Pallet.fresh .b))
      ∧ (idle.pallet 250 = none ∧ idle.trk.pallets.length < 80)
      ∧ ((seat 9 1 4 idle).pallet 9 = some { Pallet.fresh .a with placement := some 3 }
        ∧ ((define 9 idle).pallet 9) = some (Pallet.fresh .a)) :=
  ⟨⟨idle_ready, by decide⟩, by decide, by decide +kernel, by decide +kernel, by decide +kernel⟩

theorem test_pallet_define :
    (after (.palletDefine 1 2 250 3) idle).pallet 250 = some (Pallet.fresh .d)
      ∧ (after (.palletDefine 1 2 251 3) idle).clp.replies.map (·.body) = [[2, 0]] := by decide +kernel
theorem test_pallet_delete :
    (after (.palletDelete 1 2 9) (define 9 idle)).pallet 9 = none
      ∧ (after (.palletDelete 1 2 9) (seat 9 1 4 idle)).clp.replies.map (·.body) = [[3]] := by decide +kernel
theorem test_pallet_read :
    (after (.palletRead 1 2 9) (seat 9 1 4 idle)).clp.replies.map (·.body)
      = [[0, 9, 0, 0, 3, 0, 0, 0, 0, 0, 0]] := by decide +kernel

theorem meets_PlacePutsThePalletWhereItIsNamed :
    (∀ s ∈ [define 9 idle, define 9 halt, define 9 (seat 8 1 1 idle), seat 9 1 4 idle,
        define 9 (queue 3 .vs (queue 2 .vs idle))],
      s.clp = Clp.reset ∧ (s.lsv.lineState = .idle ∨ s.lsv.lineState = .halt) ∧ (s.pallet 9).isSome = true
        ∧ (34 : Byte).toNat < s.loopCount ∧ s.placeAt (0 : Byte).toNat = some (.nest 1 1)
        ∧ s.placeAt (34 : Byte).toNat = some (.entry .vs 1))
      ∧ (∃ place, ((seat 9 1 4 idle).pallet 9).bind (·.placement) = some place)
      ∧ (((define 9 idle).pallet 9).map (·.placement) = some none)
      ∧ (∃ other, (define 9 (seat 8 1 1 idle)).occupant 1 1 = some other)
      ∧ ((define 9 idle).occupant 1 1 = none ∧ (define 9 idle).certain 1 = true
        ∧ (define 9 idle).nestStationFree 1 1 = true ∧ (define 9 idle).tagBlocks 1 1 = false
        ∧ (define 9 idle).runAllows (.nest 1 1) = true)
      ∧ (let s := define 9 (queue 3 .vs (queue 2 .vs idle))
        s.cfg.line.capacity .vs ≤ (s.list .vs).length + (s.conv .vs).reservations.length)
      ∧ ((define 9 idle).list .vs).length + ((define 9 idle).conv .vs).reservations.length
          < (define 9 idle).cfg.line.capacity .vs
        ∧ (define 9 idle).runAllows (.entry .vs 1) = true :=
  ⟨by decide +kernel, ⟨3, by decide +kernel⟩, by decide +kernel, ⟨8, by decide +kernel⟩, by decide +kernel,
    by decide +kernel, by decide +kernel, by decide +kernel⟩

theorem test_place_in_a_nest :
    (after (.place 1 2 9 16) (define 9 idle)).occupant 2 5 = some 9
      ∧ (after (.place 1 2 9 16) (define 9 idle)).clp.replies.map (·.body) = [[0, 16]] := by decide +kernel
theorem test_place_on_a_conveyor :
    (after (.place 1 2 9 36) (define 9 idle)).clp.replies.map (·.body) = [[0, 49]] := by decide +kernel

theorem meets_RemoveTakesThePalletFromItsPlace :
    (∀ s ∈ [define 9 idle, seat 9 1 4 idle, queue 9 .rc idle],
      s.clp = Clp.reset ∧ s.lsv.lineState = .idle ∧ (s.pallet (9 : Byte).toNat).isSome = true)
      ∧ (define 9 idle).findPallet 9 = none
      ∧ ((seat 9 1 4 idle).findPallet 9 = some (.nest 1 4)
        ∧ (seat 9 1 4 idle).removable 9 (.nest 1 4) = true)
      ∧ (let s := (seat 9 1 4 idle).modStation 2 fun x => { x with state := .cycle }
        s.findPallet 9 = some (.nest 1 4) ∧ s.removable 9 (.nest 1 4) = false)
      ∧ ((queue 9 .rc idle).findPallet 9 = some (.entry .rc 0)
        ∧ (queue 9 .rc idle).removable 9 (.entry .rc 0) = true) := by decide +kernel

theorem test_remove : (after (.remove 1 2 9) (seat 9 1 4 idle)).occupant 1 4 = none
    ∧ ((after (.remove 1 2 9) (seat 9 1 4 idle)).pallet 9).map (·.placement) = some none := by decide +kernel

/-- `s` with S1's tag check HELD, opened on `o`, the value `value` read. -/
def heldTag (o : Option Nat) (value : Nat) (s : State) : State :=
  (s.modSeg 1 fun g => { g with trackHold := true }).setTag
    (.held { occupant := o, image := none, openedAt := 0, noticeHeld := false } value false)

theorem meets_AcceptTagSeatsTheReadPallet :
    (idle.linkReady ∧ idle.InService ∧ ∀ o value edited, idle.trk.tag ≠ .held o value edited)
      ∧ ((heldTag none 9 idle).clp = Clp.reset ∧ (heldTag none 9 idle).pallet 9 = none)
      ∧ (let s := heldTag none 9 (define 9 idle)
        s.lsv.lineState = .idle ∧ (s.pallet 9).isSome = true ∧ s.readMovable 9 = true ∧ s.certain 1 = true
          ∧ s.nests 1 ≠ [] ∧ 1 ≤ s.nseg ∧ s.findPallet 9 = none)
      ∧ (heldTag (some 8) 0 (seat 8 1 1 idle)).readMovable 0 = true :=
  ⟨⟨idle_ready, idle_in_service, nofun⟩, by decide +kernel, by decide +kernel, by decide +kernel⟩

theorem test_accept_tag :
    (after (.acceptTag 1 2) (heldTag (some 8) 9 (define 9 (seat 8 1 1 idle)))).occupant 1 1 = some 9
      ∧ ((after (.acceptTag 1 2) (heldTag (some 8) 9 (define 9 (seat 8 1 1 idle)))).pallet 8).map
          (·.placement) = some none := by decide +kernel

/-- IDLE, segment 1 in FAULT and UNCERTAIN with its exit nest and nest 2 occupied, an open index of entry
pallet 5, the head of RC, and exit pallet 8, to B1. -/
def openShift : State :=
  (((queue 5 .rc (seat 7 1 2 (seat 8 1 8 idle))).modSeg 1 fun g =>
    { g with state := .fault, cause := some .driveFault }).modSegMap 1 fun m =>
      { m with certainty := .uncertain,
               openIndex := some { entry := some 5, exit := some 8, dest := some .b1 } }).modConv .b1
    fun v => { v with reservations := [{ holder := .segment 1, status := .carried }] }

theorem meets_ConfirmSegmentSettlesTheOpenIndex :
    (idle.linkReady ∧ idle.lsv.lineState = .idle ∧ 1 ≤ (3 : Byte).toNat ∧ (3 : Byte).toNat ≤ idle.nseg
        ∧ (idle.seg 3).state ≠ .fault ∧ (List.replicate 12 (0 : Byte)).length ≤ 12)
      ∧ (openShift.clp = Clp.reset ∧ openShift.lsv.lineState = .idle ∧ (1 : Byte).toNat ≤ openShift.nseg
        ∧ (openShift.seg 1).state = .fault ∧ openShift.certain 1 = false
        ∧ (openShift.segMap 1).openIndex = some { entry := some 5, exit := some 8, dest := some .b1 })
      ∧ ((1 : Byte).toNat ≤ 1 ∧ openShift.listRefused 1 { entry := some 5, exit := some 8, dest := some .b1 }
          true [some 5, none, some 7, none, none, none, none, none] = false)
      ∧ openShift.listRefused 1 { entry := some 5, exit := some 8, dest := some .b1 }
          true [some 5, none, some 7, none, none, none, none, some 8] = true :=
  ⟨⟨idle_ready, by decide +kernel⟩, by decide +kernel, by decide +kernel, by decide +kernel⟩

theorem test_confirm_after :
    (after (.confirmSegmentAfter 1 2 1) openShift).nests 1
        = [some 5, none, some 7, none, none, none, none, none]
      ∧ ((after (.confirmSegmentAfter 1 2 1) openShift).list .b1).map (·.pallet) = [8]
      ∧ (after (.confirmSegmentAfter 1 2 1) openShift).list .rc = [] := by decide +kernel
theorem test_confirm_before :
    (after (.confirmSegmentBefore 1 2 1) openShift).nests 1 = openShift.nests 1
      ∧ ((after (.confirmSegmentBefore 1 2 1) openShift).conv .b1).reservations = []
      ∧ (after (.confirmSegmentBefore 1 2 1) openShift).certain 1 = true := by decide +kernel
theorem test_confirm_list_keeps_the_exit_pallet :
    (after (.confirmSegmentList 1 2 1 0 [0, 0, 7, 0, 0, 0, 0, 8]) openShift).nests 1
        = [none, none, some 7, none, none, none, none, some 8]
      ∧ ((after (.confirmSegmentList 1 2 1 0 [0, 0, 7, 0, 0, 0, 0, 8]) openShift).list .rc).map (·.pallet)
        = [5] := by decide +kernel

/-! ## The reserve and the reads -/

theorem meets_ReserveSetDeclaresTheReserve :
    (config.linkReady ∧ config.lsv.lineState = .config)
      ∧ (let s : State := { run with ada := { run.ada with alarm := true } }
        s.clp = Clp.reset ∧ s.lsv.lineState ≠ .config ∧ s.ada.alarm = true)
      ∧ run.linkReady ∧ run.lsv.lineState ≠ .config ∧ run.ada.alarm = false :=
  ⟨⟨config_ready, rfl⟩, by decide +kernel, run_ready, by decide, rfl⟩

theorem test_reserve_set_is_clamped :
    (after (.reserveSet 3 2 65535) run).ada.r = 24000
      ∧ (after (.reserveSet 3 2 65535) run).clp.replies.map (·.body) = [[0, 0x5D, 0xC0]] := by
  decide +kernel

theorem meets_IdentifyGivesTheTableOfR183 : idle.linkReady ∧ idle.shaped :=
  ⟨idle_ready, in_service_shaped .idle (by decide)⟩

theorem test_identify :
    (after (.identify 1 2) idle).clp.replies.map (·.body)
      = [[0, 2, 100, 2, 4, 12, 32, 100, 80, 1, 62, 4, 32, 240, 1, 3, 50, 5, 0]] := by decide +kernel

theorem meets_EventsTakeRemovesTheOldest : idle.linkReady := idle_ready

theorem test_events_take :
    (after (.eventsTake 9 2 1) { State.reset with clp := { Clp.reset with gap := true, events :=
        [{ kind := .lineState, time := 7, subject := .line, pallet := none,
           detail := .lineState .run .start }] } }).clp.replies.map (·.body)
      = [[0, 1, 0, 1, 21, 0, 0, 0, 7, 0, 0, 0, 2, 1, 0, 0, 0, 0]] := by decide +kernel

theorem meets_ReadsShowTheStateAtTheirExecution :
    idle.linkReady ∧ (4 : Byte).toNat ≤ 4 ∧ 4 < (5 : Byte).toNat
      ∧ (idle.lsv.lineState ≠ .config ∧ idle.loopCount ≤ (50 : Byte).toNat
        ∧ (49 : Byte).toNat < idle.loopCount)
      ∧ (config.linkReady ∧ config.lsv.lineState = .config)
      ∧ (1 ≤ (250 : Byte).toNat ∧ (250 : Byte).toNat ≤ 250 ∧ idle.pallet 250 = none
        ∧ (define 250 idle).clp = Clp.reset ∧ (define 250 idle).pallet 250 = some (Pallet.fresh .a)) :=
  ⟨idle_ready, by decide, by decide, by decide +kernel, ⟨config_ready, rfl⟩, by decide +kernel⟩

theorem test_status_section_1 :
    (after (.status 0x01020304 2 1) { idle with clp := { Clp.reset with linkError := true } }).clp.replies.map
        (fun r => r.body.take 17) = [[0, 1, 2, 3, 4, 1, 0, 1, 1, 0, 0, 0, 1, 3, 0, 0, 0]]
      ∧ (after (.status 0x01020304 2 1)
          { idle with clp := { Clp.reset with linkError := true } }).clp.linkError = false := by
  decide +kernel
theorem test_map_read_wraps :
    (after (.mapRead 1 2 49 2) (seat 9 1 1 (queue 5 .rc idle))).clp.replies.map (fun r => r.body.take 2)
      = [[0, 2]] := by decide +kernel

/-! ## The station bus -/

/-- IDLE with the node of address 11, station 2's, holding UNCLAMP, with echo image `e`. -/
def commanding (e : Option Echo) : State :=
  (idle.modNode 11 fun n => { n with
    state := .online, echo := e, pending := some { code := .unclamp, args := [], sent := none } })

/-- `s` before slot `i`, with nothing cut. -/
def beforeSlot (i : Nat) (s : State) : State := { s with sbm := { s.sbm with scan := .scanning i false } }

theorem meets_ScansAndPollsFollowTheSchedule :
    ((beforeSlot 20 idle).sbm.scan = .scanning 20 false ∧ (beforeSlot 20 idle).sbm.window = none
        ∧ 20 ≤ (beforeSlot 20 idle).sbm.schedule.length
        ∧ ∀ a ∈ (beforeSlot 20 idle).sbm.schedule.drop 20, a = 0)
      ∧ ((beforeSlot 19 idle).sbm.schedule[19]? = some 40 ∧ ((idle.node 40).isSome = true)
        ∧ ∀ b ∈ ((beforeSlot 19 idle).sbm.schedule.take 19).drop 19, b = 0)
      ∧ (∃ n c e, (commanding (some { toggle := true, code := none, refused := false })).node 11 = some n
        ∧ n.pending = some c ∧ n.echo = some e ∧ n.resync = false)
      ∧ ∃ n, (commanding none).node 11 = some n ∧ n.echo = none :=
  ⟨by decide +kernel, by decide +kernel, ⟨_, _, _, rfl, rfl, rfl, rfl⟩, ⟨_, rfl, rfl⟩⟩

theorem test_poll_carries_the_other_toggle :
    ((after (.slotPoll 1 7) (beforeSlot 7
      (commanding (some { toggle := true, code := none, refused := false })))).sbm.tx.map (·.data)).take 2
      = [11, 11] := by decide +kernel
theorem test_poll_without_an_echo_image :
    ((after (.slotPoll 1 7) (beforeSlot 7 (commanding none))).sbm.tx.map (·.data)).take 2 = [11, 0] := by
  decide +kernel
theorem test_scan_start_in_halt :
    ((after (.scanStart 1) (beforeSlot 20 halt)).sbm.tx.map (·.data)) = [63, 1, crc8 [63, 1], 63, 2, crc8 [63, 2]]
    := by decide +kernel

theorem meets_GoodRepliesAreReadAsTheyWereSent :
    63 < 64 ∧ Echo.fits (.station 2) { toggle := true, code := some .unclamp, refused := true }
      ∧ Report.fits (.station 2) (.station .lockout 255)
      ∧ ∀ i < 8, ((nodeReplyChars 63 (.station 2) { toggle := true, code := some .unclamp, refused := true }
        (.station .lockout 255))[i]?).isSome = true := by
  refine ⟨by decide, ?_, by unfold Report.fits; decide, by decide +kernel⟩
  intro c h
  cases h
  rfl

/-- Station 2 under poll, its node in state `st` with `m` misses. -/
def polled (st : NodeStatus) (m : Nat) (cut : Bool) : State :=
  { idle.modNode 11 fun n => { n with state := st, misses := m } with
    sbm := { (idle.modNode 11 fun n => { n with state := st, misses := m }).sbm with
      window := some { address := 11, cut := cut } } }

def goodReply : List BusChar :=
  nodeReplyChars 11 (.station 2) { toggle := false, code := none, refused := false } (.station .unclamped 0)

theorem meets_GoodRepliesUpdateTheirNode :
    idle.sbm.window = none ∧ (polled .missing 1 false).sbm.window = some { address := 11, cut := false }
      ∧ (∃ n, (polled .missing 1 false).node 11 = some n
        ∧ judgeReply 11 n.role goodReply
          = some ({ toggle := false, code := none, refused := false }, .station .unclamped 0)
        ∧ judgeReply 11 n.role goodReply.dropLast = none) :=
  ⟨by decide +kernel, by decide +kernel, ⟨_, rfl, by decide +kernel, by decide +kernel⟩⟩

theorem test_a_good_reply_brings_a_node_online :
    ((after (.nodeReply 1 goodReply) (polled .missing 1 false)).node 11).map (fun n => (n.state, n.misses))
      = some (.online, 0) := by decide +kernel

theorem meets_AnUnansweredPollIsAMiss :
    (∃ n, (polled .unseen 0 false).node 11 = some n ∧ n.state = .unseen)
      ∧ (∃ n, (polled .lost 3 true).node 11 = some n ∧ n.state = .lost)
      ∧ (∃ n, (polled .online 0 false).node 11 = some n ∧ n.state = .online)
      ∧ 1 < (polled .online 0 false).cfg.bus.missLimit
      ∧ (∃ n, (polled .missing 1 false).node 11 = some n ∧ n.state = .missing
        ∧ n.misses + 1 < (polled .missing 1 false).cfg.bus.missLimit)
      ∧ (∃ n, (polled .missing 2 false).node 11 = some n
        ∧ (polled .missing 2 false).cfg.bus.missLimit ≤ n.misses + 1)
      ∧ (polled .lost 3 true).sbm.window = some { address := 11, cut := true } :=
  ⟨⟨_, rfl, rfl⟩, ⟨_, rfl, rfl⟩, ⟨_, rfl, rfl⟩, by decide, ⟨_, rfl, rfl, by decide⟩, ⟨_, rfl, by decide⟩, rfl⟩

theorem test_third_miss_loses_the_node :
    ((after (.responseWindowExpiry 1) (polled .missing 2 false)).node 11).map (·.state) = some .lost
      ∧ ((after (.responseWindowExpiry 1) (polled .missing 2 false)).station 2).node = .lost
      ∧ (after (.responseWindowExpiry 1) (polled .missing 2 false)).clp.events.map (·.kind)
        = [.nodeLost, .stationFault] := by decide +kernel

/-! ## Timers -/

/-- Station 2 in RUN in `st` with a timer of `limit` ms from 0 and a job on pallet 9. -/
def timed (st : StationState) (purpose : TimerPurpose) (limit : Nat) : State :=
  (working st).modStation 2 fun x => { x with
    timer := some { purpose := purpose, timer := { start := 0, limit := limit } } }

theorem meets_TimersThatAreNotDueDoNothing :
    (idle.at 5).stationTimerDue 2 .clamp = false ∧ ((timed .cycle .cycle 6).at 5).stationTimerDue 2 .cycle = false
      ∧ (∀ m ∈ idle.stationNumbers, (idle.at 5).stationTimerDue m .common = false)
      ∧ (∀ tm, (idle.seg 2).phase = .running tm → ((5 : LineTime) - tm.start).toNat < tm.limit)
      ∧ (∀ tm, (idle.seg 2).feedWait = some tm → ((5 : LineTime) - tm.start).toNat < tm.limit)
      ∧ (∀ tm, idle.ada.evalTimer = some tm → ((5 : LineTime) - tm.start).toNat < tm.limit)
      ∧ (∀ x, idle.ada.lastAny = some x → ((5 : LineTime) - x).toNat < idle.cfg.line.tStagger)
      ∧ (∀ bytes gap, (hearing [0]).clp.rx = .assembling bytes gap →
        ((9 : LineTime) - gap.start).toNat < gap.limit)
      ∧ ∀ o, idle.trk.tag = .opened o → ((5 : LineTime) - o.openedAt).toNat < idle.cfg.line.tRead :=
  ⟨by decide +kernel, by decide +kernel, by decide +kernel, nofun, nofun, nofun, nofun,
    fun _ _ h => by cases h; decide, nofun⟩

theorem meets_StationTimersEndTheirPhase :
    (∀ s ∈ [timed .clamping .clamp 5, timed .clamped .settle 5, timed .cycle .cycle 5,
        timed .unclamping .unclamp 5, timed .fault .clear 5, timed .unclamping .common 5],
      s.stationCfg 2 = some (stationRecord .machine 1 4 11 3)
        ∧ tableGet 2 s.sqs.stations = some (s.station 2) ∧ (s.station 2).outcomeGiven = false
        ∧ (s.station 2).job = some { kind := .machine, pallet := 9, variant := .a, disposition := none }
        ∧ ((s.station 2).timer.map (·.timer)) = some { start := 0, limit := 5 })
      ∧ 5 ≤ ((5 : LineTime) - 0).toNat
      ∧ (timed .clamped .settle 5).settleCheck (stationRecord .machine 1 4 11 3)
          { kind := .machine, pallet := 9, variant := .a, disposition := none } = true
      ∧ (timed .clamped .settle 5).settleCheck (stationRecord .machine 1 4 11 3)
          { kind := .machine, pallet := 8, variant := .a, disposition := none } = false := by decide +kernel

theorem test_clamp_timeout :
    ((after (.clampTimeout 5 2) (timed .clamping .clamp 5)).station 2).cause = some .clampTimeout
      ∧ (((after (.clampTimeout 5 2) (timed .clamping .clamp 5)).pallet 9).bind (·.workpiece)).map
        (·.opsMissed) = some [2] := by decide +kernel
theorem test_settle_posts_start :
    (after (.settleExpiry 5 2) (timed .clamped .settle 5)).stationPending 2 = some .start := by decide +kernel
theorem test_cycle_timeout :
    (((after (.cycleTimeout 5 2) (timed .cycle .cycle 5)).pallet 9).bind (·.workpiece)).map (·.defects)
      = some [{ station := 2, cause := .cycleTimeout, elapsed := 20000 }] := by decide +kernel
theorem test_unclamp_timeout :
    ((after (.unclampTimeout 5 2) (timed .unclamping .unclamp 5)).station 2).state = .fault := by decide +kernel
theorem test_station_clear_timeout :
    (after (.stationClearTimeout 5 2) (timed .fault .clear 5)).clp.events.map (·.detail)
      = [.stationCause .nodeFault] := by decide +kernel
theorem test_common_timer :
    ((after (.commonTimerExpiry 5 1) (timed .unclamping .common 5)).station 2).cause
      = some .unclampTimeout := by decide +kernel

/-- In RUN, segment 2 in `st`, last reporting `p`, with a phase timer of 5 ms from 0. -/
def phased (st : SegState) (p : DrivePhase) : State :=
  run.modSeg 2 fun g => { g with
    state := st, motion := p, phase := .running { start := 0, limit := 5 } }

theorem meets_SegmentTimersEndTheirPhase :
    (∀ s ∈ [phased .lift .lifting, phased .advance .advancing, phased .lower .lowering,
        phased .work .atRest, phased .off .atRest],
      (s.seg 2).phase = .running { start := 0, limit := 5 } ∧ (s.seg 2).room = .none)
      ∧ 5 ≤ ((5 : LineTime) - 0).toNat
      ∧ ((run.modSeg 2 fun g => { g with
            state := .ready, feedWait := some { start := 0, limit := 5 } }).seg 2).feedWait
          = some { start := 0, limit := 5 }
      ∧ ((run.modSeg 2 fun g => { g with
            state := .fault, clear := some { start := 0, limit := 5 } }).seg 2).clear
          = some { start := 0, limit := 5 } := by decide +kernel

theorem test_phase_timeout_certainty :
    ((after (.phaseTimeout 5 2) (phased .lift .lifting)).segMap 2).certainty = .beforeKnown
      ∧ ((after (.phaseTimeout 5 2) (phased .advance .advancing)).segMap 2).certainty = .uncertain := by
  decide +kernel
theorem test_feed_wait_enqueues_a_gap :
    let s := run.modSeg 2 fun g => { g with state := .ready, feedWait := some { start := 0, limit := 5 } }
    ((after (.feedWaitExpiry 5 2) s).seg 2).state = .queued
      ∧ (after (.feedWaitExpiry 5 2) s).ada.queue.map (fun q => (q.segment, q.n)) = [(2, 0)] := by
  decide +kernel
theorem test_segment_clear_timeout :
    (after (.segmentClearTimeout 5 2) (run.modSeg 2 fun g => { g with
      state := .fault, clear := some { start := 0, limit := 5 } })).clp.events.map (·.kind)
      = [.motionFault] := by decide +kernel

/-! ### The worked case of 05 section 5.6 -/

/-- ADA at line time 10 000, in a line with the example's Cap, F and Q. -/
def worked : State :=
  { run with
    clock := 10000,
    cfg := { run.cfg with
      line := { run.cfg.line with wMax := 3, tWindow := 4000, tStagger := 800 },
      segments := tableModify 2 (fun r => { r with tIndexMin := 6000 }) run.cfg.segments },
    ada := { run.ada with
      r := 9000, c := 0, tLast := 10000, pump := true, hpu := .online,
      h := [7100, 8200, 9900], lastAny := none } }

/-- S2's request at 10 800. -/
def worked2 : State := (worked.at 10800).adaEnqueue 2 true 7

theorem test_worked_case_at_10800 :
    worked2.ada.r = 10200 ∧ worked2.ada.c = 0 ∧ worked2.ada.h = [7100, 8200, 9900]
      ∧ worked2.ada.queue.map (fun q => (q.demand, q.earliest)) = [(5800, some 11867)]
      ∧ worked2.ada.evalTimer = some { start := 10800, limit := 1067 } := by decide +kernel

/-- After the H entry expiry at 11 100 and the HPU report at 11 300. -/
def worked3 : State := ((after (.hEntryExpiry 11100) worked2).at 11300).hpuReport true false

theorem test_worked_case_at_11300 :
    worked3.ada.r = 10950 ∧ worked3.ada.c = 0 ∧ worked3.ada.h = [8200, 9900]
      ∧ worked3.ada.queue.map (·.earliest) = [some 11867] := by decide +kernel

theorem test_worked_case_at_11867 :
    (after (.evaluationTimerExpiry 11867) worked3).ada.r = 6000
      ∧ (after (.evaluationTimerExpiry 11867) worked3).ada.c = 500
      ∧ (after (.evaluationTimerExpiry 11867) worked3).ada.h = [8200, 9900, 11867]
      ∧ (after (.evaluationTimerExpiry 11867) worked3).ada.lastAny = some 11867
      ∧ (after (.evaluationTimerExpiry 11867) worked3).drivePending 2 = some .lift := by decide +kernel

theorem meets_AdmissionTimersExpire :
    (worked2.ada.evalTimer = some { start := 10800, limit := 1067 }
        ∧ 1067 ≤ ((11867 : LineTime) - 10800).toNat)
      ∧ (∃ q, worked2.ada.queue = [] ++ q :: [] ∧ q.segment = 2
        ∧ q.urgency = some { start := 10800, limit := 30000 } ∧ 30000 ≤ ((40800 : LineTime) - 10800).toNat)
      ∧ (∃ start, (after (.evaluationTimerExpiry 11867) worked3).ada.lastAny = some start
        ∧ (after (.evaluationTimerExpiry 11867) worked3).cfg.line.tStagger
          ≤ ((12667 : LineTime) - start).toNat)
      ∧ ∃ start, tableGet 2 (after (.evaluationTimerExpiry 11867) worked3).ada.lastSeg = some start
        ∧ ((after (.evaluationTimerExpiry 11867) worked3).segCfg 2).tIndexMin
          ≤ ((17867 : LineTime) - start).toNat :=
  ⟨⟨by decide +kernel, by decide⟩, ⟨_, rfl, rfl, rfl, by decide⟩, ⟨11867, by decide +kernel⟩,
    ⟨11867, by decide +kernel⟩⟩

theorem test_stagger_and_period_expire :
    (after (.staggerExpiry 12667) (after (.evaluationTimerExpiry 11867) worked3)).ada.lastAny = none
      ∧ (after (.periodExpiry 17867 2) (after (.evaluationTimerExpiry 11867) worked3)).ada.lastSeg = [] := by
  decide +kernel
theorem test_urgency :
    (after (.urgencyExpiry 40800 2) worked2).ada.queue.map (·.cls) = [.urgent]
      ∧ (after (.urgencyExpiry 40800 2) worked2).clp.events.map (·.kind) = [.admissionUrgent] := by
  decide +kernel

/-- In RUN, conveyor B1 FLOWING with a travel timer of 5 ms from 0. -/
def travelling : State := run.modConv .b1 fun v => { v with travel := some { start := 0, limit := 5 } }

/-- In RUN, S1's tag check OPEN from 0. -/
def openTag : State :=
  (run.modSeg 1 fun g => { g with trackHold := true }).setTag
    (.opened { occupant := none, image := none, openedAt := 0, noticeHeld := false })

theorem meets_TravelAndTagTimersExpire :
    (ConvId.ofNumber 1 = some .b1 ∧ (travelling.conv .b1).travel = some { start := 0, limit := 5 }
        ∧ (travelling.conv .b1).state = .flowing ∧ 5 ≤ ((5 : LineTime) - 0).toNat)
      ∧ openTag.trk.tag = .opened { occupant := none, image := none, openedAt := 0, noticeHeld := false }
      ∧ openTag.cfg.line.tRead ≤ ((500 : LineTime) - 0).toNat := by decide +kernel

theorem test_travel_timeout :
    ((after (.travelTimeout 5 1) travelling).conv .b1).state = .jammed := by decide +kernel
theorem test_tag_read_timeout :
    (after (.tagReadTimeout 500) openTag).trk.tag = .none
      ∧ (after (.tagReadTimeout 500) openTag).clp.events.map (·.kind) = [.tagUnreadable] := by decide +kernel

/-! ## Whole-machine rules -/

theorem meets_ReserveUpdatesMayBeSplit :
    (((10500 : LineTime) - worked.ada.tLast).toNat + ((10800 : LineTime) - 10500).toNat ≤ 600000
        ∧ worked.ada.r + (1500 * (((10500 : LineTime) - worked.ada.tLast).toNat
          + ((10800 : LineTime) - 10500).toNat) + worked.ada.c) / 1000 < 24000)
      ∧ line.InRange ∧ worked.ada.pump = true ∧ worked.ada.alarm = false
      ∧ 600000 ≤ ((610000 : LineTime) - worked.ada.tLast).toNat :=
  ⟨by decide +kernel, line_in_range, by decide +kernel⟩

/-- S2's request of the worked case. -/
def request : AdaRequest :=
  { segment := 2, entryTaken := true, n := 7, demand := 5800, enqueued := 10800, cls := .normal,
    urgency := none, earliest := none }

theorem meets_EarliestReserveTimeIsTheFirst :
    line.InRange ∧ worked.ada.c ≤ 999 ∧ request.demand + line.f ≤ line.cap
      ∧ (worked.ada.pump = true ∧ worked.ada.alarm = false ∧ worked.ada.r < request.demand + line.f)
      ∧ (idle.ada.pump = false ∧ idle.ada.r < request.demand + line.f) :=
  ⟨line_in_range, by decide +kernel⟩

theorem meets_AdmissionsLeaveTheFloor :
    let s : State := { worked with ada := { worked.ada with r := 11800, h := [] } }
    s.admissible request = true ∧ request.segment ∈ s.segNumbers := by decide +kernel

theorem meets_DriveReportsMoveTheSegment :
    run.lsv.lineState ≠ .halt
      ∧ ((phased .lift .lifting).seg 2).state = .lift ∧ (phased .lift .lifting).driveDone 2 .lift = true
      ∧ (((phased .lift .lifting).postDrive 2 .lift).driveDone 2 .lift = false)
      ∧ ((phased .advance .advancing).seg 2).state = .advance
      ∧ (let s := (phased .lower .lowering).modSegMap 2 fun m =>
            { m with openIndex := some { entry := none, exit := none, dest := none } }
        (s.seg 2).state = .lower ∧ s.driveDone 2 .lower = true
          ∧ (s.segMap 2).openIndex = some { entry := none, exit := none, dest := none }) := by decide +kernel

theorem test_lifted_brings_advance :
    (((phased .lift .lifting).driveReport 2 .lifted).seg 2).state = .advance
      ∧ ((phased .lift .lifting).driveReport 2 .lifted).drivePending 2 = some .advance
      ∧ (((phased .lift .lifting).driveReport 2 .lowered).seg 2).cause = some .driveState := by decide +kernel

theorem meets_RouteDecisionsFollowTheirTables :
    (Pallet.fresh .a).workpiece = none
      ∧ (let p := { Pallet.fresh .a with workpiece := some (Workpiece.fresh 7) }
        p.workpiece = some (Workpiece.fresh 7)
          ∧ (stationRecord .machine 1 4 11 3).mask.getLsbD p.variant.code = true
          ∧ (stationRecord .machine 3 3 13 12).mask.getLsbD p.variant.code = false
          ∧ 2 ∉ (Workpiece.fresh 7).opsDone ∧ (Workpiece.fresh 7).defects = []
          ∧ (Workpiece.fresh 7).moreDefects = false)
      ∧ (define 9 idle).pallet 9 = some (Pallet.fresh .a) := by decide +kernel

theorem meets_PlacementsFollowTheMap :
    idle.shaped ∧ idle.placementsAgree ∧ idle.linkReady ∧ carriesFrames (.palletDefine 1 2 9 0) = false
      ∧ idle.findPallet (9 : Byte).toNat = none ∧ ∃ u, exec (.palletDefine 1 2 9 0) idle = .next u :=
  ⟨in_service_shaped .idle (by decide), nofun, idle_ready, rfl, by decide +kernel, ⟨_, rfl⟩⟩

/-! ### The worked case of 05 section 5.7 -/

/-- The line of that section at line time 50 000: S1's demand is 4000 and S3's 1200. -/
def standing : State :=
  { worked with
    clock := 50000,
    cfg := { worked.cfg with
      line := { worked.cfg.line with tUrgent := 20000 },
      segments := [(1, segment 8 1 4000 0), (2, segment 10 2 3000 400),
                   (3, { segment 6 3 1200 0 with tIndexMin := 10000 })] },
    ada := { worked.ada with r := 6000, tLast := 50000, h := [] } }

/-- S1 enqueues at 50 000, and the HPU reports at 51 000 that the pump stands. -/
def standing2 : State := (((standing.adaEnqueue 1 true 0).at 51000).hpuReport false false)

theorem test_worked_case_of_a_stopped_pump :
    (standing.adaEnqueue 1 true 0).ada.evalTimer = some { start := 50000, limit := 2667 }
      ∧ standing2.ada.r = 7500 ∧ standing2.ada.evalTimer = none
      ∧ standing2.ada.queue.map (·.earliest) = [none] := by decide +kernel

theorem test_worked_case_passes_a_normal_request_over :
    ((standing2.at 51500).adaEnqueue 3 true 0).ada.r = 6300
      ∧ ((standing2.at 51500).adaEnqueue 3 true 0).ada.h = [51500]
      ∧ ((standing2.at 51500).adaEnqueue 3 true 0).ada.queue.map (·.segment) = [1] := by decide +kernel

/-- At 73 000 S1 is URGENT and S3 enqueues. -/
def urgentHead : State :=
  ({ standing with
    clock := 73000,
    ada := { standing.ada with
      r := 8000, tLast := 72000, pump := false,
      queue := [{ segment := 1, entryTaken := true, n := 0, demand := 4000, enqueued := 50000,
                  cls := .urgent, urgency := none, earliest := none }] } } : State).adaEnqueue 3 true 0

theorem test_worked_case_keeps_s3_behind_the_urgent_request :
    urgentHead.ada.r = 8000 ∧ urgentHead.ada.queue.map (·.segment) = [1, 3]
      ∧ urgentHead.ada.evalTimer = none := by decide +kernel

/-- At 74 000 the pump runs again. -/
def pumping : State := (urgentHead.at 74000).hpuReport true false

theorem test_worked_case_at_75334 :
    pumping.ada.evalTimer = some { start := 74000, limit := 1334 }
      ∧ (after (.evaluationTimerExpiry 75334) pumping).ada.r = 6001
      ∧ (after (.evaluationTimerExpiry 75334) pumping).ada.h = [75334]
      ∧ (after (.evaluationTimerExpiry 75334) pumping).ada.queue.map (fun q => (q.segment, q.earliest))
        = [(3, some 76134)]
      ∧ (after (.evaluationTimerExpiry 75334) pumping).ada.evalTimer
        = some { start := 75334, limit := 800 } := by decide +kernel

/-! ## More witnesses: a boundary for each further clause -/

/-- The example in RUN with a STOP waiting. -/
def waitingStop : State := { run with pending := [.stop 1 2] }

theorem run_queues : waitingStop.QueuesWithin := by
  constructor <;> decide +kernel

theorem meets_LineStateChangesOnlyByItsCauses_steps :
    waitingStop.QueuesWithin ∧ waitingStop.pending = .stop 1 2 :: []
      ∧ ∃ u, step waitingStop = .next u ∧ u.lsv.lineState ≠ waitingStop.lsv.lineState :=
  ⟨run_queues, rfl, ⟨_, rfl, by decide +kernel⟩⟩

/-- In RUN at line time 3, at which a change of ESTOP_IN was accepted. -/
def filtered : State := { run with clock := 3 }

theorem meets_EstopInputIsTaken_filter :
    2 ≤ run.estopHeld + ((2 : LineTime) - run.clock).toNat
      ∧ 2 ≤ filtered.estopHeld + ((5 : LineTime) - filtered.clock).toNat
      ∧ filtered.estopHeld + ((4 : LineTime) - filtered.clock).toNat < 2 := by decide +kernel

theorem test_the_filter_wants_two_milliseconds :
    (after (.estopInAsserted 4) filtered).lsv.lineState = .run
      ∧ (after (.estopInAsserted 5) filtered).lsv.lineState = .halt := by decide +kernel

/-- A command at 2000 ms, and a change of level a round of the clock after the accepted one. -/
theorem test_the_filter_counts_past_a_round_of_the_clock :
    (after (.estopInAsserted 4) (after (.gapTimerExpiry 2000) filtered)).lsv.lineState = .halt := by
  decide +kernel

theorem test_outputs_are_low_in_reset :
    State.reset.outputs false
        = { txd := some false, rdy := false, atn := false, btx := some false, bde := some false }
      ∧ (State.reset.outputs true).rdy = true ∧ (State.reset.outputs true).bde = some false
      ∧ (run.outputs true).bde = none := by decide +kernel

theorem meets_UnknownAndShortRequestsAreRefused_bodies :
    ((List.replicate 9 (1 : Byte)).length < 9 + byteAt (List.replicate 9 1) 7)
      ∧ (([1, 2, 0, 12] ++ List.replicate 11 0 : List Byte).length
        < if byteAt ([1, 2, 0, 12] ++ List.replicate 11 0) 1 = 2 then
            4 + byteAt ([1, 2, 0, 12] ++ List.replicate 11 0) 3 else 2)
      ∧ ([] : List Byte).length < 1 ∧ ([1] : List Byte).length < 2 := by decide +kernel

theorem meets_SetsAreRefusedByTheFirstBadField_values :
    ({ line with cap := 999, travelRc := 120001 }.fits
        ∧ firstBad 1 { line with cap := 999, travelRc := 120001 }.checks = some 11)
      ∧ ({ line with f := 24000 }.fits ∧ firstBad 1 { line with f := 24000 }.checks = some 21)
      ∧ ((segment 13 1 0 0).fits 4 ∧ firstBad 1 ((segment 13 1 0 0).checks 4) = some 2)
      ∧ ((segment 2 63 0 0).fits 5 ∧ firstBad 1 ((segment 2 63 0 0).checks 5) = some 1)
      ∧ ((stationRecord .unload 3 6 14 7).fits 5
        ∧ firstBad 1 ((stationRecord .unload 3 6 14 7).checks 5) = some 6)
      ∧ ({ stationRecord .machine 1 4 11 3 with tCycleMax := 4000 }.fits 2
        ∧ firstBad 1 ({ stationRecord .machine 1 4 11 3 with tCycleMax := 4000 }.checks 2) = some 11)
      ∧ ((bus 63).fits ∧ firstBad 1 (bus 63).checks = some 28)
      ∧ ((List.replicate 19 (0 : Byte)).length = 19 ∧ 1 < (255 : Byte).toNat ∧ 15 < (16 : Byte).toNat) := by
  unfold LineRecord.fits SegmentRecord.fits StationRecord.fits BusRecord.fits
  decide +kernel

theorem test_line_set_names_the_first_bad_field :
    (after (.lineSet 1 2 { line with cap := 999, travelRc := 120001 }.bytes) config).clp.replies.map (·.body)
      = [[2, 11]] := by decide +kernel

theorem meets_UncommitTakesTheConfigurationOutOfService_bus :
    idle.sbm.scan = .scanning 0 false ∧ (after (.uncommit 1 2) idle).sbm.scan = .ending
      ∧ (after (.uncommit 1 2) idle).sbm.window = none := by decide +kernel

theorem test_the_bus_falls_silent_at_the_next_boundary :
    (after (.slotPoll 3 1) (after (.uncommit 1 2) idle)).sbm.scan = .silent
      ∧ (after (.scanStart 3) (after (.uncommit 1 2) idle)).sbm.tx = [] := by decide +kernel

theorem meets_PermitsAndHoldsFollowTheMask_answers :
    (run.linkReady ∧ run.lsv.lineState = .run ∧ maskRefused run.nseg 8 = true)
      ∧ (stopping.linkReady ∧ stopping.lsv.lineState = .stopping ∧ maskRefused stopping.nseg 0 = true)
      ∧ (maskRefused (advancing .resuming).nseg 2 = false ∧ 2 ∈ (advancing .resuming).segNumbers
        ∧ ((advancing .resuming).seg 2).hold = .resuming
        ∧ ((advancing .resuming).node ((advancing .resuming).segCfg 2).nodeDrive).isSome = true)
      ∧ (advancing .resuming).shaped :=
  ⟨⟨run_ready, rfl, by decide +kernel⟩, ⟨stopping_ready, rfl, by decide +kernel⟩, by decide +kernel,
    nofun, fun _ => by constructor <;> decide +kernel⟩

/-! ### Conveyors and their room -/

/-- `jammed` with B2's record changed. -/
def jammedWith (f : Conveyor → Conveyor) : State := jammed.modConv .b2 f

/-- In RUN, S3's LINE request and the SPUR one wait for room on RC, the LINE request passed over `n` times. -/
def merging (n : Nat) (check : CheckState) : State :=
  let s := run.modConv .rc fun v => { v with requests := [.spur, .segment 3] }
  { s with cvt := { s.cvt with passOver := n }, rtu := { s.rtu with check := check } }

theorem meets_ClearFaultOfSegmentsAndConveyors_answers :
    ((((brokenSegment .certain).modSeg 3 fun g => { g with node := .lost }).seg 3).node = .lost
        ∧ ((brokenSegment .certain).postDrive 3 .ret).drivePending 3 ≠ none)
      ∧ ((jammedWith fun v => { v with node := .lost }).conv .b2).node = .lost
      ∧ ((jammedWith fun v => { v with report := none }).conv .b2).report = none
      ∧ ((jammedWith fun v => { v with report := some (0, true, false) }).conv .b2).report
        = some (0, true, false)
      ∧ headAgrees true ((jammedWith fun v => { v with report := some (0, false, true) }).list .b2) = false
      ∧ (idle.roomOpen .b1 = true ∧ (idle.conv .b1).requests = [] ∧ jammed.roomOpen .b2 = false
        ∧ (let s := run.modConv .b1 fun v => { v with requests := [.segment 1] }
          s.roomOpen .b1 = true ∧ (s.conv .b1).requests = .segment 1 :: []))
      ∧ (∀ s ∈ [merging 0 .passed, merging 1 .passed, merging 0 .idle],
        s.roomOpen .rc = true ∧ lineRequest (s.conv .rc).requests = some 3
          ∧ .spur ∈ (s.conv .rc).requests ∧ s.lsv.lineState = .run ∧ s.cvt.staleRelease = false)
      ∧ ((merging 0 .passed).cvt.passOver < (merging 0 .passed).cfg.line.m
        ∧ (merging (merging 0 .passed).cfg.line.m .passed).cfg.line.m
          ≤ (merging (merging 0 .passed).cfg.line.m .passed).cvt.passOver)
      ∧ (.rc ∈ (merging 0 .passed).cvt.convs.map (·.1) ∧ 3 ∈ (merging 0 .passed).segNumbers)
      ∧ (let s := run.modConv .rc fun v => { v with requests := [.spur] }
        lineRequest (s.conv .rc).requests = none ∧ s.roomOpen .rc = true) := by
  decide +kernel

theorem test_the_line_request_goes_first :
    let s := merging 0 .passed
    ((s.grantPass .rc).conv .rc).reservations.map (·.holder) = [.segment 3, .spur]
      ∧ (s.grantPass .rc).cvt.passOver = 0 := by decide +kernel

/-- S1 QUEUED with its entry taken from RC's head, pallet 5, its exit pallet 8, and room held on B1; the line is in
IDLE, which no run reaches so (R35). -/
def queuedSegment : State :=
  ((queue 5 .rc (seat 8 1 8 idle)).modSeg 1 fun g =>
    { g with state := .queued, room := .held .b1,
             queued := some { entryTaken := true, n := 1, enqueued := 0 } }).modConv .b1
    fun v => { v with reservations := [{ holder := .segment 1, status := .held }] }

theorem meets_RemoveTakesThePalletFromItsPlace_withdrawals :
    (queuedSegment.clp = Clp.reset ∧ queuedSegment.lsv.lineState = .idle)
      ∧ (queuedSegment.findPallet 8 = some (.nest 1 8) ∧ queuedSegment.removable 8 (.nest 1 8) = true
        ∧ queuedSegment.countingOn 8 = [1])
      ∧ (queuedSegment.findPallet 5 = some (.entry .rc 0)
        ∧ queuedSegment.removable 5 (.entry .rc 0) = true ∧ queuedSegment.countingOn 5 = [1])
      ∧ (1 ∈ queuedSegment.segNumbers ∧ (queuedSegment.seg 1).room = .held .b1)
      ∧ (1 ∈ idle.segNumbers ∧ (idle.seg 1).room = .none)
      ∧ idle.pallet 9 = none := by decide +kernel

theorem test_remove_withdraws_a_queued_segment :
    ((after (.remove 1 2 8) queuedSegment).seg 1).state ≠ .queued
      ∧ ((after (.remove 1 2 8) queuedSegment).conv .b1).reservations = [] := by decide +kernel

theorem meets_ConfirmSegmentSettlesTheOpenIndex_reservation :
    (openShift.conv .b1).reservations = [{ holder := .segment 1, status := .carried }]
      ∧ (openShift.pallet 5).isSome = true ∧ (openShift.pallet 8).isSome = true
      ∧ openShift.listRefused 1 { entry := some 5, exit := some 8, dest := some .b1 } false
          [none, none, some 7, none, none, none, none, some 8] = false := by decide +kernel

theorem test_confirm_after_counts :
    ((after (.confirmSegmentAfter 1 2 1) openShift).segMap 1).openIndex = none
      ∧ ((after (.confirmSegmentAfter 1 2 1) openShift).pallet 5).map (fun p => (p.indexCount, p.laps))
        = some (1, 1)
      ∧ ((after (.confirmSegmentAfter 1 2 1) openShift).pallet 8).map (fun p => (p.indexCount, p.laps))
        = some (1, 0) := by decide +kernel

/-! ### Good replies at every kind of node -/

/-- RUN with the node of address `a` under poll. -/
def polling (a : Nat) : State :=
  { run with sbm := { run.sbm with window := some { address := a, cut := false } } }

/-- An echo of no command. -/
def noEcho : Echo := { toggle := false, code := none, refused := false }

/-- A fresh node under poll that replies well is heard. -/
theorem hears_fresh {a : Nat} {r : Role} {rep : Report} (hn : run.node a = some (Node.fresh r))
    (hj : judgeReply a r (nodeReplyChars a r noEcho rep) = some (noEcho, rep)) :
    (polling a).hears (nodeReplyChars a r noEcho rep) a (Node.fresh r) noEcho rep :=
  ⟨⟨_, rfl, rfl⟩, hn, hj⟩

theorem meets_ReserveSetDeclaresTheReserve_hpu :
    (polling 40).hears (nodeReplyChars 40 .hpu noEcho (.hpu true true)) 40 (Node.fresh .hpu) noEcho
      (.hpu true true) ∧ (Node.fresh .hpu).role = .hpu :=
  ⟨hears_fresh (by decide +kernel) (by decide +kernel), rfl⟩

theorem test_an_alarm_empties_the_reserve :
    ((worked.hpuReport true true).ada.r, (worked.hpuReport true true).ada.alarm) = (0, true)
      ∧ (worked.hpuReport true true).clp.events.map (·.kind) = [.admissionBlocked, .hpuAlarm] := by
  decide +kernel

theorem meets_StationTimersEndTheirPhase_report :
    (polling 11).hears (nodeReplyChars 11 (.station 2) noEcho (.station .cycleDone 0)) 11
      (Node.fresh (.station 2)) noEcho (.station .cycleDone 0)
      ∧ (Node.fresh (.station 2)).role = .station 2 :=
  ⟨hears_fresh (by decide +kernel) (by decide +kernel), rfl⟩

theorem meets_TravelAndTagTimersExpire_reports :
    ((polling 20).hears (nodeReplyChars 20 (.conveyor .b1) noEcho (.conveyor 255 true false)) 20
        (Node.fresh (.conveyor .b1)) noEcho (.conveyor 255 true false)
        ∧ (Node.fresh (.conveyor .b1)).role = .conveyor .b1)
      ∧ ((polling 30).hears (nodeReplyChars 30 .reader noEcho (.reader 1 251)) 30 (Node.fresh .reader) noEcho
        (.reader 1 251) ∧ (Node.fresh .reader).role = .reader) :=
  ⟨⟨hears_fresh (by decide +kernel) (by decide +kernel), rfl⟩,
    hears_fresh (by decide +kernel) (by decide +kernel), rfl⟩

theorem meets_DriveReportsMoveTheSegment_report :
    (polling 2).hears (nodeReplyChars 2 (.drive 2) noEcho (.drive .atRest)) 2 (Node.fresh (.drive 2)) noEcho
      (.drive .atRest) ∧ (Node.fresh (.drive 2)).role = .drive 2 :=
  ⟨hears_fresh (by decide +kernel) (by decide +kernel), rfl⟩

theorem meets_RouteDecisionsFollowTheirTables_report :
    (polling 31).hears (nodeReplyChars 31 .verify noEcho (.verify .pass 255)) 31 (Node.fresh .verify) noEcho
      (.verify .pass 255) ∧ (Node.fresh .verify).role = .verify :=
  ⟨hears_fresh (by decide +kernel) (by decide +kernel), rfl⟩

/-- Station 2 under poll, LOST before, with CLAMP sent under toggle 1. -/
def awaiting : State :=
  { (polled .lost 3 false).modNode 11 fun n => { n with
      pending := some { code := .clamp, args := [], sent := some true } } with clock := 0 }

theorem meets_GoodRepliesUpdateTheirNode_outcome :
    awaiting.sbm.window = some { address := 11, cut := false }
      ∧ ∃ n, awaiting.node 11 = some n ∧ n.state = .lost
        ∧ n.pending = some { code := .clamp, args := [], sent := some true }
        ∧ (∀ refused, judgeReply 11 n.role (nodeReplyChars 11 n.role
            { toggle := true, code := some .clamp, refused := refused } (.station .clamped 0))
          = some ({ toggle := true, code := some .clamp, refused := refused }, .station .clamped 0))
        ∧ n.decided { toggle := true, code := some .clamp, refused := true } = some .clamp
        ∧ n.decided { toggle := false, code := some .clamp, refused := true } = none :=
  ⟨rfl, ⟨_, rfl, rfl, rfl, by decide +kernel, by decide +kernel, by decide +kernel⟩⟩

theorem test_an_echo_decides_its_command :
    let reply := nodeReplyChars 11 (.station 2) { toggle := true, code := some .clamp, refused := false }
      (.station .clamped 0)
    ((after (.nodeReply 1 reply) awaiting).node 11).map (fun n => (n.state, n.pending)) = some (.online, none)
      ∧ (after (.nodeReply 1 reply) awaiting).clp.events.map (·.kind) = [.nodeBack, .stationFault] := by
  decide +kernel

/-! ### The owners' tables -/

theorem meets_AnUnansweredPollIsAMiss_owners :
    (∀ st ∈ [StationState.released, .lockout, .doneHeld, .unclamping, .clamping, .clamped, .cycle, .skipped,
        .fault], (working st).stationCfg 2 = some (stationRecord .machine 1 4 11 3)
          ∧ ((working st).station 2).state = st)
      ∧ (((working .fault).modStation 2 fun g => { g with clearPending := true }).station 2).clearPending = true
      ∧ ((brokenSegment .certain).seg 3).clear = none
      ∧ (((brokenSegment .certain).modSeg 3 fun g =>
          { g with clear := some { start := 0, limit := 5 } }).seg 3).clear.isSome = true
      ∧ ((polled .missing 2 false).cfg.bus.missLimit ≤ 3) := by decide +kernel

theorem meets_StationTimersEndTheirPhase_tables :
    (∀ st ∈ [StationState.released, .lockout, .doneHeld, .unclamping, .clamping, .clamped, .cycle, .skipped,
        .fault], (working st).stationCfg 2 = some (stationRecord .machine 1 4 11 3)
          ∧ (working st).lsv.lineState ≠ .halt ∧ ((working st).station 2).state = st
          ∧ (working st).stationPending 2 = none
          ∧ ((working st).station 2).job
            = some { kind := .machine, pallet := 9, variant := .a, disposition := none })
      ∧ halt.lsv.lineState = .halt
      ∧ ((working .clamping).postCmd 11 .clamp []).stationPending 2 = some .clamp
      ∧ ((working .unclamping).postCmd 11 .unclamp []).stationPending 2 ≠ none
      ∧ ((working .doneHeld).setCommon 1 .requested).common 1 = .requested
      ∧ (working .doneHeld).common 1 ≠ .requested
      ∧ (((working .fault).modStation 2 fun g => { g with clearPending := true }).station 2).clearPending = true
      ∧ ((working .fault).postCmd 11 .resetFault []).stationPending 2 = some .resetFault
      ∧ (((working .unclamping).modStation 2 fun g => { g with report := some (.unclamped, 0) }).station
        2).reportsUnclamped = true
      ∧ ((working .unclamping).station 2).reportsUnclamped = false
      ∧ (((working .cycle).modStation 2 fun g => { g with outcomeGiven := true }).station 2).outcomeGiven = true
      ∧ ((working .cycle).sqs.stations.map (·.1)).Nodup
      ∧ ((working .doneHeld).stationSegment 2 = 1) := by decide +kernel

/-- In RUN, conveyor B1 with pallets 3 and 4 IN_TRANSIT, both expected, and the image 255. -/
def arriving : State :=
  ((define 4 (define 3 run)).setList .b1
    [{ pallet := 3, state := .inTransit, entryTime := 0 }, { pallet := 4, state := .inTransit, entryTime := 0 }]
    ).modConv .b1 fun v => { v with image := some 255, expected := 2 }

/-- In RUN, RC with the SPUR's reservation and VS with pallet 6 at its head. -/
def spurring : State :=
  (queue 6 .vs run).modConv .rc fun v => { v with reservations := [{ holder := .spur, status := .releasing }] }

/-- In RUN, S1's tag check OPEN on occupant `o`, the reader's image 7. -/
def opening (o : Option Nat) : State :=
  run.setTag (.opened { occupant := o, image := some 7, openedAt := 0, noticeHeld := o.isSome })

theorem meets_TravelAndTagTimersExpire_owners :
    (idle.conv .b2).state = .flowing ∧ (jammed.conv .b2).state = .jammed
      ∧ (heldSegments (queuedSegment.conv .b1).reservations = [1])
      ∧ ((arriving.conv .b1).image = some 255 ∧ 255 < 256 ∧ (run.conv .b1).image = none)
      ∧ ((∃ r ∈ (spurring.conv .rc).reservations, r.holder = .spur)
        ∧ spurring.list .vs = { pallet := 6, state := .arrived, entryTime := 0 } :: [])
      ∧ (∀ r ∈ (run.conv .rc).reservations, r.holder ≠ .spur)
      ∧ ((∀ sequence ∈ [7, 8], (opening (some 5)).trk.tag
          = .opened { occupant := some 5, image := some 7, openedAt := 0, noticeHeld := true }
            ∧ (sequence = 7 ∨ some 7 ≠ some sequence))
        ∧ (opening none).trk.tag = .opened { occupant := none, image := some 7, openedAt := 0,
                                             noticeHeld := false }) := by decide +kernel

theorem test_arrivals_past_255_are_credited_oldest_first :
    (((arriving.conveyorReport .b1 0 false true).list .b1).map (·.state)) = [.arrived, .inTransit]
      ∧ ((arriving.conveyorReport .b1 0 false true).conv .b1).expected = 1
      ∧ ((arriving.conveyorReport .b1 2 false true).conv .b1).cause = some .phantomArrival := by
  decide +kernel

theorem test_a_mismatch_holds_the_tag_check :
    ((opening (some 5)).readerReport 8 6).clp.events.map (·.kind) = [.tagMismatch]
      ∧ ((opening (some 5)).readerReport 8 5).trk.tag = .none
      ∧ ((opening (some 5)).readerReport 7 6).trk.tag = (opening (some 5)).trk.tag := by decide +kernel

theorem meets_AdmissionsLeaveTheFloor_scan :
    let s : State := { worked with ada := { worked.ada with r := 11800, h := [] } }
    let behind : AdaRequest := { request with segment := 3, demand := 24000 }
    s.scanQueue [behind, request] = some request ∧ s.admissible request = true
      ∧ (s.admissible behind = false ∧ behind.cls = .normal)
      ∧ s.scanQueue [{ behind with cls := .urgent }, request] = none
      ∧ s.scanQueue s.ada.queue = none := by decide +kernel

theorem test_a_stagger_of_0_ends_with_the_admission :
    let a := { worked.ada with r := 11800, h := [], queue := [request] }
    let s : State := { worked with ada := a }
    let s0 : State := { s with cfg := { s.cfg with line := { s.cfg.line with tStagger := 0 } } }
    (s.adaEvaluate.ada.h, s.adaEvaluate.ada.lastAny) = ([s.clock], some s.clock)
      ∧ (s0.adaEvaluate.ada.h, s0.adaEvaluate.ada.lastAny) = ([s.clock], none) := by decide +kernel

/-- In RUN, segment 2 in `st` with an open index of nothing. -/
def moving (st : SegState) (p : DrivePhase) : State :=
  (phased st p).modSegMap 2 fun m => { m with openIndex := some { entry := none, exit := none, dest := none } }

theorem meets_DriveReportsMoveTheSegment_tables :
    halt.lsv.lineState = .halt
      ∧ (∀ p ∈ [(SegState.lift, CmdCode.lift), (.advance, .advance), (.lower, .lower)],
        ((moving p.1 .atRest).seg 2).state = p.1 ∧ (moving p.1 .atRest).driveDone 2 p.2 = true
          ∧ ((moving p.1 .atRest).postDrive 2 p.2).driveDone 2 p.2 = false
          ∧ ((moving p.1 .atRest).seg 2).room = .none)
      ∧ ((phased .work .atRest).seg 2).bar = .returning
      ∧ (((phased .work .atRest).modSeg 2 fun g => { g with bar := .atRest }).seg 2).bar = .atRest
      ∧ (((phased .fault .atRest).modSeg 2 fun g => { g with clear := some { start := 0, limit := 5 } }).seg
        2).clear.isSome = true
      ∧ ((advancing .holding).seg 2).hold = .holding ∧ ((advancing .resuming).seg 2).hold = .resuming
      ∧ (run.drivePending 2 = none ∧ run.lsv.lineState ≠ .halt ∧ (run.seg 2).owed.resume = false
        ∧ (run.seg 2).owed.phase = none)
      ∧ ((run.modSeg 2 fun g => { g with owed := g.owed.set .resume true }).seg 2).owed.resume = true
      ∧ (((run.modSeg 2 fun g => { g with owed := g.owed.set .ret true }).seg 2).owed.phase = some .ret
        ∧ (run.seg 2).hold = .none)
      ∧ ((phased .fault .atRest).seg 2).state = .fault
      ∧ 2 ∉ (moving .lower .atRest).ada.queue.map (·.segment) := by decide +kernel

theorem test_lowered_completes_the_index :
    let u := (moving .lower .lowering).driveReport 2 .lowered
    ((u.seg 2).state, (u.seg 2).bar, (u.segMap 2).openIndex) = (.work, .returning, none)
      ∧ u.clp.events.map (·.kind) = [.indexDone] := by decide +kernel

/-- In RUN, pallet 9 with a workpiece, after `laps` laps. -/
def lapped (laps : Nat) (w : Option Workpiece) (service : ServiceState) : State :=
  (define 9 run).modPallet 9 fun p => { p with laps := laps, workpiece := w, service := service }

/-- In RUN, the check of pallet 6, the head of VS, in state `c`. -/
def checking (c : CheckState) (stale : Bool) : State :=
  let s := queue 6 .vs run
  { s with rtu := { s.rtu with check := c, checkPallet := some 6, stale := stale, image := some 7,
                               node := .online } }

theorem meets_RouteDecisionsFollowTheirTables_owners :
    (∀ s ∈ [lapped 0 none .inService, lapped 10 none .inService, lapped 0 none .quarantined,
        lapped 255 none .inService, lapped 0 (some (Workpiece.fresh 7)) .inService],
      (s.pallet 9).isSome = true
        ∧ stationAt 1 1 s.cfg.stations = some (1, stationRecord .load 1 1 10 15)
        ∧ stationAt 1 4 s.cfg.stations = some (2, stationRecord .machine 1 4 11 3)
        ∧ stationAt 3 6 s.cfg.stations = some (5, stationRecord .unload 3 6 14 15)
        ∧ stationAt 1 2 s.cfg.stations = none)
      ∧ ((lapped 0 none .quarantined).pallet 9).map (·.service) = some .quarantined
      ∧ (((lapped 255 none .inService).pallet 9).map (fun p => decide (run.cfg.line.vLaps
          + run.cfg.line.vGrace ≤ p.laps))) = some true
      ∧ ((lapped 255 none .inService).divertDest 9 = .vs ∧ (lapped 0 none .inService).divertDest 9 = .rc)
      ∧ ((∀ k ∈ [1, 2], k ∈ run.trk.segs.map (·.1)) ∧ (moving .lower .lowering).trk.segs.map (·.1) = [1, 2, 3]
        ∧ ((moving .lower .lowering).segMap 2).openIndex
          = some { entry := none, exit := none, dest := none }
        ∧ (openShift.segMap 1).openIndex = some { entry := some 5, exit := some 8, dest := some .b1 })
      ∧ (∀ st ∈ [StationState.released, .lockout, .fault, .skipped],
        (working st).stationCfg 2 = some (stationRecord .machine 1 4 11 3) ∧ ((working st).station 2).state = st)
      ∧ (run.arrivedHead .vs = none ∧ (checking .idle false).arrivedHead .vs = some 6)
      ∧ (run.rtu.checkPallet ≠ some 6 ∧ (checking .waiting false).rtu.checkPallet = some 6
        ∧ ((checking .waiting false).pallet 6).isSome = true)
      ∧ ((checking .posted false).rtu.check = .posted ∧ (checking .posted false).rtu.stale = false
        ∧ (checking .posted true).rtu.stale = true)
      ∧ ((checking .running false).rtu.check = .running ∧ (checking .running false).rtu.image = some 7
        ∧ (checking .passed false).rtu.check ≠ .running) := by decide +kernel

theorem test_verification_results :
    ((checking .running false).verifyReport .pass 8).rtu.check = .passed
      ∧ ((checking .running false).verifyReport .pass 7).rtu.check = .running
      ∧ (((checking .running false).verifyReport .fail 8).pallet 6).map (·.service) = some .quarantined
      ∧ ((checking .running false).verifyReport .fail 8).clp.events.map (·.kind)
        = [.verifyResult, .palletQuarantined] := by decide +kernel

theorem test_load_order_of_an_overdue_pallet :
    (((lapped 255 none .inService).arrival 1 1 9).clp.events.map (·.kind)) = [.verifyOverdue]
      ∧ (((lapped 0 none .inService).arrival 1 1 9).station 1).state = .clamping := by decide +kernel

/-! ### The map -/

/-- `openShift` with its CONFIRM SEGMENT waiting. -/
def confirming : State := { openShift with pending := [.confirmSegmentAfter 1 2 1] }

theorem confirming_agrees : confirming.placementsAgree := by
  unfold State.placementsAgree; decide +kernel

theorem confirming_in_service : confirming.InService := by
  constructor <;> decide +kernel

theorem confirming_reservations :
    ∀ c ∈ [ConvId.b1, .b2, .vs, .rc], ∀ r ∈ (confirming.conv c).reservations,
      c = .b1 ∧ r = { holder := .segment 1, status := .carried } := by decide +kernel

theorem confirming_sound : confirming.MapSound := by
  have hs : confirming.segNumbers = [1, 2, 3] := by decide +kernel
  have hc : confirming.cvt.convs.map (·.1) = [.b1, .b2, .vs, .rc] := by decide +kernel
  refine ⟨by constructor <;> decide +kernel, fun k hk => ?_, fun c hk => ?_, by decide +kernel,
    by decide +kernel, by decide +kernel⟩
  · rw [hs] at hk
    simp only [List.mem_cons, List.not_mem_nil, or_false] at hk
    rcases hk with rfl | rfl | rfl <;> constructor <;> decide +kernel
  · rw [hc] at hk
    have reserved : ∀ r ∈ (confirming.conv c).reservations, confirming.reservationSound c r := by
      intro r hr
      obtain ⟨rfl, rfl⟩ := confirming_reservations c hk r hr
      exact ⟨{ entry := some 5, exit := some 8, dest := some .b1 }, by decide +kernel, rfl⟩
    have requests : (confirming.conv c).requests = [] :=
      (by decide +kernel : ∀ c ∈ [ConvId.b1, .b2, .vs, .rc], (confirming.conv c).requests = []) c hk
    have asked : ∀ h ∈ (confirming.conv c).requests, match h with
        | .segment k => (confirming.seg k).room = .requested c
        | .spur => c = .rc ∧ confirming.rtu.check = .passed := by
      rw [requests]; nofun
    simp only [List.mem_cons, List.not_mem_nil, or_false] at hk
    rcases hk with rfl | rfl | rfl | rfl <;> constructor <;>
      first | exact reserved | exact asked | decide +kernel

theorem meets_ConfirmSegmentSettlesTheOpenIndex_sound :
    confirming.MapSound ∧ confirming.linkReady ∧ confirming.lsv.lineState = .idle
      ∧ (confirming.seg 1).state = .fault ∧ confirming.certain 1 = false
      ∧ (confirming.segMap 1).openIndex = some { entry := some 5, exit := some 8, dest := some .b1 } :=
  ⟨confirming_sound, ready_of_reset rfl, by decide +kernel⟩

/-- In RUN, S1 READY with exit pallet 8, its request for room waiting at the JAMMED B1. -/
def waitingRoom : State :=
  ((seat 8 1 8 run).modSeg 1 fun g => { g with state := .ready, room := .requested .b1 }).modConv .b1
    fun v => { v with state := .jammed, cause := some .nodeJam, requests := [.segment 1] }

theorem waitingRoom_requests :
    ∀ c ∈ [ConvId.b1, .b2, .vs, .rc], (waitingRoom.conv c).reservations = []
      ∧ ∀ h ∈ (waitingRoom.conv c).requests, c = .b1 ∧ h = .segment 1 := by decide +kernel

theorem waitingRoom_sound : waitingRoom.MapSound := by
  have hs : waitingRoom.segNumbers = [1, 2, 3] := by decide +kernel
  have hc : waitingRoom.cvt.convs.map (·.1) = [.b1, .b2, .vs, .rc] := by decide +kernel
  refine ⟨by constructor <;> decide +kernel, fun k hk => ?_, fun c hk => ?_, by decide +kernel,
    by decide +kernel, by decide +kernel⟩
  · rw [hs] at hk
    simp only [List.mem_cons, List.not_mem_nil, or_false] at hk
    rcases hk with rfl | rfl | rfl <;> constructor <;> decide +kernel
  · rw [hc] at hk
    obtain ⟨hr, hq⟩ := waitingRoom_requests c hk
    have reserved : ∀ r ∈ (waitingRoom.conv c).reservations, waitingRoom.reservationSound c r := by
      rw [hr]; nofun
    have asked : ∀ h ∈ (waitingRoom.conv c).requests, match h with
        | .segment k => (waitingRoom.seg k).room = .requested c
        | .spur => c = .rc ∧ waitingRoom.rtu.check = .passed := by
      intro h hh
      obtain ⟨rfl, rfl⟩ := hq h hh
      rfl
    simp only [List.mem_cons, List.not_mem_nil, or_false] at hk
    rcases hk with rfl | rfl | rfl | rfl <;> constructor <;>
      first | exact reserved | exact asked | decide +kernel

theorem meets_ClearFaultOfSegmentsAndConveyors_grant :
    waitingRoom.MapSound ∧ .segment 1 ∈ (waitingRoom.conv .b1).requests
      ∧ .b1 ∈ waitingRoom.cvt.convs.map (·.1) ∧ 1 ∈ waitingRoom.segNumbers :=
  ⟨waitingRoom_sound, by decide +kernel⟩

theorem meets_PlacementsFollowTheMap_steps :
    confirming.shaped ∧ confirming.QueuesWithin ∧ confirming.placementsAgree
      ∧ (∀ id ∈ confirming.trk.standing, id ∈ confirming.trk.pallets.map (·.1)) ∧ confirming.MapSound
      ∧ ∃ u, step confirming = .next u :=
  ⟨⟨nofun, fun _ => confirming_in_service⟩, by constructor <;> decide +kernel, confirming_agrees,
    confirming_sound.map.recorded, confirming_sound, ⟨_, rfl⟩⟩

/-! ### The end of STOPPING, and a fault of a segment with room -/

/-- In RUN, S1 READY with exit pallet 8 and room held on B1. -/
def roomHeld : State :=
  ((seat 8 1 8 run).modSeg 1 fun g => { g with state := .ready, room := .held .b1 }).modConv .b1
    fun v => { v with reservations := [{ holder := .segment 1, status := .held }] }

theorem meets_StartStopAndModeChangeTheLine_settled :
    (stopping.lsv.lineState = .stopping ∧ stopping.lineSettled)
      ∧ (let s := stopping.modSeg 2 fun g => { g with state := .work, bar := .returning }
        s.lsv.lineState = .stopping ∧ ¬ s.lineSettled)
      ∧ (let s := withStation stopping .cycle .cycling
        s.lsv.lineState = .stopping ∧ ¬ s.lineSettled ∧ s.linkReady)
      ∧ (run.linkReady ∧ carriesFrames (.stop 1 2) = false
        ∧ (after (.stop 1 2) run).lsv.lineState = .idle) := by
  refine ⟨?_, ?_, ⟨rfl, ?_, ready_of_reset rfl⟩, run_ready, by decide +kernel⟩ <;>
    unfold State.lineSettled <;> decide +kernel

theorem test_a_station_at_work_keeps_stopping :
    ((withStation stopping .cycle .cycling).closeEvent).lsv.lineState = .stopping
      ∧ ((withStation stopping .lockout .lockout).closeEvent).clp.events.map (·.detail)
        = [.lineState .idle .settled] := by decide +kernel

theorem meets_DriveReportsMoveTheSegment_rooms :
    ((waitingRoom.seg 1).state = .ready ∧ (waitingRoom.seg 1).room = .requested .b1)
      ∧ ((roomHeld.seg 1).state = .ready ∧ (roomHeld.seg 1).room = .held .b1)
      ∧ ((run.modSeg 2 fun g => { g with state := .ready }).seg 2).room = .none
      ∧ ((queuedSegment.seg 1).state = .queued ∧ (queuedSegment.seg 1).room = .held .b1)
      ∧ ((run.modSeg 2 fun g => { g with state := .queued }).seg 2).room = .none := by decide +kernel

theorem test_a_fault_gives_up_room :
    ((waitingRoom.scFault 1 .driveFault).conv .b1).requests = []
      ∧ ((roomHeld.scFault 1 .driveFault).conv .b1).reservations = []
      ∧ ((queuedSegment.scFault 1 .driveFault).conv .b1).reservations = []
      ∧ (queuedSegment.scFault 1 .driveFault).clp.events.map (·.detail)
        = [.motion .driveFault .certain 0] := by decide +kernel

/-- The figures of 11 sections 11.1 and 11.3. -/
theorem test_event_record_bytes :
    ({ kind := .motionFault, time := 0x010203, subject := { kind := .segment, number := 2 }, pallet := none,
       detail := .motion .linkLost .uncertain 513 } : Event).bytes
        = [8, 0, 1, 2, 3, 1, 2, 0, 4, 2, 2, 1, 0, 0]
      ∧ ({ kind := .tagUnreadable, time := 5, subject := { kind := .segment, number := 1 }, pallet := some 9,
           detail := .read none } : Event).bytes = [15, 0, 0, 0, 5, 1, 1, 9, 0, 0, 0, 0, 0, 0] := by
  decide +kernel

theorem test_an_unread_tag_gives_the_held_notice :
    let u := after (.tagReadTimeout 600) (opening (some 9))
    u.clp.events.map (fun e => (e.kind, e.pallet, e.detail)) = [(.tagUnreadable, some 9, .read none)]
      ∧ u.trk.tag = .none := by decide +kernel

end Sys2Proof.Tests
end

section
/-! PROOF. The shape of the state (R1, R9, R16, R155): what a step in service leaves as it was, and what a step in
CONFIG can do. -/

namespace Sys2Proof.Machine

/-! ## The views that the shape speaks of -/

/-- What `State.InService` speaks of: the configuration and which records every block holds. -/
structure Units where
  cfg : ConfigStore
  segments : List Nat
  nests : List Nat
  permits : List Nat
  common : List Nat
  stations : List Nat
  lists : List ConvId
  conveyors : List ConvId
  nodes : List (Nat × Role)
  schedule : List Nat

def State.units (s : State) : Units :=
  { cfg := s.cfg, segments := s.sc.map (·.1), nests := s.trk.segs.map (·.1),
    permits := s.lsv.permits.map (·.1), common := s.sqs.common.map (·.1),
    stations := s.sqs.stations.map (·.1), lists := s.trk.lists.map (·.1),
    conveyors := s.cvt.convs.map (·.1), nodes := s.sbm.nodes.map fun p => (p.1, p.2.role),
    schedule := s.sbm.schedule }

/-- What the shape speaks of in CONFIG: the state without the clock, the cell link, the waiting commands, the mode
and the ESTOP image. -/
def State.blocks (s : State) : State :=
  { s with clock := 0, estopHeld := 0, clp := .reset, pending := [],
           lsv := { s.lsv with mode := .auto, estop := false } }

theorem State.fixed_units (s : State) : s.fixed.units = s.units := by
  simp [State.units, State.fixed, Node.fresh, Function.comp_def]

/-- The effects between the blocks add and remove no unit. -/
theorem units_of_fixed {s u : State} (h : u.fixed = s.fixed) : u.units = s.units := by
  rw [← u.fixed_units, h, s.fixed_units]

theorem State.InService.of_units {s u : State} (hs : s.InService) (h : u.units = s.units) : u.InService := by
  have hcfg : u.cfg = s.cfg := congrArg Units.cfg h
  exact
    { committed := hcfg ▸ hs.committed
      derived := hcfg ▸ hs.derived
      checked := hcfg ▸ hs.checked
      segments := by rw [hcfg]; exact (congrArg Units.segments h).trans hs.segments
      nests := by rw [hcfg]; exact (congrArg Units.nests h).trans hs.nests
      permits := by rw [hcfg]; exact (congrArg Units.permits h).trans hs.permits
      common := by rw [hcfg]; exact (congrArg Units.common h).trans hs.common
      stations := by rw [hcfg]; exact (congrArg Units.stations h).trans hs.stations
      lists := by rw [hcfg]; exact (congrArg Units.lists h).trans hs.lists
      conveyors := by rw [hcfg]; exact (congrArg Units.conveyors h).trans hs.conveyors
      nodes := by rw [hcfg]; exact (congrArg Units.nodes h).trans hs.nodes
      schedule := by rw [hcfg]; exact (congrArg Units.schedule h).trans hs.schedule }

theorem units_of_blocks {s u : State} (h : u.blocks = s.blocks) : u.units = s.units :=
  show u.blocks.units = s.blocks.units from congrArg State.units h

theorem lineState_of_blocks {s u : State} (h : u.blocks = s.blocks) : u.lsv.lineState = s.lsv.lineState :=
  show u.blocks.lsv.lineState = s.blocks.lsv.lineState from congrArg (fun x : State => x.lsv.lineState) h

theorem State.blocks_outOfService {s : State} : s.blocks.OutOfService ↔ s.OutOfService :=
  ⟨fun h => ⟨h.committed, h.derived, h.stations, h.segments, h.admission, h.conveyors, h.bus, h.nests, h.lists,
      h.tag, h.reader, h.route, h.permits, h.notices, h.unplaced⟩,
    fun h => ⟨h.committed, h.derived, h.stations, h.segments, h.admission, h.conveyors, h.bus, h.nests, h.lists,
      h.tag, h.reader, h.route, h.permits, h.notices, h.unplaced⟩⟩

theorem State.OutOfService.of_blocks {s u : State} (hs : s.OutOfService) (h : u.blocks = s.blocks) :
    u.OutOfService :=
  State.blocks_outOfService.mp (h ▸ State.blocks_outOfService.mpr hs)

/-! ## Effects that belong to a line in service -/

/-- An effect that leaves the blocks alone in CONFIG, and in service neither adds or removes a unit nor leaves
service. -/
structure State.ActsInService (s u : State) : Prop where
  config : s.lsv.lineState = .config → u.blocks = s.blocks
  line : s.lsv.lineState ≠ .config → u.lsv.lineState ≠ .config
  units : u.units = s.units

theorem State.ActsInService.of_blocks {s u : State} (h : u.blocks = s.blocks) : s.ActsInService u :=
  ⟨fun _ => h, fun hl => lineState_of_blocks h ▸ hl, units_of_blocks h⟩

theorem State.ActsInService.refl (s : State) : s.ActsInService s := .of_blocks rfl

theorem State.ActsInService.trans {s u v : State} (h : s.ActsInService u) (h' : u.ActsInService v) :
    s.ActsInService v :=
  ⟨fun hc => (h'.config (lineState_of_blocks (h.config hc) ▸ hc)).trans (h.config hc),
    fun hl => h'.line (h.line hl), h'.units.trans h.units⟩

theorem State.ActsInService.of_units {s u : State} (hs : s.lsv.lineState ≠ .config)
    (hu : u.lsv.lineState ≠ .config) (h : u.units = s.units) : s.ActsInService u :=
  ⟨fun hc => absurd hc hs, fun _ => hu, h⟩

theorem State.ActsInService.of_fixed {s u : State} (hs : s.lsv.lineState ≠ .config) (h : u.fixed = s.fixed) :
    s.ActsInService u :=
  .of_units hs (lineState_of_fixed h ▸ hs) (units_of_fixed h)

/-- An effect of a line in service keeps the shape. -/
theorem State.ActsInService.shaped {s u : State} (h : s.ActsInService u) (hs : s.shaped) : u.shaped := by
  by_cases hc : s.lsv.lineState = .config
  · have hu : u.lsv.lineState = .config := lineState_of_blocks (h.config hc) ▸ hc
    exact ⟨fun _ => (hs.1 hc).of_blocks (h.config hc), fun hn => absurd hu hn⟩
  · exact ⟨fun hu => absurd hu (h.line hc), fun _ => (hs.2 hc).of_units h.units⟩

theorem State.shaped.of_blocks {s u : State} (hs : s.shaped) (h : u.blocks = s.blocks) : u.shaped :=
  (State.ActsInService.of_blocks h).shaped hs

/-! ## The supervisor's operations -/

theorem State.closeEvent_units (s : State) : s.closeEvent.units = s.units := by
  rw [← State.fixed_units, State.closeEvent_fixed, State.fixed_units]
  rfl

theorem State.closeEvent_config {s : State} (h : s.lsv.lineState = .config) : s.closeEvent = s := by
  simp [State.closeEvent, h]

theorem State.closeEvent_inService {s : State} (h : s.lsv.lineState ≠ .config) :
    s.closeEvent.lsv.lineState ≠ .config := by
  obtain heq | ⟨-, hidle⟩ := s.closeEvent_lineState
  · rwa [heq]
  · rw [hidle]; decide

/-- The end of an event keeps the shape. -/
theorem State.closeEvent_acts (s : State) : s.ActsInService s.closeEvent :=
  ⟨fun h => by rw [s.closeEvent_config h], s.closeEvent_inService, s.closeEvent_units⟩

/-- Effects between the blocks, and the end of the event after them. -/
theorem State.ActsInService.of_event {s u : State} (hs : s.lsv.lineState ≠ .config) (h : u.fixed = s.fixed) :
    s.ActsInService u.closeEvent :=
  (State.ActsInService.of_fixed hs h).trans u.closeEvent_acts

theorem State.enterLine_units (s : State) (st : LineState) (cause : LineCause) :
    (s.enterLine st cause).units = s.units := rfl

theorem State.enterLine_lineState (s : State) (st : LineState) (cause : LineCause) :
    (s.enterLine st cause).lsv.lineState = st := rfl

/-- Entry into a line state other than CONFIG with effects between the blocks after it. -/
theorem State.ActsInService.of_entered {s u : State} {st : LineState} {cause : LineCause}
    (hs : s.lsv.lineState ≠ .config) (hst : st ≠ .config) (h : u.fixed = (s.enterLine st cause).fixed) :
    s.ActsInService u :=
  .of_units hs (lineState_of_fixed h ▸ hst) ((units_of_fixed h).trans (s.enterLine_units st cause))

theorem State.haltBus_units (s : State) : s.haltBus.units = s.units :=
  (units_of_fixed (forEach_fixed (fun a x => x.haltNode_fixed a) _ _)).trans rfl

theorem State.haltBus_lineState (s : State) : s.haltBus.lsv.lineState = s.lsv.lineState :=
  (lineState_of_fixed (forEach_fixed (fun a x => x.haltNode_fixed a) _ _)).trans rfl

/-- The entry into HALT after the bus's part. -/
theorem State.enterHalt_fixed (s : State) (cause : LineCause) :
    (s.enterHalt cause).fixed = (s.enterLine .halt cause).haltBus.fixed := by
  simp [State.enterHalt]

theorem State.enterHalt_units (s : State) (cause : LineCause) : (s.enterHalt cause).units = s.units :=
  (units_of_fixed (s.enterHalt_fixed cause)).trans (State.haltBus_units _)

theorem State.enterHalt_lineState (s : State) (cause : LineCause) :
    (s.enterHalt cause).lsv.lineState = .halt :=
  (lineState_of_fixed (s.enterHalt_fixed cause)).trans (State.haltBus_lineState _)

theorem State.enterHalt_acts {s : State} (hs : s.lsv.lineState ≠ .config) (cause : LineCause) :
    s.ActsInService (s.enterHalt cause) :=
  .of_units hs (by rw [State.enterHalt_lineState]; decide) (s.enterHalt_units cause)

theorem State.startLine_acts {s : State} (hs : s.lsv.lineState ≠ .config) (m : Mode) :
    s.ActsInService (s.startLine m) := by
  have hmode : s.ActsInService (s.modLsv fun l => { l with mode := m }) := .of_blocks rfl
  exact hmode.trans (.of_entered (st := .run) (cause := .start) hs (by decide) (by simp [State.startLine]))

theorem State.stopLine_acts {s : State} (hs : s.lsv.lineState ≠ .config) : s.ActsInService s.stopLine :=
  .of_entered (st := .stopping) (cause := .stop) hs (by decide) (by simp [State.stopLine])

theorem State.modeLine_acts {s : State} (hs : s.lsv.lineState ≠ .config) (m : Mode) :
    s.ActsInService (s.modeLine m) := by
  unfold State.modeLine
  split
  · exact .refl s
  · have hmode : s.ActsInService (s.modLsv fun l => { l with mode := m }) := .of_blocks rfl
    exact hmode.trans (.of_fixed hs (by simp))

theorem State.recoverLine_acts {s : State} (hs : s.lsv.lineState ≠ .config) : s.ActsInService s.recoverLine :=
  .of_entered (st := .idle) (cause := .recover) hs (by decide) (by simp [State.recoverLine])

theorem State.estopOn_acts (s : State) : s.ActsInService s.estopOn := by
  have hpost : ((s.setEstop true).post .estopOn .line none .none).blocks = s.blocks := rfl
  unfold State.estopOn
  split
  · exact .refl s
  · cases hl : s.lsv.lineState
    case config | halt => exact .of_blocks hpost
    case idle | run | stopping =>
      refine (State.ActsInService.of_blocks hpost).trans (State.enterHalt_acts ?_ _)
      rw [lineState_of_blocks hpost, hl]
      decide

theorem State.estopOff_acts (s : State) : s.ActsInService s.estopOff := by
  unfold State.estopOff
  split
  · exact .of_blocks rfl
  · exact .refl s

end Sys2Proof.Machine
end

section
/-! PROOF. The requests at their owners: what one can do to the shape. -/

namespace Sys2Proof.Machine

/-! ## Effects of the requests between the blocks -/

@[simp] theorem State.abortStation_fixed (s : State) (n : Nat) (r : StationRecord) :
    (s.abortStation n r).fixed = s.fixed := by
  simp only [State.abortStation]
  split <;> simp

@[simp] theorem State.clearStationBy_fixed (s : State) (n : Nat) (r : StationRecord) (rep : StationReport) :
    (s.clearStationBy n r rep).fixed = s.fixed := by
  cases rep <;> simp [State.clearStationBy]

@[simp] theorem State.clearConveyor_fixed (s : State) (c : ConvId) : (s.clearConveyor c).fixed = s.fixed := by
  simp [State.clearConveyor]

/-! ## Requests that act on a line in service only -/

/-- A request's effect is that of the state it answers with. -/
theorem State.ActsInService.answered {s u : State} (h : s.ActsInService u) (a : Answer) :
    s.ActsInService (u, a).1 := h

/-- A request with a guard that refuses it. -/
theorem State.ActsInService.guarded {s : State} {c : Prop} [Decidable c] {a : Answer} {r : State × Answer}
    (h : ¬c → s.ActsInService r.1) : s.ActsInService (if c then (s, a) else r).1 := by
  split
  · exact .refl s
  · next hc => exact h hc

/-- A request that is refused in CONFIG. -/
theorem State.ActsInService.guardedIn {s : State} {l : List LineState} {a : Answer} {r : State × Answer}
    (hl : LineState.config ∉ l) (h : s.lsv.lineState ≠ .config → s.ActsInService r.1) :
    s.ActsInService (if !s.lineIn l then (s, a) else r).1 := by
  refine .guarded fun hin => h fun hc => hl ?_
  rw [Bool.not_eq_true', Bool.not_eq_false, State.lineIn, List.contains_iff_mem] at hin
  exact hc ▸ hin

section
variable (s : State)

theorem State.requestStart_acts (m : Nat) : s.ActsInService (s.requestStart m).1 := by
  refine .guarded fun h => ?_
  have hs : s.lsv.lineState ≠ .config := by simp_all
  split
  · exact .refl s
  · exact .answered ((State.startLine_acts hs _).trans (State.closeEvent_acts _)) _

theorem State.requestStop_acts : s.ActsInService s.requestStop.1 :=
  .guarded fun h => .answered ((State.stopLine_acts (by simp_all)).trans (State.closeEvent_acts _)) _

theorem State.requestMode_acts (m : Nat) : s.ActsInService (s.requestMode m).1 := by
  refine .guarded fun h => ?_
  have hs : s.lsv.lineState ≠ .config := by simp_all
  split
  · exact .refl s
  · exact .answered ((State.modeLine_acts hs _).trans (State.closeEvent_acts _)) _

theorem State.requestStepGrant_acts (mask : Byte) : s.ActsInService (s.requestStepGrant mask).1 :=
  .guarded fun h => .guarded fun _ => .answered (.of_event (by simp_all) (by simp)) _

theorem State.requestHold_acts (mask : Byte) : s.ActsInService (s.requestHold mask).1 :=
  .guardedIn (by decide) fun hs => .guarded fun _ => .answered (.of_event hs (by simp)) _

theorem State.requestContinue_acts (mask : Byte) : s.ActsInService (s.requestContinue mask).1 :=
  .guardedIn (by decide) fun hs => .guarded fun _ => .answered (.of_event hs (by simp)) _

theorem State.requestHalt_acts : s.ActsInService s.requestHalt.1 := by
  unfold State.requestHalt
  split
  case h_1 | h_2 => exact .refl s
  case h_3 hl | h_4 hl | h_5 hl =>
    have hs : s.lsv.lineState ≠ .config := by simp [hl]
    exact .answered ((State.enterHalt_acts hs _).trans (State.closeEvent_acts _)) _

theorem State.requestRecover_acts : s.ActsInService s.requestRecover.1 :=
  .guarded fun h => .guarded fun _ =>
    .answered ((State.recoverLine_acts (by simp_all)).trans (State.closeEvent_acts _)) _

theorem State.requestRestart_acts : s.ActsInService s.requestRestart.1 :=
  .guarded fun _ => .of_blocks rfl

theorem State.requestBypassOn_acts (n : Nat) : s.ActsInService (s.requestBypassOn n).1 := by
  refine .guardedIn (by decide) fun hs => .guarded fun _ => ?_
  split
  · exact .refl s
  · refine .guarded fun _ => .guarded fun _ => ?_
    split
    · exact .answered (.of_event hs (by simp)) _
    · split
      · exact .guarded fun _ => .answered (.of_event hs (by simp)) _
      · exact .refl s

theorem State.requestBypassOff_acts (n : Nat) : s.ActsInService (s.requestBypassOff n).1 := by
  refine .guardedIn (by decide) fun hs => .guarded fun _ => ?_
  split
  · exact .refl s
  · refine .guarded fun _ => ?_
    split
    · split
      · exact .answered (.of_event hs (by simp)) _
      · split
        · exact .answered (.of_event hs (by simp)) _
        · exact .refl s
    · exact .refl s

theorem State.requestBypass_acts (n setting : Nat) : s.ActsInService (s.requestBypass n setting).1 := by
  unfold State.requestBypass
  split
  · exact s.requestBypassOff_acts n
  · exact s.requestBypassOn_acts n
  · exact .guarded fun _ => .guarded fun _ => .refl s

theorem State.requestAbortCycle_acts (n : Nat) : s.ActsInService (s.requestAbortCycle n).1 := by
  refine .guarded fun h => .guarded fun _ => ?_
  have hs : s.lsv.lineState ≠ .config := by simp_all
  have habort (r : StationRecord) : s.ActsInService (s.abortStation n r).closeEvent :=
    .of_event hs (by simp)
  split
  · exact .refl s
  · split
    case h_4 => exact .refl s
    all_goals exact .answered (habort _) _

theorem State.requestClearStation_acts (n : Nat) : s.ActsInService (s.requestClearStation n).1 := by
  refine .guardedIn (by decide) fun hs => .guarded fun _ => ?_
  split
  · exact .refl s
  · refine .guarded fun _ => .guarded fun _ => .guarded fun _ => ?_
    split
    · exact .refl s
    · exact .guarded fun _ => .answered (.of_event hs (by simp)) _

theorem State.requestClearSegment_acts (k : Nat) : s.ActsInService (s.requestClearSegment k).1 :=
  .guarded fun _ => .guarded fun hs => .guarded fun _ => .guarded fun _ => .guarded fun _ =>
    .guarded fun _ => .guarded fun _ => .answered (.of_event hs (by simp)) _

theorem State.requestClearConveyor_acts (number : Nat) : s.ActsInService (s.requestClearConveyor number).1 := by
  refine .guardedIn (by decide) fun hs => ?_
  split
  · exact .refl s
  · exact .guarded fun _ => .guarded fun _ => .guarded fun _ => .answered (.of_event hs (by simp)) _

theorem State.requestClearFault_acts (kind number : Nat) : s.ActsInService (s.requestClearFault kind number).1 := by
  unfold State.requestClearFault
  split
  · exact s.requestClearSegment_acts number
  · exact s.requestClearStation_acts number
  · exact s.requestClearConveyor_acts number
  · exact .refl s

theorem State.requestPalletRead_acts (id : Nat) : s.ActsInService (s.requestPalletRead id).1 := by
  refine .guarded fun _ => ?_
  split <;> exact .refl s

theorem State.requestPlace_acts (id position : Nat) : s.ActsInService (s.requestPlace id position).1 := by
  refine .guardedIn (by decide) fun hs => .guarded fun _ => ?_
  split
  · exact .refl s
  · refine .guarded fun _ => ?_
    split
    · exact .refl s
    · exact .guarded fun _ => .guarded fun _ => .answered (.of_event hs (by simp)) _
    · exact .guarded fun _ => .guarded fun _ => .answered (.of_event hs (by simp)) _

theorem State.requestRemove_acts (id : Nat) : s.ActsInService (s.requestRemove id).1 := by
  refine .guardedIn (by decide) fun hs => .guarded fun _ => ?_
  split
  · exact .refl s
  · split
    · exact .refl s
    · split
      · exact .answered (.of_event hs (by simp)) _
      · exact .refl s

theorem State.requestAcceptTag_acts : s.ActsInService s.requestAcceptTag.1 := by
  refine .guardedIn (by decide) fun hs => ?_
  split
  · exact .guarded fun _ => .guarded fun _ => .answered (.of_event hs (by simp)) _
  · exact .refl s

theorem State.requestConfirmBefore_acts (k : Nat) : s.ActsInService (s.requestConfirmBefore k).1 := by
  refine .guardedIn (by decide) fun hs => .guarded fun _ => ?_
  split
  · exact .refl s
  · exact .answered (.of_event hs (by simp)) _

theorem State.requestConfirmAfter_acts (k : Nat) : s.ActsInService (s.requestConfirmAfter k).1 := by
  refine .guardedIn (by decide) fun hs => .guarded fun _ => ?_
  split
  · exact .refl s
  · exact .answered (.of_event hs (by simp)) _

theorem State.requestConfirmList_acts (k flag : Nat) (occupants : List Byte) :
    s.ActsInService (s.requestConfirmList k flag occupants).1 := by
  refine .guardedIn (by decide) fun hs => .guarded fun _ => ?_
  split
  · exact .refl s
  · exact .guarded fun _ => .guarded fun _ => .answered (.of_event hs (by simp)) _

theorem State.requestConfirm_acts (body : List Byte) : s.ActsInService (s.requestConfirm body).1 := by
  unfold State.requestConfirm
  dsimp only
  split
  · exact s.requestConfirmBefore_acts _
  · exact s.requestConfirmAfter_acts _
  · exact s.requestConfirmList_acts _ _ _
  · exact .guarded fun _ => .guarded fun _ => .refl s

theorem State.requestMapRead_acts (start count : Nat) : s.ActsInService (s.requestMapRead start count).1 :=
  .guarded fun _ => .guarded fun _ => .refl s

theorem State.requestReserveSet_acts (volume : Nat) : s.ActsInService (s.requestReserveSet volume).1 :=
  .guarded fun hs => .guarded fun _ => .answered (.of_event hs (by simp)) _

theorem State.requestStatus_acts (number : Nat) : s.ActsInService (s.requestStatus number).1 :=
  .guarded fun _ => .of_blocks rfl

theorem State.requestEventsTake_acts (count : Nat) : s.ActsInService (s.requestEventsTake count).1 :=
  .of_blocks rfl

end

end Sys2Proof.Machine
end

section
/-! PROOF. What a command can do to the shape, and that every step keeps it (O27); what it leaves of the
configuration store (O4). -/

namespace Sys2Proof.Machine

/-! ## Keyed tables -/

theorem mem_tableInsert {α : Type} {k : Nat} {v : α} {l : List (Nat × α)} {p : Nat × α}
    (h : p ∈ tableInsert k v l) : p = (k, v) ∨ p ∈ l := by
  induction l with
  | nil => exact .inl (List.mem_singleton.mp h)
  | cons q rest ih =>
    unfold tableInsert at h
    (repeat' split at h) <;> simp only [List.mem_cons] at h ⊢
    · obtain hq | hrest := h
      · exact .inr (.inl hq)
      · exact (ih hrest).imp_right .inr
    · exact h.imp_right .inr
    · exact h

theorem mem_of_mem_tableErase {κ α : Type} [DecidableEq κ] {k : κ} {l : List (κ × α)} {p : κ × α}
    (h : p ∈ tableErase k l) : p ∈ l := by
  induction l with
  | nil => exact h
  | cons q rest ih =>
    unfold tableErase at h
    split at h
    · exact .tail _ (ih h)
    · exact List.mem_cons.mpr ((List.mem_cons.mp h).imp_right ih)

/-! ## Into service and out of it (R16, R155, R145) -/

theorem State.putIntoService_inService {s : State} (h : s.cfg.failure = none) : s.putIntoService.InService where
  committed := rfl
  derived := rfl
  checked := h
  segments := by simp [State.putIntoService, Function.comp_def]
  nests := by simp [State.putIntoService, Trk.committed, Function.comp_def]
  permits := by simp [State.putIntoService, Function.comp_def]
  common := by simp [State.putIntoService, Function.comp_def]
  stations := by simp [State.putIntoService, Function.comp_def]
  lists := by simp [State.putIntoService, Trk.committed, Function.comp_def]
  conveyors := by simp [State.putIntoService, Function.comp_def]
  nodes := rfl
  schedule := rfl

theorem State.commitLine_released {s : State} (h : s.lsv.estop = false) :
    s.commitLine = s.putIntoService.enterLine .idle .commit := by
  simp [State.commitLine, h]

theorem State.commitLine_asserted {s : State} (h : s.lsv.estop = true) :
    s.commitLine = ((s.putIntoService.enterLine .idle .commit).enterHalt .estop).firstScanInHalt := by
  simp [State.commitLine, h]

theorem State.firstScanInHalt_units (s : State) : s.firstScanInHalt.units = s.units := rfl

theorem State.firstScanInHalt_lineState (s : State) : s.firstScanInHalt.lsv.lineState = s.lsv.lineState := rfl

theorem State.commitLine_units (s : State) : s.commitLine.units = s.putIntoService.units := by
  cases h : s.lsv.estop with
  | false => rw [State.commitLine_released h, State.enterLine_units]
  | true =>
    rw [State.commitLine_asserted h, State.firstScanInHalt_units, State.enterHalt_units, State.enterLine_units]

theorem State.commitLine_lineState (s : State) : s.commitLine.lsv.lineState ≠ .config := by
  cases h : s.lsv.estop with
  | false => rw [State.commitLine_released h, State.enterLine_lineState]; decide
  | true =>
    rw [State.commitLine_asserted h, State.firstScanInHalt_lineState, State.enterHalt_lineState]; decide

/-- A COMMIT that passes brings the state into service (R16). -/
theorem State.commitLine_shaped {s : State} (h : s.cfg.failure = none) : s.commitLine.shaped :=
  ⟨fun hc => absurd hc s.commitLine_lineState,
    fun _ => (State.putIntoService_inService h).of_units s.commitLine_units⟩

theorem Sbm.uncommitted_silent_or_ending (b : Sbm) :
    b.uncommitted = .reset ∨ b.uncommitted =
      { nodes := [], schedule := [], scan := .ending, window := none, tx := b.uncommitted.tx } := by
  unfold Sbm.uncommitted
  split
  · exact .inl rfl
  · exact .inr rfl
  · exact .inr rfl

/-- UNCOMMIT leaves nothing in service (R155). -/
theorem State.uncommitLine_outOfService (s : State) : s.uncommitLine.OutOfService where
  committed := rfl
  derived := rfl
  stations := rfl
  segments := rfl
  admission := rfl
  conveyors := rfl
  bus := s.sbm.uncommitted_silent_or_ending
  nests := rfl
  lists := rfl
  tag := rfl
  reader := rfl
  route := rfl
  permits := rfl
  notices := ⟨rfl, rfl⟩
  unplaced := List.forall_mem_map.mpr fun _ _ => rfl

theorem State.uncommitLine_shaped (s : State) : s.uncommitLine.shaped :=
  ⟨fun _ => s.uncommitLine_outOfService, fun h => absurd rfl h⟩

theorem State.reset_shaped : State.reset.shaped :=
  ⟨fun _ => ⟨rfl, rfl, rfl, rfl, rfl, rfl, .inl rfl, rfl, rfl, rfl, rfl, rfl, rfl, ⟨rfl, rfl⟩, nofun⟩,
    fun h => absurd rfl h⟩

/-- The state after a reset, hardware or RESTART, is the reset state but for the link and the ESTOP image. -/
theorem State.afterReset_acts (waiting : List Instr) (estop : Bool) (br : BitVec 2) :
    State.reset.ActsInService (State.afterReset waiting estop br) := by
  have hreset : State.reset.ActsInService
      { State.reset with pending := waiting, clp := { Clp.reset with rate := br } } := .of_blocks rfl
  unfold State.afterReset
  dsimp only
  split
  · exact hreset.trans (State.estopOn_acts _)
  · exact hreset

/-! ## What a request can do -/

/-- What a request of a type can do: act on a line in service; in CONFIG, store records, or put the configuration
into service when it passes the checks; change the Pallet Table; as UNCOMMIT in IDLE, end the service. -/
inductive State.RequestEffect (s : State) (type : Byte) : State → Prop
  | acts {u : State} (h : s.ActsInService u) : RequestEffect s type u
  | records (c : ConfigStore) (hl : s.lsv.lineState = .config) (hc : c.committed = s.cfg.committed)
      (hd : c.derived = s.cfg.derived) : RequestEffect s type { s with cfg := c }
  | pallets (l : List (Nat × Pallet)) (hl : ∀ p ∈ l, p ∈ s.trk.pallets ∨ p.2.placement = none) :
      RequestEffect s type { s with trk := { s.trk with pallets := l } }
  | commit (hl : s.lsv.lineState = .config) (hf : s.cfg.failure = none) :
      RequestEffect s type s.commitLine.closeEvent
  | uncommit (ht : type.toNat = 0x15) (hl : s.lsv.lineState = .idle) : RequestEffect s type s.uncommitLine

theorem State.RequestEffect.answered {s u : State} {type : Byte} (h : s.RequestEffect type u) (a : Answer) :
    s.RequestEffect type (u, a).1 := h

section
variable (s : State) (type : Byte)

theorem State.requestLineSet_effect (body : List Byte) : s.RequestEffect type (s.requestLineSet body).1 := by
  unfold State.requestLineSet
  dsimp only
  split
  · exact .acts (.refl s)
  · next hl =>
    split
    · exact .acts (.refl s)
    · exact .records _ (not_not.mp hl) rfl rfl

theorem State.requestSegmentSet_effect (body : List Byte) :
    s.RequestEffect type (s.requestSegmentSet body).1 := by
  unfold State.requestSegmentSet
  dsimp only
  split
  · exact .acts (.refl s)
  · next hl =>
    split
    · exact .acts (.refl s)
    · exact .records _ (not_not.mp hl) rfl rfl

theorem State.requestStationSet_effect (body : List Byte) :
    s.RequestEffect type (s.requestStationSet body).1 := by
  unfold State.requestStationSet
  dsimp only
  split
  · exact .acts (.refl s)
  · next hl =>
    split
    · exact .acts (.refl s)
    · split <;> exact .records _ (not_not.mp hl) rfl rfl

theorem State.requestBusSet_effect (body : List Byte) : s.RequestEffect type (s.requestBusSet body).1 := by
  unfold State.requestBusSet
  dsimp only
  split
  · exact .acts (.refl s)
  · next hl =>
    split
    · exact .acts (.refl s)
    · exact .records _ (not_not.mp hl) rfl rfl

theorem State.requestCommit_effect : s.RequestEffect type s.requestCommit.1 := by
  unfold State.requestCommit
  split
  · exact .acts (.refl s)
  · next hl =>
    split
    · exact .acts (.refl s)
    · next hf => exact .answered (.commit (not_not.mp hl) hf) _

theorem State.requestUncommit_effect (ht : type.toNat = 0x15) : s.RequestEffect type s.requestUncommit.1 := by
  unfold State.requestUncommit
  split
  · exact .acts (.refl s)
  · next hl => exact .answered (.uncommit ht (not_not.mp hl)) _

theorem State.requestPalletDefine_effect (id variant : Nat) :
    s.RequestEffect type (s.requestPalletDefine id variant).1 := by
  unfold State.requestPalletDefine
  split
  · exact .acts (.refl s)
  · split
    · exact .acts (.refl s)
    · split
      · exact .acts (.refl s)
      · split
        · exact .acts (.refl s)
        · refine .answered (.pallets _ fun p hp => ?_) _
          obtain rfl | hin := mem_tableInsert hp
          · exact .inr rfl
          · exact .inl hin

theorem State.requestPalletDelete_effect (id : Nat) : s.RequestEffect type (s.requestPalletDelete id).1 := by
  unfold State.requestPalletDelete
  split
  · exact .acts (.refl s)
  · split
    · exact .acts (.refl s)
    · split
      · exact .acts (.refl s)
      · exact .answered (.pallets _ fun p hp => .inl (mem_of_mem_tableErase hp)) _

/-- A request at its owner (R181). -/
theorem State.owner_effect (body : List Byte) : s.RequestEffect type (s.owner type body).1 := by
  unfold State.owner
  split
  · exact s.requestLineSet_effect type body
  · exact s.requestSegmentSet_effect type body
  · exact s.requestStationSet_effect type body
  · exact s.requestBusSet_effect type body
  · exact s.requestCommit_effect type
  · next ht => exact s.requestUncommit_effect type ht
  · exact .acts (s.requestStart_acts _)
  · exact .acts (s.requestMode_acts _)
  · exact .acts s.requestStop_acts
  · exact .acts s.requestHalt_acts
  · exact .acts s.requestRecover_acts
  · exact .acts (s.requestStepGrant_acts _)
  · exact .acts (s.requestHold_acts _)
  · exact .acts (s.requestContinue_acts _)
  · exact .acts s.requestRestart_acts
  · exact .acts (s.requestBypass_acts _ _)
  · exact .acts (s.requestAbortCycle_acts _)
  · exact .acts (s.requestClearFault_acts _ _)
  · exact s.requestPalletDefine_effect type _ _
  · exact s.requestPalletDelete_effect type _
  · exact .acts (s.requestPalletRead_acts _)
  · exact .acts (s.requestPlace_acts _ _)
  · exact .acts (s.requestRemove_acts _)
  · exact .acts s.requestAcceptTag_acts
  · exact .acts (s.requestConfirm_acts _)
  · exact .acts (s.requestMapRead_acts _ _)
  · exact .acts (s.requestReserveSet_acts _)
  · exact .acts (s.requestStatus_acts _)
  · exact .acts (.refl s)
  · exact .acts (s.requestEventsTake_acts _)
  · exact .acts (.refl s)

theorem State.answer_effect (f : Frame) : s.RequestEffect f.type (s.answer f).1 := by
  unfold State.answer
  split
  · exact .acts (.refl s)
  · split
    · exact .acts (.refl s)
    · exact s.owner_effect f.type f.body

end

theorem State.RequestEffect.shaped {s u : State} {type : Byte} (h : s.RequestEffect type u) (hs : s.shaped) :
    u.shaped := by
  cases h with
  | acts h => exact h.shaped hs
  | records c hl hc hd =>
    have ho := hs.1 hl
    exact ⟨fun _ => { ho with committed := hc.trans ho.committed, derived := hd.trans ho.derived },
      fun hn => absurd hl hn⟩
  | pallets l hl =>
    refine ⟨fun hc => { hs.1 hc with unplaced := fun p hp => ?_ }, fun hn => (hs.2 hn).of_units rfl⟩
    exact (hl p hp).elim ((hs.1 hc).unplaced p) id
  | commit hl hf => exact (State.closeEvent_acts _).shaped (State.commitLine_shaped hf)
  | uncommit ht hl => exact s.uncommitLine_shaped

/-- In service only UNCOMMIT changes the configuration store (R2). -/
theorem State.RequestEffect.cfg {s u : State} {type : Byte} (h : s.RequestEffect type u)
    (hs : s.lsv.lineState ≠ .config) (ht : type.toNat ≠ 0x15) : u.cfg = s.cfg := by
  cases h with
  | acts h => exact congrArg Units.cfg h.units
  | records c hl hc hd => exact absurd hl hs
  | pallets l hl => rfl
  | commit hl hf => exact absurd hl hs
  | uncommit ht' hl => exact absurd ht' ht

/-! ## The cell link -/

theorem State.takeFrame_shaped {s : State} (f : Frame) (rest : List Frame) (hs : s.shaped) :
    (s.takeFrame f rest).shaped := by
  have hx : (s.modClp fun c => { c with requests := rest }).shaped := hs.of_blocks rfl
  exact ((State.answer_effect _ f).shaped hx).of_blocks rfl

theorem State.takeFrames_shaped (n : Nat) {s : State} (hs : s.shaped) : (State.takeFrames n s).shaped := by
  induction n generalizing s with
  | zero => exact hs
  | succ n ih =>
    unfold State.takeFrames
    split
    · exact hs
    · split
      · exact ih (State.takeFrame_shaped _ _ hs)
      · exact hs

theorem State.offer_shaped {s : State} (f : Frame) (hs : s.shaped) : (s.offer f).shaped := by
  unfold State.offer
  split
  · exact State.takeFrames_shaped _ (hs.of_blocks rfl)
  · exact hs.of_blocks rfl

theorem State.judgeFrame_shaped {s : State} (type tag : Byte) (body : List Byte) (check : BitVec 16)
    (hs : s.shaped) : (s.judgeFrame type tag body check).shaped := by
  unfold State.judgeFrame
  split
  · exact State.offer_shaped _ (hs.of_blocks rfl)
  · exact hs.of_blocks rfl

theorem State.frameArrives_shaped {s : State} (type tag : Byte) (body : List Byte) (check : BitVec 16)
    (hs : s.shaped) : (s.frameArrives type tag body check).shaped := by
  unfold State.frameArrives
  split
  · exact hs.of_blocks rfl
  · exact State.judgeFrame_shaped _ _ _ _ hs

theorem State.byteArrives_shaped {s : State} (b : Byte) (hs : s.shaped) : (s.byteArrives b).shaped := by
  unfold State.byteArrives
  split
  · split
    · exact hs.of_blocks rfl
    · exact hs
  · unfold State.assemble
    split
    · exact hs.of_blocks rfl
    · split
      · exact State.judgeFrame_shaped _ _ _ _ hs
      · exact hs.of_blocks rfl

theorem State.replyEnds_shaped {s : State} (br : BitVec 2) (hs : s.shaped) : (s.replyEnds br).shaped := by
  unfold State.replyEnds
  dsimp only
  split
  · exact hs
  · split
    · exact (State.afterReset_acts _ _ _).shaped State.reset_shaped
    · exact State.takeFrames_shaped _ (hs.of_blocks rfl)

theorem State.replyStarts_blocks (s : State) (cts : Bool) : (s.replyStarts cts).blocks = s.blocks := by
  unfold State.replyStarts
  dsimp only
  split
  · split <;> rfl
  · rfl

theorem State.gapExpires_blocks (s : State) : s.gapExpires.blocks = s.blocks := by
  unfold State.gapExpires
  split
  · rfl
  · split <;> rfl

theorem State.framingFails_blocks (s : State) : s.framingFails.blocks = s.blocks := by
  unfold State.framingFails
  split <;> rfl

end Sys2Proof.Machine
end

section
/-! PROOF. The timers and the bus in CONFIG and in service, and the commands by what they can do. -/

namespace Sys2Proof.Machine

/-! ## With nothing in service no timer runs -/

namespace State.OutOfService
variable {s : State} (h : s.OutOfService)
include h

theorem station_fresh (n : Nat) : s.station n = Station.fresh := by
  rw [State.station, h.stations]; rfl

theorem seg_fresh (k : Nat) : s.seg k = Segment.fresh := by
  rw [State.seg, h.segments]; rfl

theorem conv_fresh (c : ConvId) : s.conv c = Conveyor.fresh := by
  rw [State.conv, h.conveyors]; rfl

theorem no_stationTimer (n : Nat) (p : TimerPurpose) : s.stationTimerDue n p = false := by
  rw [State.stationTimerDue, h.station_fresh]; rfl

theorem no_stations (k : Nat) : s.stationsOn k = [] := by
  rw [State.stationsOn, h.stations]; rfl

theorem window_none : s.sbm.window = none := by
  obtain hb | hb := h.bus
  · rw [hb]; rfl
  · rw [hb]

theorem clampExpires_eq (n : Nat) : s.clampExpires n = s := by
  simp [State.clampExpires, h.no_stationTimer]

theorem settleTimerExpires_eq (n : Nat) : s.settleTimerExpires n = s := by
  simp [State.settleTimerExpires, h.no_stationTimer]

theorem cycleExpires_eq (n : Nat) : s.cycleExpires n = s := by
  simp [State.cycleExpires, h.no_stationTimer]

theorem unclampExpires_eq (n : Nat) : s.unclampExpires n = s := by
  simp [State.unclampExpires, h.no_stationTimer]

theorem commonExpires_eq (k : Nat) : s.commonExpires k = s := by
  simp [State.commonExpires, h.no_stations]

theorem stationClearExpires_eq (n : Nat) : s.stationClearExpires n = s := by
  simp [State.stationClearExpires, h.no_stationTimer]

theorem phaseExpires_eq (k : Nat) : s.phaseExpires k = s := by
  simp [State.phaseExpires, h.seg_fresh, Segment.fresh]

theorem feedWaitExpires_eq (k : Nat) : s.feedWaitExpires k = s := by
  simp [State.feedWaitExpires, h.seg_fresh, Segment.fresh]

theorem segClearExpires_eq (k : Nat) : s.segClearExpires k = s := by
  simp [State.segClearExpires, h.seg_fresh, Segment.fresh]

theorem evaluationExpires_eq : s.evaluationExpires = s := by
  simp [State.evaluationExpires, h.admission, Ada.reset]

theorem urgencyExpires_eq (k : Nat) : s.urgencyExpires k = s := by
  simp [State.urgencyExpires, h.admission, Ada.reset]

theorem hExpires_eq : s.hExpires = s := by
  have hp : s.ada.prune s.cfg.line s.clock = s.ada := by rw [h.admission]; rfl
  rw [State.hExpires, State.modAda, hp]

theorem staggerExpires_eq : s.staggerExpires = s := by
  simp [State.staggerExpires, h.admission, Ada.reset]

theorem periodExpires_eq (k : Nat) : s.periodExpires k = s := by
  simp [State.periodExpires, h.admission, Ada.reset, tableGet]

theorem travelExpires_eq (c : ConvId) : s.travelExpires c = s := by
  simp [State.travelExpires, h.conv_fresh, Conveyor.fresh]

theorem travelExpiresAt_eq (number : Nat) : s.travelExpiresAt number = s := by
  unfold State.travelExpiresAt
  split
  · exact h.travelExpires_eq _
  · rfl

theorem tagReadExpires_eq : s.tagReadExpires = s := by
  simp [State.tagReadExpires, h.tag]

theorem replyHeard_eq (chars : List BusChar) : s.replyHeard chars = s := by
  simp [State.replyHeard, h.window_none]

theorem windowExpires_eq : s.windowExpires = s := by
  simp [State.windowExpires, h.window_none]

end State.OutOfService

/-! ## The timers and replies in service -/

@[simp] theorem State.settleTimerExpires_fixed (s : State) (n : Nat) :
    (s.settleTimerExpires n).fixed = s.fixed := by
  unfold State.settleTimerExpires
  split <;> simp

@[simp] theorem State.evaluationExpires_fixed (s : State) : s.evaluationExpires.fixed = s.fixed := by
  unfold State.evaluationExpires
  (repeat' split) <;> simp

@[simp] theorem State.urgencyExpires_fixed (s : State) (k : Nat) : (s.urgencyExpires k).fixed = s.fixed := by
  unfold State.urgencyExpires
  split <;> simp

@[simp] theorem State.hExpires_fixed (s : State) : s.hExpires.fixed = s.fixed := by
  simp [State.hExpires]

@[simp] theorem State.staggerExpires_fixed (s : State) : s.staggerExpires.fixed = s.fixed := by
  unfold State.staggerExpires
  (repeat' split) <;> simp

@[simp] theorem State.periodExpires_fixed (s : State) (k : Nat) : (s.periodExpires k).fixed = s.fixed := by
  unfold State.periodExpires
  (repeat' split) <;> simp

@[simp] theorem State.travelExpiresAt_fixed (s : State) (number : Nat) :
    (s.travelExpiresAt number).fixed = s.fixed := by
  unfold State.travelExpiresAt
  split <;> simp

/-- An effect of a timer or a node: it keeps the view `fixed`, and with nothing in service it has none. -/
theorem State.ActsInService.of_idle {s u : State} (ho : s.lsv.lineState = .config → s.OutOfService)
    (hf : u.fixed = s.fixed) (hc : s.OutOfService → u = s) : s.ActsInService u :=
  ⟨fun hl => by rw [hc (ho hl)], fun hl => lineState_of_fixed hf ▸ hl, units_of_fixed hf⟩

theorem State.closeWindow_acts {s : State} (hs : s.lsv.lineState ≠ .config) : s.ActsInService s.closeWindow :=
  .of_units hs hs rfl

/-- A reply heard adds and removes no unit (R162 to R164). -/
theorem State.replyHeard_acts {s : State} (hs : s.lsv.lineState ≠ .config) (chars : List BusChar) :
    s.ActsInService (s.replyHeard chars) := by
  have hw := State.closeWindow_acts hs
  unfold State.replyHeard
  split
  · exact .refl s
  · split
    · exact hw
    · split
      · exact hw.trans (.of_fixed hs (State.goodReply_fixed ..))
      · exact hw.trans (.of_fixed hs (State.nodeMisses_fixed ..))

theorem State.windowExpires_acts {s : State} (hs : s.lsv.lineState ≠ .config) :
    s.ActsInService s.windowExpires := by
  have hw := State.closeWindow_acts hs
  unfold State.windowExpires
  split
  · exact .refl s
  · split
    · exact hw
    · split
      · exact hw
      · exact hw.trans (.of_fixed hs (State.nodeMisses_fixed ..))

theorem State.ActsInService.of_cases {s u : State} (ho : s.lsv.lineState = .config → s.OutOfService)
    (hc : s.OutOfService → u = s) (hs : s.lsv.lineState ≠ .config → s.ActsInService u) : s.ActsInService u := by
  by_cases hl : s.lsv.lineState = .config
  · rw [hc (ho hl)]
    exact .refl s
  · exact hs hl

/-! ## The scan -/

@[simp] theorem Node.polled_role (n : Node) : n.polled.role = n.role := by
  unfold Node.polled
  split <;> rfl

theorem State.scanStarts_units (s : State) : s.scanStarts.units = s.units := by
  unfold State.scanStarts
  split
  · rfl
  · split <;> rfl

theorem State.scanStarts_lsv (s : State) : s.scanStarts.lsv = s.lsv := by
  unfold State.scanStarts
  split
  · rfl
  · split <;> rfl

theorem State.slotPolls_units (s : State) (slot : Nat) : (s.slotPolls slot).units = s.units := by
  have hpoll (a : Nat) : (s.modNode a Node.polled).units = s.units := units_of_fixed (by simp)
  unfold State.slotPolls
  split
  · rfl
  · split
    · rfl
    · split
      · split
        · rfl
        · exact (show _ = (s.modNode _ Node.polled).units from rfl).trans (hpoll _)
      · rfl

theorem State.slotPolls_lsv (s : State) (slot : Nat) : (s.slotPolls slot).lsv = s.lsv := by
  unfold State.slotPolls
  split
  · rfl
  · split
    · rfl
    · split
      · split <;> rfl
      · rfl

/-- In CONFIG the bus is silent or runs the slot that was in progress to its end (R159). -/
theorem State.OutOfService.fallSilent {s : State} (h : s.OutOfService) : s.fallSilent.OutOfService :=
  { h with
    bus := .inl (by obtain hb | hb := h.bus <;> rw [State.fallSilent, State.modSbm, hb] <;> rfl) }

theorem State.OutOfService.scan_silent {s : State} (h : s.OutOfService) (hs : s.sbm.scan ≠ .ending) :
    s.sbm.scan = .silent := by
  obtain hb | hb := h.bus
  · rw [hb]; rfl
  · exact absurd (congrArg Sbm.scan hb) hs

theorem State.OutOfService.schedule {s : State} (h : s.OutOfService) : s.sbm.schedule = [] := by
  obtain hb | hb := h.bus
  · rw [hb]; rfl
  · rw [hb]

theorem State.OutOfService.scanStarts {s : State} (h : s.OutOfService) : s.scanStarts.OutOfService := by
  unfold State.scanStarts
  split
  · exact h.fallSilent
  · next hs =>
    have hat (n : Nat) : s.sbm.atSlot n = false := by simp [Sbm.atSlot, h.scan_silent hs]
    rw [hat]
    exact h

theorem State.OutOfService.slotPolls {s : State} (h : s.OutOfService) (slot : Nat) :
    (s.slotPolls slot).OutOfService := by
  unfold State.slotPolls
  split
  · exact h.fallSilent
  · rw [h.schedule]
    exact h

theorem State.scanStarts_shaped {s : State} (hs : s.shaped) : s.scanStarts.shaped := by
  refine ⟨fun hl => (hs.1 ?_).scanStarts, fun hl => (hs.2 ?_).of_units s.scanStarts_units⟩ <;>
    rwa [State.scanStarts_lsv] at hl

theorem State.slotPolls_shaped {s : State} (slot : Nat) (hs : s.shaped) : (s.slotPolls slot).shaped := by
  refine ⟨fun hl => (hs.1 ?_).slotPolls slot, fun hl => (hs.2 ?_).of_units (s.slotPolls_units slot)⟩ <;>
    rwa [State.slotPolls_lsv] at hl

/-! ## The commands by what they can do -/

/-- What a command can do: reset the part, let a request's frame arrive, take bytes or frames of the link, move the
scan, or take a timer, a reply of a node or a level of ESTOP_IN, which acts on a line in service. -/
inductive CommandEffect (c : Instr) (s : State) : State → Prop
  | reset (estop : Bool) (br : BitVec 2) (hc : c = .hardwareReset estop br) :
      CommandEffect c s (State.afterReset s.pending estop br)
  | request (t : LineTime) (type tag : Byte) (body : List Byte)
      (ht : carriesFrames c = false → (∀ t tag, c ≠ .uncommit t tag) → type.toNat ≠ 0x15) :
      CommandEffect c s ((s.at t).requestArrives type tag body)
  | frame (t : LineTime) (type tag : Byte) (body : List Byte) (check : BitVec 16)
      (hc : carriesFrames c = true) : CommandEffect c s ((s.at t).frameArrives type tag body check)
  | byte (t : LineTime) (b : Byte) (hc : carriesFrames c = true) : CommandEffect c s ((s.at t).byteArrives b)
  | replyEnd (t : LineTime) (br : BitVec 2) (hc : carriesFrames c = true) :
      CommandEffect c s ((s.at t).replyEnds br)
  | scan (t : LineTime) : CommandEffect c s (s.at t).scanStarts
  | poll (t : LineTime) (slot : Nat) : CommandEffect c s ((s.at t).slotPolls slot)
  | acts {u : State} (h : (s.lsv.lineState = .config → s.OutOfService) → s.ActsInService u) :
      CommandEffect c s u

theorem State.at_acts (s : State) (t : LineTime) : s.ActsInService (s.at t) := .of_blocks rfl

theorem State.OutOfService.at {s : State} (h : s.OutOfService) (t : LineTime) : (s.at t).OutOfService :=
  h.of_blocks rfl

/-- A timer's command: the clock and the timer's effect. -/
theorem CommandEffect.of_timer {c : Instr} {s : State} (t : LineTime) {u : State}
    (hf : u.fixed = (s.at t).fixed) (hc : (s.at t).OutOfService → u = s.at t) : CommandEffect c s u :=
  .acts fun ho => (s.at_acts t).trans (.of_idle (fun hl => (ho hl).at t) hf hc)

/-- A timer's command with the end of the event after it. -/
theorem CommandEffect.of_timerEvent {c : Instr} {s : State} (t : LineTime) {u : State}
    (hf : u.fixed = (s.at t).fixed) (hc : (s.at t).OutOfService → u = s.at t) : CommandEffect c s u.closeEvent :=
  .acts fun ho =>
    ((s.at_acts t).trans (.of_idle (fun hl => (ho hl).at t) hf hc)).trans u.closeEvent_acts

theorem exec_effect {c : Instr} {s u : State} (h : exec c s = .next u) : CommandEffect c s u := by
  cases c <;> injection h with h <;> subst h
  case hardwareReset estop br => exact .reset estop br rfl
  case estopInAsserted t =>
    refine .acts fun _ => (s.at_acts t).trans ?_
    split
    · exact (State.estopOn_acts _).trans (State.closeEvent_acts _)
    · exact .refl _
  case estopInReleased t =>
    refine .acts fun _ => (s.at_acts t).trans ?_
    split
    · exact State.estopOff_acts _
    · exact .refl _
  case frameReceived t type tag body check => exact .frame t type tag body check rfl
  case cellLinkByteReceived t b => exact .byte t b rfl
  case replySendEnd t br => exact .replyEnd t br rfl
  case frameLengthInvalid t => exact .acts fun _ => .of_blocks rfl
  case framingError t => exact .acts fun _ => .of_blocks ((s.at t).framingFails_blocks.trans rfl)
  case gapTimerExpiry t => exact .acts fun _ => .of_blocks ((s.at t).gapExpires_blocks.trans rfl)
  case replySendStart t cts => exact .acts fun _ => .of_blocks (((s.at t).replyStarts_blocks cts).trans rfl)
  case unknownRequestType t type tag body =>
    refine .request t type tag body fun hc _ ht => ?_
    have : type = 0x15 := BitVec.eq_of_toNat_eq ht
    subst this
    exact absurd (show requestTypeCodes.contains 0x15 = false from hc) (by decide)
  case uncommit t tag => exact .request t _ tag _ fun _ hn => absurd rfl (hn t tag)
  case scanStart t => exact .scan t
  case slotPoll t slot => exact .poll t slot
  case nodeReply t chars =>
    exact .acts fun ho => (s.at_acts t).trans ((State.ActsInService.of_cases (s := s.at t) (fun hl => (ho hl).at t)
      (fun hc => hc.replyHeard_eq chars) (fun hs => State.replyHeard_acts hs chars)).trans
      (State.closeEvent_acts _))
  case responseWindowExpiry t =>
    exact .acts fun ho => (s.at_acts t).trans ((State.ActsInService.of_cases (s := s.at t) (fun hl => (ho hl).at t)
      (fun hc => hc.windowExpires_eq) State.windowExpires_acts).trans (State.closeEvent_acts _))
  case clampTimeout t n => exact .of_timerEvent t (by simp) fun ho => ho.clampExpires_eq n
  case settleExpiry t n => exact .of_timerEvent t (by simp) fun ho => ho.settleTimerExpires_eq n
  case cycleTimeout t n => exact .of_timerEvent t (by simp) fun ho => ho.cycleExpires_eq n
  case unclampTimeout t n => exact .of_timerEvent t (by simp) fun ho => ho.unclampExpires_eq n
  case commonTimerExpiry t k => exact .of_timerEvent t (by simp) fun ho => ho.commonExpires_eq k
  case stationClearTimeout t n =>
    exact .of_timerEvent t (by simp) fun ho => ho.stationClearExpires_eq n
  case phaseTimeout t k => exact .of_timerEvent t (by simp) fun ho => ho.phaseExpires_eq k
  case feedWaitExpiry t k => exact .of_timerEvent t (by simp) fun ho => ho.feedWaitExpires_eq k
  case segmentClearTimeout t k => exact .of_timerEvent t (by simp) fun ho => ho.segClearExpires_eq k
  case evaluationTimerExpiry t => exact .of_timerEvent t (by simp) fun ho => ho.evaluationExpires_eq
  case urgencyExpiry t k => exact .of_timer t (by simp) fun ho => ho.urgencyExpires_eq k
  case hEntryExpiry t => exact .of_timer t (by simp) fun ho => ho.hExpires_eq
  case staggerExpiry t => exact .of_timer t (by simp) fun ho => ho.staggerExpires_eq
  case periodExpiry t k => exact .of_timer t (by simp) fun ho => ho.periodExpires_eq k
  case travelTimeout t n => exact .of_timerEvent t (by simp) fun ho => ho.travelExpiresAt_eq n
  case tagReadTimeout t => exact .of_timerEvent t (by simp) fun ho => ho.tagReadExpires_eq
  all_goals exact .request _ _ _ _ fun _ _ => by decide

/-- Every command keeps the shape. -/
theorem CommandEffect.shaped {c : Instr} {s u : State} (h : CommandEffect c s u) (hs : s.shaped) : u.shaped := by
  have hat (t : LineTime) : (s.at t).shaped := hs.of_blocks rfl
  cases h with
  | reset estop br hc => exact (State.afterReset_acts _ _ _).shaped State.reset_shaped
  | request t type tag body ht => exact State.frameArrives_shaped _ _ _ _ (hat t)
  | frame t type tag body check hc => exact State.frameArrives_shaped _ _ _ _ (hat t)
  | byte t b hc => exact State.byteArrives_shaped b (hat t)
  | replyEnd t br hc => exact State.replyEnds_shaped br (hat t)
  | scan t => exact State.scanStarts_shaped (hat t)
  | poll t slot => exact State.slotPolls_shaped slot (hat t)
  | acts h => exact (h hs.1).shaped hs

/-- Settles O27, by what the command at the front of the queue can do. -/
theorem everyStepKeepsTheShape : Obligations.EveryStepKeepsTheShape := by
  intro s u hs hstep
  unfold step at hstep
  split at hstep
  · injection hstep with hstep
    exact hstep ▸ hs
  · exact (exec_effect hstep).shaped (hs.of_blocks rfl)

/-- A frame that arrives at a ready link of a line in service changes the configuration store only as UNCOMMIT
(R2). -/
theorem State.requestArrives_cfg {s : State} (hr : s.linkReady) (hs : s.lsv.lineState ≠ .config) (t : LineTime)
    (type tag : Byte) (body : List Byte) (ht : type.toNat ≠ 0x15) :
    ((s.at t).requestArrives type tag body).cfg = s.cfg := by
  by_cases hb : body.length ≤ Config.maxBody
  · rw [State.requestArrives_ready hr t type tag body hb]
    exact (State.answer_effect (s.taking t) { type := type, tag := tag, body := body }).cfg hs ht
  · rw [State.requestArrives, State.frameArrives, if_pos (Nat.lt_of_not_le hb)]
    rfl

/-- In service a command that takes no frame but its own leaves the configuration store alone, but for a reset and
UNCOMMIT (R2). -/
theorem CommandEffect.cfg {c : Instr} {s u : State} (h : CommandEffect c s u) (hr : s.linkReady)
    (hs : s.lsv.lineState ≠ .config) (hf : carriesFrames c = false)
    (hreset : ∀ estop br, c ≠ .hardwareReset estop br) (hun : ∀ t tag, c ≠ .uncommit t tag) : u.cfg = s.cfg := by
  cases h with
  | reset estop br hc => exact absurd hc (hreset estop br)
  | request t type tag body ht => exact State.requestArrives_cfg hr hs t type tag body (ht hf hun)
  | frame t type tag body check hc => simp [hf] at hc
  | byte t b hc => simp [hf] at hc
  | replyEnd t br hc => simp [hf] at hc
  | scan t => exact congrArg Units.cfg (State.scanStarts_units (s.at t))
  | poll t slot => exact congrArg Units.cfg (State.slotPolls_units (s.at t) slot)
  | acts h => exact congrArg Units.cfg (h fun hl => absurd hl hs).units

/-! ## The configuration store (R2) -/

theorem State.afterReset_cfg (waiting : List Instr) (estop : Bool) (br : BitVec 2) :
    (State.afterReset waiting estop br).cfg = .reset :=
  congrArg Units.cfg (State.afterReset_acts waiting estop br).units

/-- The last byte of RESTART's reply resets the part (R156). -/
theorem State.replyEnds_restarting {s : State} {frame : List Byte} {r : Reply} (hs : s.clp.sending = some frame)
    (hr : s.clp.replies = [r]) (hres : s.clp.restarting = true) (br : BitVec 2) :
    s.replyEnds br = State.afterReset s.pending s.lsv.estop br := by
  simp [State.replyEnds, hs, hr, hres]

theorem ConfigStore.reset_failure : ConfigStore.reset.failure = some (3, { kind := .line, number := 0 }) := by
  decide

theorem ConfigStore.reset_seg {k : Nat} (h1 : 1 ≤ k) (h4 : k ≤ 4) : ConfigStore.reset.seg k = .default := by
  interval_cases k <;> rfl

theorem Sbm.uncommitted_schedule (b : Sbm) : b.uncommitted.schedule = [] := by
  obtain hb | hb := b.uncommitted_silent_or_ending
  · rw [hb]; rfl
  · rw [hb]

/-- A COMMIT that fails at a check (R10). -/
theorem State.requestCommit_failing {s : State} (hl : s.lsv.lineState = .config) {n : Nat} {subject : Subject}
    (hf : s.cfg.failure = some (n, subject)) : s.requestCommit = (s, .check n subject) := by
  simp [State.requestCommit, hl, hf]

theorem State.requestUncommit_idle {s : State} (hl : s.lsv.lineState = .idle) :
    s.requestUncommit = (s.uncommitLine, okEmpty) := by
  simp [State.requestUncommit, hl]

/-- Settles O4: the resets, COMMIT right after one, UNCOMMIT, and the commands that leave the store alone. -/
theorem configurationStoreIsKeptAsR2Says : Obligations.ConfigurationStoreIsKeptAsR2Says := by
  refine ⟨?_, ?_, ⟨rfl, rfl, fun k => ConfigStore.reset_seg, rfl, fun _ => rfl, rfl⟩, ?_, ?_, ?_⟩
  · intro estop br s u h
    injection h with h
    exact h ▸ State.afterReset_cfg _ _ _
  · intro t br s u frame r hs hr hres h
    injection h with h
    rw [← h, State.replyEnds_restarting (s := s.at t) hs hr hres]
    exact State.afterReset_cfg _ _ _
  · intro t tag
    have hready : State.reset.linkReady := ⟨rfl, by decide, rfl⟩
    rw [exec_commit hready, State.requestCommit_failing (s := State.reset.taking t) rfl ConfigStore.reset_failure]
  · intro t tag s u hr hl h
    rw [exec_uncommit hr, State.requestUncommit_idle (s := s.taking t) hl] at h
    injection h with h
    subst h
    exact ⟨rfl, rfl, rfl, Sbm.uncommitted_schedule _⟩
  · intro c s u hr hl hf hreset hun h
    exact (exec_effect h).cfg hr hl hf hreset hun

end Sys2Proof.Machine
end

section
/-! PROOF. The SET requests: what the fields of a body spell, which field is the first that fails, and what is
stored (R3 to R7). -/

namespace Sys2Proof.Machine

/-! ## The first bad field

A row is a field's value with its range; `firstBad` names the first row out of its range. -/

/-- The ranges and the values of the rows, walked together, name the first bad row. -/
theorem firstOutside_rows (i : Nat) (rows : List (Nat × Nat × Nat)) :
    firstOutside i (rows.map (·.2)) (rows.map (·.1)) = firstBad i rows := by
  induction rows generalizing i with
  | nil => rfl
  | cons row rest ih =>
    obtain ⟨v, lo, hi⟩ := row
    rw [firstBad]
    split
    · next h => exact (firstOutside_inside h).trans (ih (i + 1))
    · next h => exact firstOutside_outside (by dsimp only; omega)

/-- Values beyond the last range are not looked at. -/
theorem firstOutside_append (i : Nat) (ranges : List (Nat × Nat)) (values more : List Nat)
    (h : ranges.length ≤ values.length) :
    firstOutside i ranges (values ++ more) = firstOutside i ranges values := by
  induction ranges generalizing i values with
  | nil => cases values <;> simp [firstOutside]
  | cons range rest ih =>
    obtain ⟨lo, hi⟩ := range
    cases values with
    | nil => simp at h
    | cons v values =>
      simp only [List.cons_append, firstOutside]
      rw [ih (i + 1) values (by simpa using h)]

theorem firstBad_eq_none {i : Nat} {rows : List (Nat × Nat × Nat)} :
    firstBad i rows = none ↔ ∀ row ∈ rows, row.2.1 ≤ row.1 ∧ row.1 ≤ row.2.2 := by
  induction rows generalizing i with
  | nil => simp [firstBad]
  | cons row rest ih =>
    obtain ⟨v, lo, hi⟩ := row
    rw [firstBad, List.forall_mem_cons]
    split
    · next h => exact ih.trans ⟨fun hr => ⟨h, hr⟩, fun hr => hr.2⟩
    · next h => exact ⟨nofun, fun hr => absurd hr.1 h⟩

theorem firstBad_append (i : Nat) (a b : List (Nat × Nat × Nat)) :
    firstBad i (a ++ b) = (firstBad i a).or (firstBad (i + a.length) b) := by
  induction a generalizing i with
  | nil => rfl
  | cons row rest ih =>
    obtain ⟨v, lo, hi⟩ := row
    simp only [List.cons_append, firstBad, List.length_cons]
    split
    · rw [ih, Nat.add_right_comm, Nat.add_assoc]
    · rfl

/-- A row in its range may stand for another in its range. -/
theorem firstBad_set_good {i k : Nat} {rows : List (Nat × Nat × Nat)} {row new : Nat × Nat × Nat}
    (hrow : rows[k]? = some row) (hold : row.2.1 ≤ row.1 ∧ row.1 ≤ row.2.2)
    (hnew : new.2.1 ≤ new.1 ∧ new.1 ≤ new.2.2) : firstBad i (rows.set k new) = firstBad i rows := by
  induction rows generalizing i k with
  | nil => rfl
  | cons first rest ih =>
    obtain ⟨v, lo, hi⟩ := first
    cases k with
    | zero =>
      obtain rfl : (v, lo, hi) = row := by simpa using hrow
      simp [firstBad, hold.1, hold.2, hnew.1, hnew.2]
    | succ k =>
      simp only [List.set_cons_succ, firstBad]
      rw [ih (by simpa using hrow)]

/-- A bad row among good ones is the first bad one. -/
theorem firstBad_set_bad {i k : Nat} {rows : List (Nat × Nat × Nat)} {new : Nat × Nat × Nat}
    (hgood : firstBad i rows = none) (hk : k < rows.length) (hnew : ¬(new.2.1 ≤ new.1 ∧ new.1 ≤ new.2.2)) :
    firstBad i (rows.set k new) = some (i + k) := by
  induction rows generalizing i k with
  | nil => simp at hk
  | cons first rest ih =>
    obtain ⟨v, lo, hi⟩ := first
    obtain ⟨nv, nlo, nhi⟩ := new
    rw [firstBad] at hgood
    split at hgood
    · next h =>
      cases k with
      | zero => simp [firstBad, hnew]
      | succ k =>
        rw [List.set_cons_succ, firstBad, if_pos h, ih hgood (by simpa using hk), Nat.add_assoc, Nat.add_comm 1]
    · cases hgood

/-! ## Bodies -/

@[simp] theorem parseFields_nil (rest : List Byte) : parseFields [] rest = [] := rfl

theorem flagByte_le (b : Bool) : (flagByte b).toNat ≤ 1 := by cases b <;> decide

/-- A byte of a body replaced. -/
theorem set_byte {a c : List Byte} {x y : Byte} {k : Nat} (h : a.length = k) :
    (a ++ x :: c).set k y = a ++ y :: c := by
  simp [← h]

/-! ## LINE SET -/

/-- The bytes of a LINE SET before SKIP_REJECTS. -/
def LineRecord.front (r : LineRecord) : List Byte :=
  [byteOf r.nseg, byteOf r.capB1, byteOf r.capB2, byteOf r.capB3, byteOf r.capVs, byteOf r.capRc]
    ++ beBytes 4 r.travelB1 ++ beBytes 4 r.travelB2 ++ beBytes 4 r.travelB3 ++ beBytes 4 r.travelVs
    ++ beBytes 4 r.travelRc
    ++ [byteOf r.nodeB1, byteOf r.nodeB2, byteOf r.nodeB3, byteOf r.nodeVs, byteOf r.nodeRc,
        byteOf r.nodeReader, byteOf r.nodeVerify, byteOf r.nodeHpu]
    ++ beBytes 2 r.cap ++ beBytes 2 r.f ++ beBytes 2 r.q ++ [byteOf r.wMax] ++ beBytes 2 r.tWindow
    ++ beBytes 2 r.tStagger ++ beBytes 4 r.tUrgent ++ beBytes 2 r.tRead
    ++ [byteOf r.vLaps, byteOf r.vGrace, byteOf r.m]

/-- The body of a LINE SET with the byte `b` for SKIP_REJECTS. -/
def LineRecord.bytesWith (r : LineRecord) (b : Byte) : List Byte := r.front ++ b :: beBytes 2 r.firstSerial

theorem LineRecord.front_length (r : LineRecord) : r.front.length = 54 := by
  simp [LineRecord.front]

theorem LineRecord.bytes_eq (r : LineRecord) : r.bytes = r.bytesWith (flagByte r.skipRejects) := by
  simp [LineRecord.bytes, LineRecord.bytesWith, LineRecord.front]

theorem LineRecord.bytes_set (r : LineRecord) (b : Byte) : r.bytes.set 54 b = r.bytesWith b := by
  rw [r.bytes_eq, LineRecord.bytesWith, set_byte r.front_length, LineRecord.bytesWith]

@[simp] theorem LineRecord.bytesWith_length (r : LineRecord) (b : Byte) : (r.bytesWith b).length = 57 := by
  simp [LineRecord.bytesWith, r.front_length]

/-- The rows of a LINE SET with the value `v` for SKIP_REJECTS. -/
def LineRecord.rows (r : LineRecord) (v : Nat) : List (Nat × Nat × Nat) := r.checks.set 30 (v, 0, 1)

theorem LineRecord.checks_length (r : LineRecord) : r.checks.length = 32 := rfl

/-- The fields of a LINE SET are the values of its rows. -/
theorem LineRecord.parse {r : LineRecord} (h : r.fits) (b : Byte) (extra : List Byte) :
    parseFields lineWidths (r.bytesWith b ++ extra) = (r.rows b.toNat).map (·.1) := by
  obtain ⟨h1, h2, h4⟩ := h
  simp only [List.forall_mem_cons, List.not_mem_nil, false_implies, implies_true, and_true] at h1 h2 h4
  simp only [LineRecord.bytesWith, LineRecord.front, List.append_assoc, List.cons_append, List.nil_append,
    lineWidths, parseFields_byte, parseFields_beBytes, parseFields_nil, byteOf_toNat, LineRecord.rows,
    LineRecord.checks, List.set_cons_succ, List.set_cons_zero, List.map_cons, List.map_nil]
  simp only [Nat.reducePow, Nat.mod_eq_of_lt, h1, h2, h4]

theorem LineRecord.rows_ranges (r : LineRecord) (v : Nat) : (r.rows v).map (·.2) = lineRanges r.cap := rfl

theorem LineRecord.rows_cap (r : LineRecord) (v : Nat) : field ((r.rows v).map (·.1)) 20 = r.cap := rfl

theorem LineRecord.lineFailure_rows (r : LineRecord) (v : Nat) :
    lineFailure ((r.rows v).map (·.1)) = firstBad 1 (r.rows v) := by
  rw [lineFailure, ← firstOutside_rows, r.rows_ranges, r.rows_cap]

theorem LineRecord.rows_good (r : LineRecord) {v : Nat} (h : v ≤ 1) : firstBad 1 (r.rows v) = firstBad 1 r.checks :=
  firstBad_set_good (row := (0, 0, 1)) rfl (by decide) ⟨Nat.zero_le v, h⟩

theorem LineRecord.lineRecordOf_rows (r : LineRecord) :
    lineRecordOf ((r.rows (flagByte r.skipRejects).toNat).map (·.1)) = r := by
  cases r with
  | mk => simp [lineRecordOf, LineRecord.rows, LineRecord.checks, field]

theorem LineRecord.InRange.fits {r : LineRecord} (h : r.InRange) : r.fits := by
  obtain ⟨hnseg, hb, hvs, hrc, htravel, hnodes, hcap, hf, hq, hw, hwin, hst, hu, hread, hv, hg, hm, hserial⟩ := h
  simp only [LineRecord.fits, List.forall_mem_cons, List.not_mem_nil, false_implies, implies_true, and_true]
  omega

theorem LineRecord.InRange.checks {r : LineRecord} (h : r.InRange) (i : Nat) : firstBad i r.checks = none := by
  obtain ⟨hnseg, hb, hvs, hrc, htravel, hnodes, hcap, hf, hq, hw, hwin, hst, hu, hread, hv, hg, hm, hserial⟩ := h
  rw [firstBad_eq_none]
  simp only [LineRecord.checks, List.forall_mem_cons, List.not_mem_nil, false_implies, implies_true, and_true]
  omega

theorem State.requestLineSet_stored {s : State} (hl : s.lsv.lineState = .config) {body : List Byte}
    (hf : lineFailure (parseFields lineWidths body) = none) :
    s.requestLineSet body =
      ({ s with cfg := { s.cfg with line := lineRecordOf (parseFields lineWidths body) } }, okEmpty) := by
  simp [State.requestLineSet, hl, hf]

theorem State.requestLineSet_refused {s : State} (hl : s.lsv.lineState = .config) {body : List Byte} {i : Nat}
    (hf : lineFailure (parseFields lineWidths body) = some i) : s.requestLineSet body = (s, .arg i) := by
  simp [State.requestLineSet, hl, hf]

section
variable {s : State} (hr : s.linkReady) (hl : s.lsv.lineState = .config) (t : LineTime) (tag : Byte)
include hr hl

/-- A LINE SET in CONFIG within the ranges is stored (R3, R4). -/
theorem exec_lineSet_stored {r : LineRecord} (hin : r.InRange) (extra : List Byte) (hx : extra.length ≤ 100) :
    exec (.lineSet t tag (r.bytes ++ extra)) s =
      .next (({ s.taking t with cfg := { s.cfg with line := r } }).replied 0x10 tag (.ok [])) := by
  have hparse := LineRecord.parse hin.fits (flagByte r.skipRejects) extra
  have hgood : lineFailure (parseFields lineWidths (r.bytes ++ extra)) = none := by
    rw [r.bytes_eq, hparse, r.lineFailure_rows, r.rows_good (flagByte_le _), hin.checks]
  have hrec : lineRecordOf (parseFields lineWidths (r.bytes ++ extra)) = r := by
    rw [r.bytes_eq, hparse, r.lineRecordOf_rows]
  have hlen : r.bytes.length = 57 := by rw [r.bytes_eq, r.bytesWith_length]
  rw [exec_lineSet hr t tag _ (by simp [Config.maxBody, hlen]; omega) (by simp [hlen]),
    State.requestLineSet_stored (s := s.taking t) hl hgood, hrec]
  rfl

/-- A LINE SET in CONFIG is answered ARG with its first bad row (R3, R4). -/
theorem exec_lineSet_refused {r : LineRecord} (hf : r.fits) (b : Byte) {i : Nat}
    (hb : firstBad 1 (r.rows b.toNat) = some i) :
    exec (.lineSet t tag (r.bytesWith b)) s = .next ((s.taking t).replied 0x10 tag (.arg i)) := by
  have hparse := LineRecord.parse hf b []
  rw [List.append_nil] at hparse
  rw [exec_lineSet hr t tag _ (by simp [Config.maxBody]) (by simp),
    State.requestLineSet_refused (s := s.taking t) hl (by rw [hparse, r.lineFailure_rows, hb])]

end

/-- Settles O17: the fields are read back as the record, and no row is bad. -/
theorem lineSetStoresExactlyItsRecord : Obligations.LineSetStoresExactlyItsRecord := by
  intro t tag r extra s hr hl hin hx
  exact exec_lineSet_stored hr hl t tag hin extra hx

end Sys2Proof.Machine
end

section
/-! PROOF. SEGMENT SET, STATION SET and BUS SET: their fields, what they store, and how they are refused (R5 to R7). -/

namespace Sys2Proof.Machine

/-! ## SEGMENT SET -/

@[simp] theorem SegmentRecord.bytes_length (k : Nat) (r : SegmentRecord) : (r.bytes k).length = 23 := by
  simp [SegmentRecord.bytes]

theorem SegmentRecord.parse {k : Nat} {r : SegmentRecord} (h : r.fits k) :
    parseFields segmentWidths (r.bytes k) = (r.checks k).map (·.1) := by
  obtain ⟨h1, h2, h4⟩ := h
  simp only [List.forall_mem_cons, List.not_mem_nil, false_implies, implies_true, and_true] at h1 h2
  have hb := parseFields_beBytes 2 r.tReturnMax [] []
  rw [List.append_nil] at hb
  simp only [SegmentRecord.bytes, List.append_assoc, List.cons_append, List.nil_append, segmentWidths,
    parseFields_byte, parseFields_beBytes, hb, parseFields_nil, byteOf_toNat, SegmentRecord.checks,
    List.map_cons, List.map_nil]
  simp only [Nat.reducePow, Nat.mod_eq_of_lt, h1, h2, h4]

theorem SegmentRecord.segmentFailure_checks (k : Nat) (r : SegmentRecord) :
    segmentFailure ((r.checks k).map (·.1)) = firstBad 1 (r.checks k) := by
  rw [segmentFailure, ← firstOutside_rows]
  rfl

theorem SegmentRecord.segmentRecordOf_checks (k : Nat) (r : SegmentRecord) :
    segmentRecordOf ((r.checks k).map (·.1)) = r := rfl

theorem SegmentRecord.checks_number (k : Nat) (r : SegmentRecord) : field ((r.checks k).map (·.1)) 1 = k := rfl

theorem SegmentRecord.InRange.fits {k : Nat} {r : SegmentRecord} (h : r.InRange) (hk : k ≤ 4) : r.fits k := by
  obtain ⟨hn, hd, hl, hkk, ht, hfw, hrc, hp⟩ := h
  simp only [SegmentRecord.fits, List.forall_mem_cons, List.not_mem_nil, false_implies, implies_true, and_true]
  omega

theorem SegmentRecord.InRange.checks {k : Nat} {r : SegmentRecord} (h : r.InRange) (h1 : 1 ≤ k) (h4 : k ≤ 4) :
    firstBad 1 (r.checks k) = none := by
  obtain ⟨hn, hd, hl, hkk, ht, hfw, hrc, hp⟩ := h
  rw [firstBad_eq_none]
  simp only [SegmentRecord.checks, List.forall_mem_cons, List.not_mem_nil, false_implies, implies_true, and_true]
  omega

theorem State.requestSegmentSet_stored {s : State} (hl : s.lsv.lineState = .config) {body : List Byte}
    (hf : segmentFailure (parseFields segmentWidths body) = none) :
    s.requestSegmentSet body =
      ({ s with cfg := { s.cfg with
          segments := tableInsert (field (parseFields segmentWidths body) 1)
            (segmentRecordOf (parseFields segmentWidths body)) s.cfg.segments } }, okEmpty) := by
  simp [State.requestSegmentSet, hl, hf]

theorem State.requestSegmentSet_refused {s : State} (hl : s.lsv.lineState = .config) {body : List Byte} {i : Nat}
    (hf : segmentFailure (parseFields segmentWidths body) = some i) :
    s.requestSegmentSet body = (s, .arg i) := by
  simp [State.requestSegmentSet, hl, hf]

/-! ## STATION SET -/

/-- The bytes of a STATION SET with the bytes `kind`, `mask` and `auto` in their places. -/
def StationRecord.bytesWith (n : Nat) (r : StationRecord) (kind mask auto : Byte) : List Byte :=
  [byteOf n, kind, byteOf r.segment, byteOf r.nest, byteOf r.node, mask, auto]
    ++ beBytes 2 r.tSettle ++ beBytes 2 r.tClampMax ++ beBytes 4 r.tCycleMin ++ beBytes 4 r.tCycleMax
    ++ beBytes 2 r.tUnclampMax

theorem StationRecord.bytes_eq (n : Nat) (r : StationRecord) :
    r.bytes n = r.bytesWith n (byteOf r.kind.code) (byteOf r.mask.toNat) (flagByte r.autoRelease) := rfl

@[simp] theorem StationRecord.bytesWith_length (n : Nat) (r : StationRecord) (kind mask auto : Byte) :
    (r.bytesWith n kind mask auto).length = 21 := by
  simp [StationRecord.bytesWith]

section
variable (n : Nat) (r : StationRecord) (kind mask auto b : Byte)

theorem StationRecord.bytesWith_setKind :
    (r.bytesWith n kind mask auto).set 1 b = r.bytesWith n b mask auto := by simp [StationRecord.bytesWith]

theorem StationRecord.bytesWith_setMask :
    (r.bytesWith n kind mask auto).set 5 b = r.bytesWith n kind b auto := by simp [StationRecord.bytesWith]

theorem StationRecord.bytesWith_setAuto :
    (r.bytesWith n kind mask auto).set 6 b = r.bytesWith n kind mask b := by simp [StationRecord.bytesWith]

end

/-- The values of a STATION SET's fields. -/
def StationRecord.values (n : Nat) (r : StationRecord) (kind mask auto : Nat) : List Nat :=
  [n, kind, r.segment, r.nest, r.node, mask, auto, r.tSettle, r.tClampMax, r.tCycleMin, r.tCycleMax,
    r.tUnclampMax]

theorem StationRecord.parse {n : Nat} {r : StationRecord} (h : r.fits n) (kind mask auto : Byte) :
    parseFields stationWidths (r.bytesWith n kind mask auto) =
      r.values n kind.toNat mask.toNat auto.toNat := by
  obtain ⟨h1, h2, hmin, hmax⟩ := h
  simp only [List.forall_mem_cons, List.not_mem_nil, false_implies, implies_true, and_true] at h1 h2
  have hb := parseFields_beBytes 2 r.tUnclampMax [] []
  rw [List.append_nil] at hb
  simp only [StationRecord.bytesWith, List.append_assoc, List.cons_append, List.nil_append, stationWidths,
    parseFields_byte, parseFields_beBytes, hb, parseFields_nil, byteOf_toNat, StationRecord.values]
  simp only [Nat.reducePow, Nat.mod_eq_of_lt, h1, h2, hmin, hmax]

theorem StationKind.code_eq_three {k : StationKind} : k.code = 3 ↔ k = .machine := by
  cases k <;> decide

theorem StationKind.ofCode_code (k : StationKind) : StationKind.ofCode k.code = some k := by
  cases k <;> rfl

theorem StationKind.code_range (k : StationKind) : 1 ≤ k.code ∧ k.code ≤ 3 := by
  cases k <;> decide

theorem StationKind.byte_toNat (k : StationKind) : (byteOf k.code).toNat = k.code := by
  cases k <;> rfl

theorem StationRecord.mask_byte (r : StationRecord) : (byteOf r.mask.toNat).toNat = r.mask.toNat := by
  have hlt := r.mask.isLt
  rw [byteOf_toNat]
  omega

/-- The rows of a STATION SET whose KIND is the record's, with the values `mask` and `auto` in their places. -/
def StationRecord.rows (n : Nat) (r : StationRecord) (mask auto : Nat) : List (Nat × Nat × Nat) :=
  (((r.checks n).set 1 (r.kind.code, 0, 3)).set 5 (mask, if r.kind = .machine then 1 else 15, 15)).set 6
    (auto, 0, 1)

theorem StationRecord.rows_length (n : Nat) (r : StationRecord) (mask auto : Nat) :
    (r.rows n mask auto).length = 12 := rfl

theorem StationRecord.stationFailure_rows (n : Nat) (r : StationRecord) (mask auto : Nat) :
    stationFailure (r.values n r.kind.code mask auto) = firstBad 1 (r.rows n mask auto) := by
  have hkind : field (r.values n r.kind.code mask auto) 2 = r.kind.code := rfl
  have hmin : field (r.values n r.kind.code mask auto) 10 = r.tCycleMin := rfl
  have hpos : r.kind.code ≠ 0 := by have := r.kind.code_range; omega
  rw [stationFailure, hkind, hmin, if_neg hpos, ← firstOutside_rows]
  simp only [stationRanges, StationKind.code_eq_three]
  rfl

theorem StationRecord.rows_good (n : Nat) (r : StationRecord) {auto : Nat} (ha : auto ≤ 1) :
    firstBad 1 (r.rows n r.mask.toNat auto) = firstBad 1 (r.checks n) := by
  have hk := r.kind.code_range
  calc firstBad 1 (r.rows n r.mask.toNat auto)
      = firstBad 1 (((r.checks n).set 1 (r.kind.code, 0, 3)).set 6 (auto, 0, 1)) := rfl
    _ = firstBad 1 ((r.checks n).set 1 (r.kind.code, 0, 3)) :=
        firstBad_set_good (row := (0, 0, 1)) rfl (by decide) ⟨Nat.zero_le auto, ha⟩
    _ = firstBad 1 (r.checks n) :=
        firstBad_set_good (row := (0, 0, 3)) rfl (by decide) ⟨Nat.zero_le _, hk.2⟩

theorem StationRecord.InRange.fits {n : Nat} {r : StationRecord} (h : r.InRange) (hn : n ≤ 32) : r.fits n := by
  obtain ⟨hs, hne, hno, hm, hse, hc, hmin, hmax, hcy, hu⟩ := h
  simp only [StationRecord.fits, List.forall_mem_cons, List.not_mem_nil, false_implies, implies_true, and_true]
  omega

theorem StationRecord.InRange.mask_range {r : StationRecord} (h : r.InRange) :
    (if r.kind = .machine then 1 else 15) ≤ r.mask.toNat ∧ r.mask.toNat ≤ 15 := by
  have hlt := r.mask.isLt
  have hne : r.mask.toNat ≠ 0 := fun h0 => h.mask.1 (BitVec.eq_of_toNat_eq h0)
  split
  · omega
  · next hk => rw [h.mask.2 hk]; decide

theorem StationRecord.InRange.checks {n : Nat} {r : StationRecord} (h : r.InRange) (h1 : 1 ≤ n) (h32 : n ≤ 32) :
    firstBad 1 (r.checks n) = none := by
  have hmask := h.mask_range
  obtain ⟨hs, hne, hno, hm, hse, hc, hmin, hmax, hcy, hu⟩ := h
  rw [firstBad_eq_none]
  simp only [StationRecord.checks, List.forall_mem_cons, List.not_mem_nil, false_implies, implies_true, and_true]
  exact ⟨by omega, by decide, hs, hne, hno, hmask, by decide, by omega, hc, by omega, by omega, hu⟩

theorem StationRecord.stationRecordOf_values (n : Nat) (r : StationRecord) :
    stationRecordOf r.kind (r.values n r.kind.code r.mask.toNat (flagByte r.autoRelease).toNat) = r := by
  cases r with
  | mk => simp [stationRecordOf, StationRecord.values, field]

theorem State.requestStationSet_stored {s : State} (hl : s.lsv.lineState = .config) {body : List Byte}
    {kind : StationKind} (hf : stationFailure (parseFields stationWidths body) = none)
    (hk : StationKind.ofCode (field (parseFields stationWidths body) 2) = some kind) :
    s.requestStationSet body =
      ({ s with cfg := { s.cfg with
          stations := tableInsert (field (parseFields stationWidths body) 1)
            (stationRecordOf kind (parseFields stationWidths body)) s.cfg.stations } }, okEmpty) := by
  simp [State.requestStationSet, hl, hf, hk]

theorem State.requestStationSet_emptied {s : State} (hl : s.lsv.lineState = .config) {body : List Byte}
    (hf : stationFailure (parseFields stationWidths body) = none)
    (hk : StationKind.ofCode (field (parseFields stationWidths body) 2) = none) :
    s.requestStationSet body =
      ({ s with cfg := { s.cfg with
          stations := tableErase (field (parseFields stationWidths body) 1) s.cfg.stations } }, okEmpty) := by
  simp [State.requestStationSet, hl, hf, hk]

theorem State.requestStationSet_refused {s : State} (hl : s.lsv.lineState = .config) {body : List Byte} {i : Nat}
    (hf : stationFailure (parseFields stationWidths body) = some i) :
    s.requestStationSet body = (s, .arg i) := by
  simp [State.requestStationSet, hl, hf]

/-- A KIND beyond MACHINE is field 2 (R6). -/
theorem StationRecord.stationFailure_kind {n : Nat} {r : StationRecord} {kind mask auto : Nat} (h1 : 1 ≤ n)
    (h32 : n ≤ 32) (hk : 3 < kind) : stationFailure (r.values n kind mask auto) = some 2 := by
  have hkind : field (r.values n kind mask auto) 2 = kind := rfl
  rw [stationFailure, hkind, if_neg (by omega)]
  exact (firstOutside_inside ⟨h1, h32⟩).trans (firstOutside_outside (.inr hk))

/-- The first two fields of a STATION SET with KIND = NONE. -/
theorem parse_stationNone (n : Nat) (hn : n < 256) (rest : List Byte) :
    ∃ more, parseFields stationWidths (byteOf n :: 0 :: rest) = n :: 0 :: more := by
  refine ⟨parseFields [1, 1, 1, 1, 1, 2, 2, 4, 4, 2] rest, ?_⟩
  rw [stationWidths, parseFields_byte, parseFields_byte, byteOf_toNat, Nat.mod_eq_of_lt hn]
  rfl

/-- With KIND = NONE only the number is examined (R6). -/
theorem stationFailure_none (n : Nat) (more : List Nat) :
    stationFailure (n :: 0 :: more) = if 1 ≤ n ∧ n ≤ 32 then none else some 1 := by
  have h0 : field (n :: 0 :: more) 2 = 0 := rfl
  rw [stationFailure, h0, if_pos rfl]
  split
  · next h => exact firstOutside_inside h
  · next h => exact firstOutside_outside (by omega)

/-! ## BUS SET -/

/-- The bytes of a BUS SET with the byte `rate` for BIT_RATE. -/
def BusRecord.bytesWith (r : BusRecord) (rate : Byte) : List Byte :=
  [rate, byteOf r.deLead, byteOf r.deLag] ++ beBytes 2 r.tResponse
    ++ [byteOf r.slotTime, byteOf r.scanOffset, byteOf r.slots.length, byteOf r.missLimit]
    ++ r.slots.map byteOf

theorem BusRecord.bytes_eq (r : BusRecord) : r.bytes = r.bytesWith (byteOf r.bitRate.code) := rfl

theorem BusRecord.bytesWith_set (r : BusRecord) (rate b : Byte) :
    (r.bytesWith rate).set 0 b = r.bytesWith b := rfl

@[simp] theorem BusRecord.bytesWith_length (r : BusRecord) (rate : Byte) :
    (r.bytesWith rate).length = 9 + r.slots.length := by
  simp [BusRecord.bytesWith, Nat.add_comm, Nat.add_left_comm]

/-- The values of the fixed fields of a BUS SET. -/
def BusRecord.values (r : BusRecord) (rate : Nat) : List Nat :=
  [rate, r.deLead, r.deLag, r.tResponse, r.slotTime, r.scanOffset, r.slots.length, r.missLimit]

theorem BusRecord.fits.slots_lt {r : BusRecord} (h : r.fits) : ∀ a ∈ r.slots, a < 256 := fun a ha =>
  h.1 a (List.mem_append_right _ ha)

theorem BusRecord.fits.body_le {r : BusRecord} (h : r.fits) :
    9 + r.slots.length + ([] : List Byte).length ≤ Config.maxBody :=
  Nat.le_trans (Nat.add_le_add_left h.2.2 9) (by decide)

theorem BusRecord.parse {r : BusRecord} (h : r.fits) (rate : Byte) (extra : List Byte) :
    parseFields busWidths (r.bytesWith rate ++ extra) = r.values rate.toNat := by
  obtain ⟨h1, h2, h3⟩ := h
  simp only [List.forall_mem_append, List.forall_mem_cons, List.not_mem_nil, false_implies, implies_true,
    and_true] at h1
  obtain ⟨h1, -⟩ := h1
  have h3' : r.slots.length < 256 := by omega
  simp only [BusRecord.bytesWith, List.append_assoc, List.cons_append, List.nil_append, busWidths,
    parseFields_byte, parseFields_beBytes, parseFields_nil, byteOf_toNat, BusRecord.values]
  simp only [Nat.reducePow, Nat.mod_eq_of_lt, h1, h2, h3']

theorem BusRecord.busSlots_bytes {r : BusRecord} (h : r.fits) (rate : Byte) (extra : List Byte) :
    busSlots (r.bytesWith rate ++ extra) = r.slots ++ extra.map (·.toNat) := by
  have hmap : r.slots.map (fun a => a % 256) = r.slots :=
    (List.map_congr_left fun a ha => Nat.mod_eq_of_lt (h.slots_lt a ha)).trans (List.map_id _)
  simp [busSlots, BusRecord.bytesWith, beBytes, Function.comp_def, hmap]

theorem BusRecord.byteAt_count {r : BusRecord} (h : r.fits) (rate : Byte) (extra : List Byte) :
    byteAt (r.bytesWith rate ++ extra) 7 = r.slots.length := by
  obtain ⟨-, -, hlen⟩ := h
  simp [byteAt, BusRecord.bytesWith, beBytes]
  omega

/-- The rows of the fixed fields of a BUS SET with the value `rate` for BIT_RATE. -/
def BusRecord.fixedRows (r : BusRecord) (rate : Nat) : List (Nat × Nat × Nat) :=
  [(rate, 0, 2), (r.deLead, 0, 31), (r.deLag, 0, 31), (r.tResponse, 100, 5000), (r.slotTime, 2, 20),
   (r.scanOffset, 0, 20), (r.slots.length, 1, 48), (r.missLimit, 1, 8)]

theorem BusRecord.checks_eq (r : BusRecord) :
    r.checks = r.fixedRows 0 ++ r.slots.map fun a => (a, 0, 62) := rfl

theorem BusRecord.firstOutside_fixed (r : BusRecord) (rate : Nat) :
    firstOutside 1 busRanges (r.values rate) = firstBad 1 (r.fixedRows rate) := by
  rw [← firstOutside_rows]
  rfl

theorem BusRecord.fixedRows_good (r : BusRecord) {rate : Nat} (h : rate ≤ 2) :
    firstBad 1 (r.fixedRows rate) = firstBad 1 (r.fixedRows 0) :=
  firstBad_set_good (k := 0) (rows := r.fixedRows 0) (new := (rate, 0, 2)) (row := (0, 0, 2)) rfl (by decide)
    ⟨Nat.zero_le rate, h⟩

theorem BusRecord.firstOutside_slots (r : BusRecord) (more : List Nat) :
    firstOutside 9 (List.replicate r.slots.length (0, 62)) (r.slots ++ more) =
      firstBad 9 (r.slots.map fun a => (a, 0, 62)) := by
  rw [firstOutside_append _ _ _ _ (by simp), ← firstOutside_rows]
  simp [Function.comp_def, List.map_const']

/-- The first field of a BUS SET that fails is the first bad row; with none, an entry beyond S fails (R7). -/
theorem BusRecord.busFailure_checks (r : BusRecord) {rate : Nat} (h : rate ≤ 2) (more : List Nat) :
    busFailure (r.values rate) (r.slots ++ more) =
      (firstBad 1 r.checks).or (if more = [] then none else some (9 + r.slots.length)) := by
  have hcount : field (r.values rate) 7 = r.slots.length := rfl
  have hlen : (r.fixedRows 0).length = 8 := rfl
  rw [busFailure, hcount, r.firstOutside_fixed, r.fixedRows_good h, r.firstOutside_slots, r.checks_eq,
    firstBad_append, hlen]
  cases firstBad 1 (r.fixedRows 0) with
  | some i => rfl
  | none =>
    cases firstBad 9 (r.slots.map fun a => (a, 0, 62)) with
    | some i => rfl
    | none => cases more <;> simp

theorem BusRecord.busFailure_rate (r : BusRecord) {rate : Nat} (h : 2 < rate) (slots : List Nat) :
    busFailure (r.values rate) slots = some 1 := by
  have h1 : firstOutside 1 busRanges (r.values rate) = some 1 := firstOutside_outside (.inr h)
  rw [busFailure, h1]

theorem BitRate.code_le (b : BitRate) : b.code ≤ 2 := by cases b <;> decide

theorem BitRate.ofCode_code (b : BitRate) : BitRate.ofCode b.code = some b := by cases b <;> rfl

theorem BitRate.byte_toNat (b : BitRate) : (byteOf b.code).toNat = b.code := by cases b <;> rfl

theorem BusRecord.busRecordOf_values (r : BusRecord) : busRecordOf (r.values r.bitRate.code) r.slots = r := by
  cases r with
  | mk => simp [busRecordOf, BusRecord.values, field, BitRate.ofCode_code]

theorem BusRecord.InRange.fits {r : BusRecord} (h : r.InRange) : r.fits := by
  obtain ⟨hlead, hlag, hresp, hslot, hoff, hcount, hmiss, hslots⟩ := h
  refine ⟨List.forall_mem_append.mpr ⟨?_, fun a ha => Nat.lt_of_le_of_lt (hslots a ha) (by decide)⟩, by omega,
    by omega⟩
  simp only [List.forall_mem_cons, List.not_mem_nil, false_implies, implies_true, and_true]
  omega

theorem BusRecord.InRange.checks {r : BusRecord} (h : r.InRange) : firstBad 1 r.checks = none := by
  obtain ⟨hlead, hlag, hresp, hslot, hoff, hcount, hmiss, hslots⟩ := h
  rw [firstBad_eq_none, r.checks_eq, List.forall_mem_append]
  refine ⟨?_, List.forall_mem_map.mpr fun a ha => ⟨Nat.zero_le a, hslots a ha⟩⟩
  simp only [BusRecord.fixedRows, List.forall_mem_cons, List.not_mem_nil, false_implies, implies_true, and_true]
  omega

theorem State.requestBusSet_stored {s : State} (hl : s.lsv.lineState = .config) {body : List Byte}
    (hf : busFailure (parseFields busWidths body) (busSlots body) = none) :
    s.requestBusSet body =
      ({ s with cfg := { s.cfg with bus := busRecordOf (parseFields busWidths body) (busSlots body) } },
        okEmpty) := by
  simp [State.requestBusSet, hl, hf]

theorem State.requestBusSet_refused {s : State} (hl : s.lsv.lineState = .config) {body : List Byte} {i : Nat}
    (hf : busFailure (parseFields busWidths body) (busSlots body) = some i) :
    s.requestBusSet body = (s, .arg i) := by
  simp [State.requestBusSet, hl, hf]

/-! ## The commands -/

section
variable {s : State} (hr : s.linkReady) (hl : s.lsv.lineState = .config) (t : LineTime) (tag : Byte)
include hr hl

theorem exec_segmentSet_stored {k : Nat} {r : SegmentRecord} (h1 : 1 ≤ k) (h4 : k ≤ 4) (hin : r.InRange) :
    exec (.segmentSet t tag (r.bytes k)) s =
      .next (({ s.taking t with cfg := { s.cfg with segments := tableInsert k r s.cfg.segments } }).replied
        0x11 tag (.ok [])) := by
  have hparse := SegmentRecord.parse (hin.fits h4)
  have hgood : segmentFailure (parseFields segmentWidths (r.bytes k)) = none := by
    rw [hparse, r.segmentFailure_checks, hin.checks h1 h4]
  rw [exec_segmentSet hr t tag _ (by simp [Config.maxBody]) (by simp),
    State.requestSegmentSet_stored (s := s.taking t) hl hgood, hparse, r.segmentRecordOf_checks, r.checks_number]
  rfl

theorem exec_segmentSet_refused {k : Nat} {r : SegmentRecord} (hf : r.fits k) {i : Nat}
    (hb : firstBad 1 (r.checks k) = some i) :
    exec (.segmentSet t tag (r.bytes k)) s = .next ((s.taking t).replied 0x11 tag (.arg i)) := by
  rw [exec_segmentSet hr t tag _ (by simp [Config.maxBody]) (by simp),
    State.requestSegmentSet_refused (s := s.taking t) hl
      (by rw [SegmentRecord.parse hf, r.segmentFailure_checks, hb])]

theorem exec_stationSet_stored {n : Nat} {r : StationRecord} (h1 : 1 ≤ n) (h32 : n ≤ 32) (hin : r.InRange) :
    exec (.stationSet t tag (r.bytes n)) s =
      .next (({ s.taking t with cfg := { s.cfg with stations := tableInsert n r s.cfg.stations } }).replied
        0x12 tag (.ok [])) := by
  have hparse : parseFields stationWidths (r.bytes n) =
      r.values n r.kind.code r.mask.toNat (flagByte r.autoRelease).toNat := by
    rw [r.bytes_eq, StationRecord.parse (hin.fits h32), r.kind.byte_toNat, r.mask_byte]
  have hgood : stationFailure (parseFields stationWidths (r.bytes n)) = none := by
    rw [hparse, r.stationFailure_rows, r.rows_good n (flagByte_le _), hin.checks h1 h32]
  have hkind : StationKind.ofCode (field (parseFields stationWidths (r.bytes n)) 2) = some r.kind := by
    rw [hparse]
    exact r.kind.ofCode_code
  have hno : field (r.values n r.kind.code r.mask.toNat (flagByte r.autoRelease).toNat) 1 = n := rfl
  rw [exec_stationSet hr t tag _ (by simp [r.bytes_eq, Config.maxBody]) (by simp [r.bytes_eq]),
    State.requestStationSet_stored (s := s.taking t) hl hgood hkind, hparse, r.stationRecordOf_values, hno]
  rfl

theorem exec_stationSet_none {n : Nat} {rest : List Byte} (hn : n < 256) (hrest : rest.length = 19) :
    exec (.stationSet t tag (byteOf n :: 0 :: rest)) s =
      if 1 ≤ n ∧ n ≤ 32 then
        .next (({ s.taking t with cfg := { s.cfg with stations := tableErase n s.cfg.stations } }).replied
          0x12 tag (.ok []))
      else .next ((s.taking t).replied 0x12 tag (.arg 1)) := by
  obtain ⟨more, hparse⟩ := parse_stationNone n hn rest
  have hfail := stationFailure_none n more
  have hexec := exec_stationSet hr t tag (byteOf n :: 0 :: rest) (by simp [Config.maxBody, hrest]) (by simp [hrest])
  rw [← hparse] at hfail
  split
  · next h =>
    rw [if_pos h] at hfail
    have hkind : StationKind.ofCode (field (parseFields stationWidths (byteOf n :: 0 :: rest)) 2) = none := by
      rw [hparse]; rfl
    rw [hexec, State.requestStationSet_emptied (s := s.taking t) hl hfail hkind, hparse]
    rfl
  · next h =>
    rw [if_neg h] at hfail
    rw [hexec, State.requestStationSet_refused (s := s.taking t) hl hfail]

theorem exec_stationSet_refused {n : Nat} {r : StationRecord} (hf : r.fits n) {kind mask auto : Byte} {i : Nat}
    (hb : stationFailure (r.values n kind.toNat mask.toNat auto.toNat) = some i) :
    exec (.stationSet t tag (r.bytesWith n kind mask auto)) s =
      .next ((s.taking t).replied 0x12 tag (.arg i)) := by
  rw [exec_stationSet hr t tag _ (by simp [Config.maxBody]) (by simp),
    State.requestStationSet_refused (s := s.taking t) hl (by rw [StationRecord.parse hf, hb])]

theorem exec_busSet_stored {r : BusRecord} (hin : r.InRange) :
    exec (.busSet t tag r.bytes) s =
      .next (({ s.taking t with cfg := { s.cfg with bus := r } }).replied 0x13 tag (.ok [])) := by
  have hcount : r.slots.length ≤ 48 := hin.slotCount.2
  have hparse := BusRecord.parse hin.fits (byteOf r.bitRate.code) []
  have hslots := BusRecord.busSlots_bytes hin.fits (byteOf r.bitRate.code) []
  have hno := BusRecord.byteAt_count hin.fits (byteOf r.bitRate.code) []
  rw [List.append_nil, ← r.bytes_eq] at hparse hslots hno
  rw [List.map_nil, List.append_nil] at hslots
  rw [r.bitRate.byte_toNat] at hparse
  have hgood : busFailure (parseFields busWidths r.bytes) (busSlots r.bytes) = none := by
    have hnone := r.busFailure_checks r.bitRate.code_le []
    rw [List.append_nil] at hnone
    rw [hparse, hslots, hnone, hin.checks]
    rfl
  rw [exec_busSet hr t tag _ (by simp [r.bytes_eq, Config.maxBody]; omega) (by rw [hno]; simp [r.bytes_eq]),
    State.requestBusSet_stored (s := s.taking t) hl hgood, hparse, hslots, r.busRecordOf_values]
  rfl

theorem exec_busSet_refused {r : BusRecord} (hf : r.fits) (rate : Byte) (extra : List Byte)
    (hx : 9 + r.slots.length + extra.length ≤ Config.maxBody) {i : Nat}
    (hb : busFailure (r.values rate.toNat) (r.slots ++ extra.map (·.toNat)) = some i) :
    exec (.busSet t tag (r.bytesWith rate ++ extra)) s = .next ((s.taking t).replied 0x13 tag (.arg i)) := by
  rw [exec_busSet hr t tag _ (by simpa using hx)
      (by rw [BusRecord.byteAt_count hf]; simp),
    State.requestBusSet_refused (s := s.taking t) hl (by rw [BusRecord.parse hf, BusRecord.busSlots_bytes hf, hb])]

end

/-- Settles O18, as O17, with KIND = NONE apart. -/
theorem otherSetsStoreExactlyTheirRecord : Obligations.OtherSetsStoreExactlyTheirRecord := by
  intro t tag s hr hl
  refine ⟨fun k r h1 h4 hin => exec_segmentSet_stored hr hl t tag h1 h4 hin,
    fun n r h1 h32 hin => exec_stationSet_stored hr hl t tag h1 h32 hin, fun n rest h1 h32 hrest => ?_,
    fun r hin => exec_busSet_stored hr hl t tag hin⟩
  rw [exec_stationSet_none hr hl t tag (by omega) hrest, if_pos ⟨h1, h32⟩]

/-! ## Refusals -/

section
variable {s : State} (hl : s.lsv.lineState ≠ .config) (body : List Byte)
include hl

theorem State.requestLineSet_outside : s.requestLineSet body = (s, .state) := if_pos hl

theorem State.requestSegmentSet_outside : s.requestSegmentSet body = (s, .state) := if_pos hl

theorem State.requestStationSet_outside : s.requestStationSet body = (s, .state) := if_pos hl

theorem State.requestBusSet_outside : s.requestBusSet body = (s, .state) := if_pos hl

end

section
variable {s : State} (hr : s.linkReady) (hl : s.lsv.lineState = .config) (t : LineTime) (tag : Byte)
include hr hl

/-- A LINE SET is refused by its first bad row, SKIP_REJECTS being good (R4). -/
theorem exec_lineSet_firstBad {r : LineRecord} (hf : r.fits) {i : Nat} (hi : firstBad 1 r.checks = some i) :
    exec (.lineSet t tag r.bytes) s = .next ((s.taking t).replied 0x10 tag (.arg i)) := by
  rw [r.bytes_eq]
  exact exec_lineSet_refused hr hl t tag hf _ (by rw [r.rows_good (flagByte_le _), hi])

/-- SKIP_REJECTS beyond its values is field 31 (R4). -/
theorem exec_lineSet_skipRejects {r : LineRecord} (hin : r.InRange) {b : Byte} (hb : 1 < b.toNat) :
    exec (.lineSet t tag (r.bytes.set 54 b)) s = .next ((s.taking t).replied 0x10 tag (.arg 31)) := by
  have hbad : firstBad 1 (r.rows b.toNat) = some 31 :=
    firstBad_set_bad (k := 30) (hin.checks 1) (by rw [r.checks_length]; decide)
      (fun h => absurd h.2 (Nat.not_le.mpr hb))
  rw [r.bytes_set]
  exact exec_lineSet_refused hr hl t tag hin.fits b hbad

/-- A STATION SET is refused by its first bad row, KIND and AUTO_RELEASE being good (R6). -/
theorem exec_stationSet_firstBad {n : Nat} {r : StationRecord} (hf : r.fits n) {i : Nat}
    (hi : firstBad 1 (r.checks n) = some i) :
    exec (.stationSet t tag (r.bytes n)) s = .next ((s.taking t).replied 0x12 tag (.arg i)) := by
  rw [r.bytes_eq]
  refine exec_stationSet_refused hr hl t tag hf ?_
  rw [r.kind.byte_toNat, r.mask_byte, r.stationFailure_rows, r.rows_good n (flagByte_le _), hi]

section
variable {n : Nat} {r : StationRecord} (h1 : 1 ≤ n) (h32 : n ≤ 32) (hin : r.InRange) {b : Byte}
include h1 h32 hin

theorem exec_stationSet_kind (hb : 3 < b.toNat) :
    exec (.stationSet t tag ((r.bytes n).set 1 b)) s = .next ((s.taking t).replied 0x12 tag (.arg 2)) := by
  rw [r.bytes_eq, r.bytesWith_setKind]
  exact exec_stationSet_refused hr hl t tag (hin.fits h32) (StationRecord.stationFailure_kind h1 h32 hb)

theorem exec_stationSet_mask (hb : 15 < b.toNat) :
    exec (.stationSet t tag ((r.bytes n).set 5 b)) s = .next ((s.taking t).replied 0x12 tag (.arg 6)) := by
  rw [r.bytes_eq, r.bytesWith_setMask]
  refine exec_stationSet_refused hr hl t tag (hin.fits h32) ?_
  rw [r.kind.byte_toNat, r.stationFailure_rows]
  have hgood := (r.rows_good n (flagByte_le r.autoRelease)).trans (hin.checks h1 h32)
  have hbad : firstBad 1 ((r.rows n r.mask.toNat (flagByte r.autoRelease).toNat).set 5
      (b.toNat, if r.kind = .machine then 1 else 15, 15)) = some 6 :=
    firstBad_set_bad hgood (by rw [r.rows_length]; decide) (fun h => absurd h.2 (Nat.not_le.mpr hb))
  exact hbad

theorem exec_stationSet_autoRelease (hb : 1 < b.toNat) :
    exec (.stationSet t tag ((r.bytes n).set 6 b)) s = .next ((s.taking t).replied 0x12 tag (.arg 7)) := by
  rw [r.bytes_eq, r.bytesWith_setAuto]
  refine exec_stationSet_refused hr hl t tag (hin.fits h32) ?_
  rw [r.kind.byte_toNat, r.mask_byte, r.stationFailure_rows]
  have hgood := (r.rows_good n (Nat.zero_le 1)).trans (hin.checks h1 h32)
  have hbad : firstBad 1 ((r.rows n r.mask.toNat 0).set 6 (b.toNat, 0, 1)) = some 7 :=
    firstBad_set_bad hgood (by rw [r.rows_length]; decide) (fun h => absurd h.2 (Nat.not_le.mpr hb))
  exact hbad

end

/-- A BUS SET is refused by its first bad row, BIT_RATE being good (R7). -/
theorem exec_busSet_firstBad {r : BusRecord} (hf : r.fits) {i : Nat} (hi : firstBad 1 r.checks = some i) :
    exec (.busSet t tag r.bytes) s = .next ((s.taking t).replied 0x13 tag (.arg i)) := by
  have hrefused := exec_busSet_refused hr hl t tag hf (byteOf r.bitRate.code) [] hf.body_le (i := i)
    (by rw [r.bitRate.byte_toNat, r.busFailure_checks r.bitRate.code_le, hi]; rfl)
  rwa [List.append_nil] at hrefused

/-- BIT_RATE beyond its values is field 1 (R7). -/
theorem exec_busSet_bitRate {r : BusRecord} (hf : r.fits) {b : Byte} (hb : 2 < b.toNat) :
    exec (.busSet t tag (r.bytes.set 0 b)) s = .next ((s.taking t).replied 0x13 tag (.arg 1)) := by
  have hrefused := exec_busSet_refused hr hl t tag hf b [] hf.body_le (r.busFailure_rate hb _)
  rwa [List.append_nil, ← r.bytesWith_set (byteOf r.bitRate.code), ← r.bytes_eq] at hrefused

/-- An entry beyond S is field 9 + S (R7). -/
theorem exec_busSet_beyond {r : BusRecord} (hin : r.InRange) {extra : List Byte} (hne : extra ≠ [])
    (hx : extra.length ≤ 100) :
    exec (.busSet t tag (r.bytes ++ extra)) s =
      .next ((s.taking t).replied 0x13 tag (.arg (9 + r.slots.length))) := by
  have hcount := hin.slotCount.2
  refine exec_busSet_refused hr hl t tag hin.fits (byteOf r.bitRate.code) extra (by simp [Config.maxBody]; omega) ?_
  rw [r.bitRate.byte_toNat, r.busFailure_checks r.bitRate.code_le, hin.checks, if_neg (by simpa using hne)]
  rfl

end

/-- Settles O19: outside CONFIG by the line state, in CONFIG by the first field that fails. -/
theorem setsAreRefusedByTheFirstBadField : Obligations.SetsAreRefusedByTheFirstBadField := by
  intro t tag s hr
  refine ⟨fun hl body hb => ⟨fun hn => ?_, fun hn => ?_, fun hn => ?_, fun hn => ?_⟩, fun hl =>
    ⟨fun r hf i hi => exec_lineSet_firstBad hr hl t tag hf hi,
      fun r hin b hb => exec_lineSet_skipRejects hr hl t tag hin hb,
      fun k r hf i hi => exec_segmentSet_refused hr hl t tag hf hi,
      fun n r hf => ⟨fun i hi => exec_stationSet_firstBad hr hl t tag hf hi, fun h1 h32 hin =>
        ⟨fun b hb => exec_stationSet_kind hr hl t tag h1 h32 hin hb,
          fun b hb => exec_stationSet_mask hr hl t tag h1 h32 hin hb,
          fun b hb => exec_stationSet_autoRelease hr hl t tag h1 h32 hin hb⟩⟩,
      fun n rest hn hn' hrest => ?_,
      fun r hf => ⟨fun i hi => exec_busSet_firstBad hr hl t tag hf hi,
        fun b hb => exec_busSet_bitRate hr hl t tag hf hb,
        fun hin extra hne hx => exec_busSet_beyond hr hl t tag hin hne hx⟩⟩⟩
  · rw [exec_lineSet hr t tag body hb hn, State.requestLineSet_outside (s := s.taking t) hl]
  · rw [exec_segmentSet hr t tag body hb hn, State.requestSegmentSet_outside (s := s.taking t) hl]
  · rw [exec_stationSet hr t tag body hb hn, State.requestStationSet_outside (s := s.taking t) hl]
  · rw [exec_busSet hr t tag body hb hn, State.requestBusSet_outside (s := s.taking t) hl]
  · rw [exec_stationSet_none hr hl t tag hn' hrest, if_neg (by omega)]

end Sys2Proof.Machine
end

section
/-! PROOF. The checks of COMMIT (R10 to R15). -/

namespace Sys2Proof.Machine

/-! ## Searches -/

theorem firstWhere_eq_find? (p : Nat → Bool) (l : List Nat) : firstWhere p l = l.find? p := by
  induction l with
  | nil => rfl
  | cons n rest ih => cases h : p n <;> simp [firstWhere, h, ih]

theorem mem_upTo {n k : Nat} : k ∈ upTo n ↔ 1 ≤ k ∧ k ≤ n := by
  rw [upTo, List.mem_range'_1]
  omega

theorem firstWhere_upTo_eq_none {p : Nat → Bool} {n : Nat} :
    firstWhere p (upTo n) = none ↔ ∀ k, 1 ≤ k → k ≤ n → p k = false := by
  simp [firstWhere_eq_find?, mem_upTo]

/-- The first number from 1 up to `n` for which `p` holds. -/
theorem firstWhere_upTo_eq_some {p : Nat → Bool} {n k : Nat} :
    firstWhere p (upTo n) = some k ↔ (1 ≤ k ∧ k ≤ n) ∧ p k = true ∧ ∀ j, 1 ≤ j → j < k → p j = false := by
  rw [firstWhere_eq_find?, upTo, List.find?_range'_eq_some, ← upTo, mem_upTo]
  simp only [Bool.not_eq_true']
  tauto

/-- A new key before others: no key is repeated, and none has been seen before. -/
theorem nodup_unseen_cons {κ : Type} {a : κ} {l seen : List κ} (ha : a ∉ seen) :
    (l.Nodup ∧ ∀ b ∈ l, b ∉ a :: seen) ↔ (a :: l).Nodup ∧ ∀ b ∈ a :: l, b ∉ seen := by
  rw [List.nodup_cons, List.forall_mem_cons]
  simp only [List.mem_cons, not_or]
  constructor
  · exact fun ⟨hn, hl⟩ => ⟨⟨fun hmem => (hl a hmem).1 rfl, hn⟩, ha, fun b hb => (hl b hb).2⟩
  · exact fun ⟨⟨hmem, hn⟩, _, hl⟩ => ⟨hn, fun b hb => ⟨fun hba => hmem (hba ▸ hb), hl b hb⟩⟩

/-- No station shares its place with an earlier one exactly when no two have one place and none a place seen
before. -/
theorem firstShared_eq_none {seen : List (Nat × Nat)} {l : List (Nat × StationRecord)} :
    firstShared seen l = none ↔ (l.map fun p => (p.2.segment, p.2.nest)).Nodup
      ∧ ∀ place ∈ l.map fun p => (p.2.segment, p.2.nest), place ∉ seen := by
  induction l generalizing seen with
  | nil => simp [firstShared]
  | cons p rest ih =>
    obtain ⟨n, r⟩ := p
    rw [firstShared, List.map_cons]
    split
    · next h => exact ⟨nofun, fun hall => absurd (List.contains_iff_mem.mp h) (hall.2 _ (.head _))⟩
    · next h => exact ih.trans (nodup_unseen_cons fun hmem => h (List.contains_iff_mem.mpr hmem))

theorem firstRepeated_eq_none {seen : List Nat} {l : List (Nat × Role)} :
    firstRepeated seen l = none ↔ (l.map (·.1)).Nodup ∧ ∀ a ∈ l.map (·.1), a ∉ seen := by
  induction l generalizing seen with
  | nil => simp [firstRepeated]
  | cons p rest ih =>
    obtain ⟨a, r⟩ := p
    rw [firstRepeated, List.map_cons]
    split
    · next h => exact ⟨nofun, fun hall => absurd (List.contains_iff_mem.mp h) (hall.2 _ (.head _))⟩
    · next h => exact ih.trans (nodup_unseen_cons fun hmem => h (List.contains_iff_mem.mpr hmem))

theorem firstStray_eq_none {addresses slots : List Nat} {i : Nat} :
    firstStray addresses i slots = none ↔ ∀ a ∈ slots, a ≠ 0 → a ∈ addresses := by
  induction slots generalizing i with
  | nil => simp [firstStray]
  | cons a rest ih =>
    rw [firstStray, List.forall_mem_cons]
    split
    · next h => simp_all
    · next h =>
      rw [ih]
      simp only [Bool.and_eq_true, decide_eq_true_eq, Bool.not_eq_true', List.contains_eq_mem,
        decide_eq_false_iff_not, not_and, not_not] at h
      exact ⟨fun hr => ⟨h, hr⟩, fun hr => hr.2⟩

theorem firstFailing_eq_none {i : Nat} {l : List (Option Subject)} :
    firstFailing i l = none ↔ ∀ o ∈ l, o = none := by
  induction l generalizing i with
  | nil => simp [firstFailing]
  | cons o rest ih => cases o <;> simp [firstFailing, ih]

/-! ## The checks one by one -/

namespace ConfigStore
variable (c : ConfigStore)

theorem check1_eq_none : c.check1 = none ↔
    ∀ p ∈ c.stations, p.2.segment ≤ c.line.nseg ∧ p.2.nest ≤ (c.seg p.2.segment).nests := by
  simp [ConfigStore.check1]

theorem check2_eq_none : c.check2 = none ↔ (c.stations.map fun p => (p.2.segment, p.2.nest)).Nodup := by
  simp [ConfigStore.check2, firstShared_eq_none]

theorem single_eq_none (kind : StationKind) (segment nest : Nat) : c.single kind segment nest = none ↔
    ∃ n r, c.stations.filter (fun p => p.2.kind = kind) = [(n, r)] ∧ r.segment = segment ∧ r.nest = nest := by
  unfold ConfigStore.single
  split
  · next h => simp [h]
  · next n r h => simp [h]
  · next h => simp [h]

theorem check5_eq_none : c.check5 = none ↔ ∀ p ∈ c.roles, p.1 ≠ 0 := by
  simp [ConfigStore.check5]

theorem check6_eq_none : c.check6 = none ↔ (c.roles.map (·.1)).Nodup := by
  simp [ConfigStore.check6, firstRepeated_eq_none]

theorem check7_eq_none : c.check7 = none ↔ ∀ p ∈ c.roles, p.1 ∈ c.bus.slots := by
  simp [ConfigStore.check7]

theorem check8_eq_none : c.check8 = none ↔ ∀ a ∈ c.bus.slots, a ≠ 0 → a ∈ c.roles.map (·.1) := by
  rw [ConfigStore.check8, Option.map_eq_none_iff, firstStray_eq_none]

theorem check9_eq_none : c.check9 = none ↔ ∀ k, 1 ≤ k → k ≤ c.line.nseg →
    (c.seg k).l + (c.seg k).k * (c.seg k).nests + c.line.f ≤ c.line.cap := by
  rw [ConfigStore.check9, Option.map_eq_none_iff, firstWhere_upTo_eq_none]
  simp only [decide_eq_false_iff_not, Nat.not_lt]

/-- Check 9 names the first segment whose demand does not fit (R14). -/
theorem check9_eq_some (subject : Subject) : c.check9 = some subject ↔
    ∃ k, subject = { kind := .segment, number := k } ∧ 1 ≤ k ∧ k ≤ c.line.nseg
      ∧ c.line.cap < (c.seg k).l + (c.seg k).k * (c.seg k).nests + c.line.f
      ∧ ∀ j, 1 ≤ j → j < k → (c.seg j).l + (c.seg j).k * (c.seg j).nests + c.line.f ≤ c.line.cap := by
  rw [ConfigStore.check9, Option.map_eq_some_iff]
  simp only [firstWhere_upTo_eq_some, decide_eq_true_eq, decide_eq_false_iff_not, Nat.not_lt, Subject.segment]
  constructor
  · exact fun ⟨k, ⟨⟨h1, hn⟩, hk, hj⟩, hs⟩ => ⟨k, hs.symm, h1, hn, hk, hj⟩
  · exact fun ⟨k, hs, h1, hn, hk, hj⟩ => ⟨k, ⟨⟨h1, hn⟩, hk, hj⟩, hs.symm⟩

theorem check10_eq_none : c.check10 = none ↔
    (c.bus.deLead + 165 + c.bus.deLag) * c.bus.bitRate.bitTime + c.bus.tResponse ≤ c.bus.slotTime * 1000 := by
  simp [ConfigStore.check10]

theorem check11_eq_none : c.check11 = none ↔ c.scanPeriod ≤ 1000000 ∧ c.scanPeriod < c.line.tRead * 1000 := by
  simp [ConfigStore.check11]

/-- A configuration passes when every check does (R10). -/
theorem failure_eq_none : c.failure = none ↔
    c.check1 = none ∧ c.check2 = none ∧ c.check3 = none ∧ c.check4 = none ∧ c.check5 = none ∧ c.check6 = none
      ∧ c.check7 = none ∧ c.check8 = none ∧ c.check9 = none ∧ c.check10 = none ∧ c.check11 = none := by
  rw [ConfigStore.failure, firstFailing_eq_none]
  simp only [List.forall_mem_cons, List.not_mem_nil, false_implies, implies_true, and_true]

end ConfigStore

/-- Settles O22, check by check. -/
theorem checksPassExactlyOnSoundConfigurations : Obligations.ChecksPassExactlyOnSoundConfigurations := by
  intro c
  rw [c.failure_eq_none, c.check1_eq_none, c.check2_eq_none, ConfigStore.check3, ConfigStore.check4,
    c.single_eq_none, c.single_eq_none, c.check5_eq_none, c.check6_eq_none, c.check7_eq_none, c.check8_eq_none,
    c.check9_eq_none, c.check10_eq_none, c.check11_eq_none]
  rfl

/-- Settles O23, by the first segment whose demand does not fit and the two formulas. -/
theorem checksNineToElevenAreThoseOfR14AndR15 : Obligations.ChecksNineToElevenAreThoseOfR14AndR15 :=
  ⟨fun c => ⟨c.check9_eq_none, c.check9_eq_some, rfl, rfl, rfl⟩, rfl, rfl⟩

/-- Settles O24, in CONFIG and outside it. -/
theorem failedCommitsChangeNothing : Obligations.FailedCommitsChangeNothing := by
  intro t tag s hr
  refine ⟨fun hl n subject hf => ?_, fun hl => ?_⟩
  · rw [exec_commit hr, State.requestCommit_failing (s := s.taking t) hl hf]
  · rw [exec_commit hr, State.requestCommit, if_pos (show (s.taking t).lsv.lineState ≠ .config from hl)]

/-! ## Loop positions (R8, R9) -/

section
variable {c : ConfigStore}

/-- The elements of the loop for each NSEG, in flow order (R8). -/
theorem ConfigStore.elements_one (h : c.line.nseg = 1) : c.elements =
    [(.seg 1, (c.seg 1).nests), (.conv .vs, c.line.capVs), (.conv .rc, c.line.capRc)] := by
  simp [ConfigStore.elements, h, upTo]

theorem ConfigStore.elements_two (h : c.line.nseg = 2) : c.elements =
    [(.seg 1, (c.seg 1).nests), (.conv .b1, c.line.capB1), (.seg 2, (c.seg 2).nests),
     (.conv .vs, c.line.capVs), (.conv .rc, c.line.capRc)] := by
  simp [ConfigStore.elements, h, upTo, List.range', bufferId, LineRecord.capacity]

theorem ConfigStore.elements_three (h : c.line.nseg = 3) : c.elements =
    [(.seg 1, (c.seg 1).nests), (.conv .b1, c.line.capB1), (.seg 2, (c.seg 2).nests),
     (.conv .b2, c.line.capB2), (.seg 3, (c.seg 3).nests), (.conv .vs, c.line.capVs),
     (.conv .rc, c.line.capRc)] := by
  simp [ConfigStore.elements, h, upTo, List.range', bufferId, LineRecord.capacity]

theorem ConfigStore.elements_four (h : c.line.nseg = 4) : c.elements =
    [(.seg 1, (c.seg 1).nests), (.conv .b1, c.line.capB1), (.seg 2, (c.seg 2).nests),
     (.conv .b2, c.line.capB2), (.seg 3, (c.seg 3).nests), (.conv .b3, c.line.capB3),
     (.seg 4, (c.seg 4).nests), (.conv .vs, c.line.capVs), (.conv .rc, c.line.capRc)] := by
  simp [ConfigStore.elements, h, upTo, List.range', bufferId, LineRecord.capacity]

theorem LineRecord.InRange.nseg_cases {l : LineRecord} (h : l.InRange) :
    l.nseg = 1 ∨ l.nseg = 2 ∨ l.nseg = 3 ∨ l.nseg = 4 := by
  have hnseg := h.nseg
  omega

/-- P is at most 100 (R8). -/
theorem ConfigStore.derive_p_le (hl : c.line.InRange) (hn : ∀ k, 1 ≤ k → k ≤ 4 → (c.seg k).nests ≤ 12) :
    c.derive.p ≤ 100 := by
  have h1 := hn 1 (by decide) (by decide)
  have h2 := hn 2 (by decide) (by decide)
  have h3 := hn 3 (by decide) (by decide)
  have h4 := hn 4 (by decide) (by decide)
  obtain ⟨hb1, hb2, hb3⟩ := hl.capB
  have hvs := hl.capVs
  have hrc := hl.capRc
  obtain h | h | h | h := hl.nseg_cases
  · simp only [ConfigStore.derive, c.elements_one h, List.map_cons, List.map_nil, List.sum_cons, List.sum_nil]
    omega
  · simp only [ConfigStore.derive, c.elements_two h, List.map_cons, List.map_nil, List.sum_cons, List.sum_nil]
    omega
  · simp only [ConfigStore.derive, c.elements_three h, List.map_cons, List.map_nil, List.sum_cons, List.sum_nil]
    omega
  · simp only [ConfigStore.derive, c.elements_four h, List.map_cons, List.map_nil, List.sum_cons, List.sum_nil]
    omega

end

/-- Settles O20, by the elements of the loop for each NSEG. -/
theorem loopPositionsAreThoseOfR8 : Obligations.LoopPositionsAreThoseOfR8 := by
  refine ⟨fun c => ⟨fun h => ?_, fun h => ?_, fun h => ?_, fun h => ?_, ConfigStore.derive_p_le⟩,
    fun s k j => rfl, fun s v => rfl⟩
  · simp [ConfigStore.derive, c.elements_one h, runsFrom, segRunsOf, convRunsOf, Nat.add_assoc]
  · simp [ConfigStore.derive, c.elements_two h, runsFrom, segRunsOf, convRunsOf]
    omega
  · simp [ConfigStore.derive, c.elements_three h, runsFrom, segRunsOf, convRunsOf]
    omega
  · simp [ConfigStore.derive, c.elements_four h, runsFrom, segRunsOf, convRunsOf]
    omega

end Sys2Proof.Machine
end

section
/-! PROOF. Loop positions and places correspond (R8, R9, R23, R36). -/

namespace Sys2Proof.Machine

/-! ## Runs -/

/-- A run of `len` positions from `first` covers a position. -/
def covers (pos : Nat) (run : Nat × Nat) : Prop := run.1 ≤ pos ∧ pos < run.1 + run.2

theorem tableGet_of_mem {κ α : Type} [DecidableEq κ] {k : κ} {v : α} {l : List (κ × α)}
    (hn : (l.map (·.1)).Nodup) (h : (k, v) ∈ l) : tableGet k l = some v := by
  induction l with
  | nil => cases h
  | cons p rest ih =>
    obtain ⟨j, w⟩ := p
    rw [List.map_cons, List.nodup_cons] at hn
    obtain heq | hrest := List.mem_cons.mp h
    · cases heq
      simp [tableGet]
    · have hj : j ≠ k := fun hjk => hn.1 (List.mem_map.mpr ⟨_, hrest, hjk.symm⟩)
      simp [tableGet, hj, ih hn.2 hrest]

theorem mem_segRunsOf {k : Nat} {run : Nat × Nat} {l : List (Element × Nat × Nat)} :
    (k, run) ∈ segRunsOf l ↔ (.seg k, run) ∈ l := by
  induction l with
  | nil => simp [segRunsOf]
  | cons p rest ih =>
    obtain ⟨e, r⟩ := p
    cases e <;> simp [segRunsOf, ih]

theorem mem_convRunsOf {v : ConvId} {run : Nat × Nat} {l : List (Element × Nat × Nat)} :
    (v, run) ∈ convRunsOf l ↔ (.conv v, run) ∈ l := by
  induction l with
  | nil => simp [convRunsOf]
  | cons p rest ih =>
    obtain ⟨e, r⟩ := p
    cases e <;> simp [convRunsOf, ih]

/-- A position at which a nest is found lies in the run of its segment. -/
theorem findRun_eq_some {pos k j : Nat} {l : List (Nat × Nat × Nat)} (h : findRun pos l = some (k, j)) :
    ∃ run, (k, run) ∈ l ∧ covers pos run ∧ j = pos - run.1 + 1 := by
  induction l with
  | nil => cases h
  | cons p rest ih =>
    obtain ⟨k', first, len⟩ := p
    rw [findRun] at h
    split at h
    · next hc =>
      cases h
      exact ⟨(first, len), .head _, by simpa [covers] using hc, rfl⟩
    · obtain ⟨run, hmem, hrest⟩ := ih h
      exact ⟨run, .tail _ hmem, hrest⟩

theorem findRun_eq_none {pos : Nat} {l : List (Nat × Nat × Nat)} :
    findRun pos l = none ↔ ∀ p ∈ l, ¬covers pos p.2 := by
  induction l with
  | nil => simp [findRun]
  | cons p rest ih =>
    obtain ⟨k, first, len⟩ := p
    rw [findRun, List.forall_mem_cons]
    split
    · next hc => exact ⟨nofun, fun hall => absurd (by simpa [covers] using hc) hall.1⟩
    · next hc => exact ih.trans ⟨fun hr => ⟨by simpa [covers] using hc, hr⟩, fun hr => hr.2⟩

/-- A position at which an entry is found lies in the run of its conveyor, counted from the head stop. -/
theorem findConvRun_eq_some {pos i : Nat} {v : ConvId} {l : List (ConvId × Nat × Nat)}
    (h : findConvRun pos l = some (v, i)) :
    ∃ run, (v, run) ∈ l ∧ covers pos run ∧ i = run.1 + run.2 - 1 - pos := by
  induction l with
  | nil => cases h
  | cons p rest ih =>
    obtain ⟨v', first, len⟩ := p
    rw [findConvRun] at h
    split at h
    · next hc =>
      cases h
      exact ⟨(first, len), .head _, by simpa [covers] using hc, rfl⟩
    · obtain ⟨run, hmem, hrest⟩ := ih h
      exact ⟨run, .tail _ hmem, hrest⟩

theorem findConvRun_eq_none {pos : Nat} {l : List (ConvId × Nat × Nat)} :
    findConvRun pos l = none ↔ ∀ p ∈ l, ¬covers pos p.2 := by
  induction l with
  | nil => simp [findConvRun]
  | cons p rest ih =>
    obtain ⟨v, first, len⟩ := p
    rw [findConvRun, List.forall_mem_cons]
    split
    · next hc => exact ⟨nofun, fun hall => absurd (by simpa [covers] using hc) hall.1⟩
    · next hc => exact ih.trans ⟨fun hr => ⟨by simpa [covers] using hc, hr⟩, fun hr => hr.2⟩

/-- The runs of a line lie side by side from its first position: they cover the positions up to their sum and none
beyond (R8, R9). -/
theorem runsFrom_covers {pos first : Nat} {l : List (Element × Nat)} :
    (∃ p ∈ runsFrom first l, covers pos p.2) ↔ first ≤ pos ∧ pos < first + (l.map (·.2)).sum := by
  induction l generalizing first with
  | nil => simp [runsFrom]
  | cons p rest ih =>
    obtain ⟨e, len⟩ := p
    simp only [runsFrom, List.mem_cons, exists_eq_or_imp]
    rw [ih, covers, List.map_cons, List.sum_cons]
    omega

/-! ## The runs of the configuration in service -/

theorem ConfigStore.derive_covers {c : ConfigStore} {pos : Nat} :
    (∃ p ∈ runsFrom 0 c.elements, covers pos p.2) ↔ pos < c.derive.p := by
  rw [runsFrom_covers]
  simp [ConfigStore.derive]

theorem ConfigStore.segRuns_nodup {c : ConfigStore} (h : c.line.InRange) :
    (c.derive.segRuns.map (·.1)).Nodup := by
  obtain h | h | h | h := h.nseg_cases
  · simp [ConfigStore.derive, c.elements_one h, runsFrom, segRunsOf]
  · simp [ConfigStore.derive, c.elements_two h, runsFrom, segRunsOf]
  · simp [ConfigStore.derive, c.elements_three h, runsFrom, segRunsOf]
  · simp [ConfigStore.derive, c.elements_four h, runsFrom, segRunsOf]

theorem ConfigStore.convRuns_nodup {c : ConfigStore} (h : c.line.InRange) :
    (c.derive.convRuns.map (·.1)).Nodup := by
  obtain h | h | h | h := h.nseg_cases
  · simp [ConfigStore.derive, c.elements_one h, runsFrom, convRunsOf]
  · simp [ConfigStore.derive, c.elements_two h, runsFrom, convRunsOf]
  · simp [ConfigStore.derive, c.elements_three h, runsFrom, convRunsOf]
  · simp [ConfigStore.derive, c.elements_four h, runsFrom, convRunsOf]

section
variable {s : State} (h : s.cfg.derived = some s.cfg.derive)
include h

theorem State.placeAt_derived (pos : Nat) : s.placeAt pos =
    ((findRun pos s.cfg.derive.segRuns).map fun p => PlaceRef.nest p.1 p.2).or
      ((findConvRun pos s.cfg.derive.convRuns).map fun p => PlaceRef.entry p.1 p.2) := by
  rw [State.placeAt, h]
  dsimp only
  cases findRun pos s.cfg.derive.segRuns <;> rfl

theorem State.loopCount_derived : s.loopCount = s.cfg.derive.p := by
  rw [State.loopCount, h]

theorem State.segFirst_derived (hl : s.cfg.line.InRange) {k : Nat} {run : Nat × Nat}
    (hm : (k, run) ∈ s.cfg.derive.segRuns) : s.segFirst k = run.1 := by
  simp [State.segFirst, h, tableGet_of_mem (ConfigStore.segRuns_nodup hl) hm]

theorem State.convRun_derived (hl : s.cfg.line.InRange) {v : ConvId} {run : Nat × Nat}
    (hm : (v, run) ∈ s.cfg.derive.convRuns) : s.convRun v = run := by
  simp [State.convRun, h, tableGet_of_mem (ConfigStore.convRuns_nodup hl) hm]

/-- No place stands at a position exactly when no run covers it. -/
theorem State.placeAt_eq_none {pos : Nat} : s.placeAt pos = none ↔ s.loopCount ≤ pos := by
  rw [s.placeAt_derived h, s.loopCount_derived h, Option.or_eq_none_iff, Option.map_eq_none_iff,
    Option.map_eq_none_iff, findRun_eq_none, findConvRun_eq_none, ← Nat.not_lt, ← ConfigStore.derive_covers]
  constructor
  · rintro ⟨hseg, hconv⟩ ⟨⟨e, run⟩, hmem, hcov⟩
    cases e with
    | seg k => exact hseg (k, run) (mem_segRunsOf.mpr hmem) hcov
    | conv v => exact hconv (v, run) (mem_convRunsOf.mpr hmem) hcov
  · exact fun hnone =>
      ⟨fun p hp hcov => hnone ⟨(.seg p.1, p.2), mem_segRunsOf.mp hp, hcov⟩,
        fun p hp hcov => hnone ⟨(.conv p.1, p.2), mem_convRunsOf.mp hp, hcov⟩⟩

/-- The place shown at a position stands at it (R23). -/
theorem State.positionOf_placeAt (hl : s.cfg.line.InRange) {pos : Nat} {place : PlaceRef}
    (hp : s.placeAt pos = some place) : s.positionOf place = pos := by
  rw [s.placeAt_derived h] at hp
  cases hseg : findRun pos s.cfg.derive.segRuns with
  | some nest =>
    rw [hseg] at hp
    cases hp
    obtain ⟨run, hmem, ⟨hlo, hhi⟩, hj⟩ := findRun_eq_some hseg
    rw [State.positionOf, s.segFirst_derived h hl hmem, hj]
    omega
  | none =>
    rw [hseg, Option.map_none, Option.none_or, Option.map_eq_some_iff] at hp
    obtain ⟨entry, hconv, rfl⟩ := hp
    obtain ⟨run, hmem, ⟨hlo, hhi⟩, hi⟩ := findConvRun_eq_some hconv
    rw [State.positionOf, s.convRun_derived h hl hmem, hi]
    omega

end

/-- Settles O21: the runs lie side by side, and each place stands in the run that it was found in. -/
theorem positionsAndPlacesAgree : Obligations.PositionsAndPlacesAgree := by
  intro s hs hl
  refine ⟨fun pos hpos => ?_, fun pos hpos => (State.placeAt_eq_none hs.derived).mpr hpos⟩
  cases hp : s.placeAt pos with
  | some place => exact ⟨place, rfl, State.positionOf_placeAt hs.derived hl hp⟩
  | none => exact absurd ((State.placeAt_eq_none hs.derived).mp hp) (Nat.not_le.mpr hpos)

end Sys2Proof.Machine
end

section
/-! PROOF. A COMMIT that passes (R16), with the entry into HALT of a line just put into service (R151). -/

namespace Sys2Proof.Machine

theorem State.requestCommit_passing {s : State} (hl : s.lsv.lineState = .config) (hf : s.cfg.failure = none) :
    s.requestCommit = (s.commitLine.closeEvent, .ok (byteOf s.cfg.derive.p :: beBytes 4 s.cfg.scanPeriod)) := by
  simp [State.requestCommit, hl, hf]

/-! ## A record of a table -/

theorem mem_of_tableGet {κ α : Type} [DecidableEq κ] {k : κ} {v : α} {l : List (κ × α)}
    (h : tableGet k l = some v) : (k, v) ∈ l := by
  induction l with
  | nil => cases h
  | cons p rest ih =>
    obtain ⟨j, w⟩ := p
    rw [tableGet] at h
    split at h
    · next hj => subst hj; cases h; exact .head _
    · exact .tail _ (ih h)

/-- What every record and a change of a record satisfy, the changed table satisfies. -/
theorem forall_mem_tableModify {κ α : Type} [DecidableEq κ] {k : κ} {f : α → α} {p : α → Prop} {l : List (κ × α)}
    (hl : ∀ q ∈ l, p q.2) (hf : ∀ v, p v → p (f v)) : ∀ q ∈ tableModify k f l, p q.2 := by
  induction l with
  | nil => exact nofun
  | cons q rest ih =>
    obtain ⟨j, w⟩ := q
    rw [List.forall_mem_cons] at hl
    rw [tableModify, List.forall_mem_cons]
    refine ⟨?_, ih hl.2⟩
    split
    · exact hf w hl.1
    · exact hl.1

theorem forall_tableGet_getD {κ α : Type} [DecidableEq κ] {k : κ} {p : α → Prop} {l : List (κ × α)} {d : α}
    (hl : ∀ q ∈ l, p q.2) (hd : p d) : p ((tableGet k l).getD d) := by
  cases h : tableGet k l with
  | none => exact hd
  | some v => exact hl _ (mem_of_tableGet h)

/-! ## HALT from the units' fresh records

No command is pending, every segment is OFF and every station RELEASED, so that no block hands anything to the Route
Unit. -/

theorem nodeTable_pending (roles : List (Nat × Role)) : ∀ p ∈ nodeTable roles, p.2.pending = none := by
  induction roles with
  | nil => exact List.forall_mem_nil _
  | cons entry rest ih =>
    obtain ⟨a, r⟩ := entry
    intro p hp
    rw [nodeTable] at hp
    obtain rfl | hin := mem_tableInsert hp
    · rfl
    · exact ih p hin

/-- With no pending command a node has no part in the entry into HALT (R170). -/
theorem State.haltNode_idle {s : State} (h : ∀ p ∈ s.sbm.nodes, p.2.pending = none) (a : Nat) :
    s.haltNode a = s := by
  cases hn : s.node a with
  | none => simp only [State.haltNode, hn]
  | some n =>
    have hp : n.pending = none := h _ (mem_of_tableGet hn)
    simp only [State.haltNode, hn, hp]

theorem State.haltBus_idle {s : State} (h : ∀ p ∈ s.sbm.nodes, p.2.pending = none) :
    s.haltBus = s.modSbm fun b =>
      { b with scan := b.scan.cutInto, window := b.window.map fun w => { w with cut := true },
               tx := estopBroadcast } := by
  have hloop (l : List Nat) (x : State) (hx : ∀ p ∈ x.sbm.nodes, p.2.pending = none) :
      forEach (fun a y => y.haltNode a) l x = x := by
    induction l with
    | nil => rfl
    | cons a rest ih => rw [forEach, State.haltNode_idle hx, ih]
  exact hloop _ _ h

/-- Every segment is OFF and every station RELEASED, or in FAULT once HALT has reached it; the serial counter stands
at `serial`. -/
structure State.AtRest (serial : Nat) (s : State) : Prop where
  serial : s.rtu.serial = serial
  segments : ∀ p ∈ s.sc, p.2.state = .off
  stations : ∀ p ∈ s.sqs.stations, p.2.state = .released ∨ p.2.state = .fault

theorem State.AtRest.haltSegment {n : Nat} {s : State} (h : s.AtRest n) (k : Nat) : (s.haltSegment k).AtRest n := by
  have hoff : (s.seg k).state = .off :=
    forall_tableGet_getD (p := fun g : Segment => g.state = .off) h.segments rfl
  have heq : s.haltSegment k = s.modSeg k fun g => { g with owed := g.owed.set .releaseAll false } := by
    simp [State.haltSegment, hoff]
  rw [heq]
  exact { h with
    segments := forall_mem_tableModify (p := fun g : Segment => g.state = .off) h.segments fun _ hg => hg }

theorem State.AtRest.modStation {n : Nat} {s : State} (h : s.AtRest n) (no : Nat) {f : Station → Station}
    (hf : ∀ st, st.state = .released ∨ st.state = .fault → (f st).state = .released ∨ (f st).state = .fault) :
    (s.modStation no f).AtRest n :=
  { h with
    stations := forall_mem_tableModify (p := fun st : Station => st.state = .released ∨ st.state = .fault)
      h.stations hf }

theorem State.AtRest.haltStation {n : Nat} {s : State} (h : s.AtRest n) (no : Nat) :
    (s.haltStation no).AtRest n := by
  have hst : (s.station no).state = .released ∨ (s.station no).state = .fault :=
    forall_tableGet_getD (p := fun st : Station => st.state = .released ∨ st.state = .fault) h.stations (.inl rfl)
  unfold State.haltStation
  obtain hst | hst := hst <;> rw [hst] <;> dsimp only
  · exact h.modStation no fun _ _ => .inr rfl
  · split
    · exact h.modStation no fun _ hs => hs
    · exact h

theorem serial_of_still {s u : State} (h : u.still = s.still) : u.rtu.serial = s.rtu.serial :=
  show u.still.rtu.serial = s.still.rtu.serial from congrArg (fun x : State => x.rtu.serial) h

theorem State.AtRest.haltStations {n : Nat} {s : State} (h : s.AtRest n) : s.haltStations.rtu.serial = n := by
  have hloop : (forEach (fun no x => x.haltStation no) s.stationNumbers s).AtRest n :=
    forEach_keeps (fun no x hx => hx.haltStation no) _ h
  exact (serial_of_still (forEach_view State.still (fun k x => x.sqsAfter_still k) _ _)).trans hloop.serial

theorem State.stopTravel_rtu (s : State) : s.stopTravel.rtu = s.rtu := rfl

/-- The entry into HALT of a line at rest with no pending command leaves the serial counter alone. -/
theorem State.AtRest.enterHalt {n : Nat} {s : State} (h : s.AtRest n)
    (hn : ∀ p ∈ s.sbm.nodes, p.2.pending = none) (cause : LineCause) : (s.enterHalt cause).rtu.serial = n := by
  have hbus : ((s.enterLine .halt cause).haltBus).AtRest n := by
    rw [State.haltBus_idle (s := s.enterLine .halt cause) hn]
    exact { h with }
  rw [State.enterHalt, State.stopTravel_rtu]
  exact (forEach_keeps (p := State.AtRest n) (fun k x hx => hx.haltSegment k) _ hbus).haltStations

theorem mode_of_fixed {s u : State} (h : u.fixed = s.fixed) : u.lsv.mode = s.lsv.mode :=
  show u.fixed.lsv.mode = s.fixed.lsv.mode from congrArg (fun x : State => x.lsv.mode) h

theorem estop_of_fixed {s u : State} (h : u.fixed = s.fixed) : u.lsv.estop = s.lsv.estop :=
  show u.fixed.lsv.estop = s.fixed.lsv.estop from congrArg (fun x : State => x.lsv.estop) h

theorem State.enterHalt_mode (s : State) (cause : LineCause) : (s.enterHalt cause).lsv.mode = s.lsv.mode :=
  (mode_of_fixed (s.enterHalt_fixed cause)).trans
    ((mode_of_fixed (forEach_fixed (fun a x => x.haltNode_fixed a) _ _)).trans rfl)

theorem State.enterHalt_estop (s : State) (cause : LineCause) : (s.enterHalt cause).lsv.estop = s.lsv.estop :=
  (estop_of_fixed (s.enterHalt_fixed cause)).trans
    ((estop_of_fixed (forEach_fixed (fun a x => x.haltNode_fixed a) _ _)).trans rfl)

/-! ## The state after COMMIT -/

theorem State.firstScanInHalt_lsv (s : State) : s.firstScanInHalt.lsv = s.lsv := rfl

theorem State.firstScanInHalt_cfg (s : State) : s.firstScanInHalt.cfg = s.cfg := rfl

theorem State.firstScanInHalt_rtu (s : State) : s.firstScanInHalt.rtu = s.rtu := rfl

theorem State.enterHalt_cfg (s : State) (cause : LineCause) : (s.enterHalt cause).cfg = s.cfg :=
  congrArg Units.cfg (s.enterHalt_units cause)

theorem State.putIntoService_atRest (s : State) : s.putIntoService.AtRest s.cfg.line.firstSerial where
  serial := rfl
  segments := List.forall_mem_map.mpr fun _ _ => rfl
  stations := List.forall_mem_map.mpr fun _ _ => .inl rfl

/-- What a COMMIT leaves of mode, ESTOP image and configuration with the image ASSERTED (R16, R151). -/
theorem State.commitLine_halted {s : State} (he : s.lsv.estop = true) :
    s.commitLine.lsv.lineState = .halt ∧ s.commitLine.lsv.mode = .auto ∧ s.commitLine.lsv.estop = true
      ∧ s.commitLine.cfg = { s.cfg with committed := true, derived := some s.cfg.derive }
      ∧ s.commitLine.sbm.scan = .scanning 0 false
      ∧ s.commitLine.sbm.tx = busFrame 63 [1] ++ busFrame 63 [2]
      ∧ s.commitLine.rtu.serial = s.cfg.line.firstSerial := by
  have hrest : (s.putIntoService.enterLine .idle .commit).AtRest s.cfg.line.firstSerial :=
    { s.putIntoService_atRest with }
  rw [State.commitLine_asserted he, State.firstScanInHalt_lsv, State.firstScanInHalt_cfg,
    State.firstScanInHalt_rtu, State.enterHalt_lineState, State.enterHalt_mode, State.enterHalt_estop,
    State.enterHalt_cfg, hrest.enterHalt (nodeTable_pending _) .estop]
  exact ⟨rfl, rfl, he, rfl, rfl, rfl, rfl⟩

/-- Settles O25. With the image RELEASED the line enters IDLE; ASSERTED, it passes on into HALT. -/
theorem commitPutsTheConfigurationIntoService : Obligations.CommitPutsTheConfigurationIntoService := by
  intro t tag s hr hl hf
  have hcommit := State.requestCommit_passing (s := s.taking t) hl hf
  refine ⟨fun he => ?_, fun he => ?_⟩
  · have hreleased := State.commitLine_released (s := s.taking t) he
    have hidle : (s.taking t).commitLine.lsv.lineState = .idle := by rw [hreleased]; rfl
    have hclose := State.closeEvent_notices (s := (s.taking t).commitLine) (by rw [hidle]; decide)
      (by rw [hidle]; decide)
    rw [exec_commit hr, hcommit, hclose, hreleased]
    rfl
  · obtain ⟨hline, hmode, hestop, hcfg, hscan, htx, hserial⟩ := State.commitLine_halted (s := s.taking t) he
    have hclose := State.closeEvent_notices (s := (s.taking t).commitLine) (by rw [hline]; decide)
      (by rw [hline]; decide)
    refine ⟨(s.taking t).commitLine.takeNotices, ?_, hline, hmode, hestop, hcfg, hscan, htx, hserial⟩
    rw [exec_commit hr, hcommit, hclose]
    rfl

end Sys2Proof.Machine
end

section
/-! PROOF. The map of an unreached state (R40, R77): S1 READY under an OPEN tag check with its feed wait running. The
soundness of the map allows it, and the end of the feed wait does not keep that soundness. -/

namespace Sys2Proof.Machine

/-- A line of one segment with its LOAD and its UNLOAD station, every role on an address of its own. -/
def oneSegmentStore : ConfigStore :=
  { line := { LineRecord.default with
      nodeVs := 4, nodeRc := 5, nodeReader := 6, nodeVerify := 7, nodeHpu := 8 },
    segments := [(1, { SegmentRecord.default with nodeDrive := 1 }), (2, .default), (3, .default), (4, .default)],
    stations :=
      [(1, { kind := .load, segment := 1, nest := 1, node := 2, mask := 15, autoRelease := true, tSettle := 0,
             tClampMax := 1000, tCycleMin := 0, tCycleMax := 1000, tUnclampMax := 1000 }),
       (2, { kind := .unload, segment := 1, nest := 6, node := 3, mask := 15, autoRelease := true, tSettle := 0,
             tClampMax := 1000, tCycleMin := 0, tCycleMax := 1000, tUnclampMax := 1000 })],
    bus := { BusRecord.default with slots := [1, 2, 3, 4, 5, 6, 7, 8] },
    committed := false, derived := none }

def oneSegmentLine : State := { State.reset with cfg := oneSegmentStore }.putIntoService

/-- In RUN, S1 is READY, held by an OPEN tag check, and its feed wait still runs; the end of that wait is the command
in the queue. -/
def feedUnderTagCheck : State :=
  { (oneSegmentLine.modSeg 1 fun g =>
      { g with state := .ready, trackHold := true, feedWait := some { start := 0, limit := 3000 } }).setTag
      (.opened { occupant := none, image := none, openedAt := 0, noticeHeld := false }) with
    lsv := { oneSegmentLine.lsv with lineState := .run },
    pending := [.feedWaitExpiry 3000 1] }

theorem feedUnderTagCheck_inService : feedUnderTagCheck.InService := by
  constructor <;> decide +kernel

theorem feedUnderTagCheck_shaped : feedUnderTagCheck.shaped :=
  ⟨nofun, fun _ => feedUnderTagCheck_inService⟩

theorem feedUnderTagCheck_queuesWithin : feedUnderTagCheck.QueuesWithin := by
  constructor <;> decide +kernel

theorem feedUnderTagCheck_segmentSound : feedUnderTagCheck.SegmentSound 1 := by
  constructor <;> decide +kernel

theorem feedUnderTagCheck_conveyorSound {c : ConvId} (hc : c = .vs ∨ c = .rc) :
    feedUnderTagCheck.ConveyorSound c := by
  have hfresh : feedUnderTagCheck.conv c = Conveyor.fresh := by obtain rfl | rfl := hc <;> decide +kernel
  have hempty : feedUnderTagCheck.list c = [] := by obtain rfl | rfl := hc <;> decide +kernel
  constructor <;> simp [hfresh, hempty, Conveyor.fresh]

theorem feedUnderTagCheck_mapSound : feedUnderTagCheck.MapSound where
  map := by constructor <;> decide +kernel
  segments k hk := by
    have hone : k = 1 := by simpa [show feedUnderTagCheck.segNumbers = [1] by decide +kernel] using hk
    exact hone ▸ feedUnderTagCheck_segmentSound
  conveyors c hc := feedUnderTagCheck_conveyorSound (by
    simpa [show feedUnderTagCheck.cvt.convs.map (·.1) = [.vs, .rc] by decide +kernel] using hc)
  queue := by decide +kernel
  check := by decide +kernel
  passed := by decide +kernel

/-- The state after the command in the queue: S1 has enqueued although its tag check is OPEN. -/
def enqueuedUnderTagCheck : State :=
  ((({ feedUnderTagCheck with pending := [] } : State).at 3000).feedWaitExpires 1).closeEvent

theorem enqueuedUnderTagCheck_not_sound : ¬ enqueuedUnderTagCheck.SegmentSound 1 := by
  intro hsound
  have hopen : enqueuedUnderTagCheck.trk.tag ≠ .none := by decide +kernel
  have hqueued : (enqueuedUnderTagCheck.seg 1).state = .queued := by decide +kernel
  exact (hsound.trackHeld rfl hopen).2.1 hqueued

/-- Refutes O60, in its last part. `State.MapSound` lets a READY segment S1 keep a running feed wait while a tag check
of S1 stands OPEN; the end of the feed wait (R77) enqueues without the readiness test, and then S1 is QUEUED under the
OPEN check, which `State.SegmentSound.trackHeld` excludes. No run reaches this state: the claim lacks the invariant
that S1 seeks nothing while its tag check stands. -/
theorem not_placementsFollowTheMap : ¬ Obligations.PlacementsFollowTheMap := by
  rintro ⟨-, -, hmap⟩
  have hagree : feedUnderTagCheck.placementsAgree := nofun
  have hsound : enqueuedUnderTagCheck.MapSound := hmap feedUnderTagCheck _ feedUnderTagCheck_shaped
    feedUnderTagCheck_queuesWithin hagree feedUnderTagCheck_mapSound rfl
  exact enqueuedUnderTagCheck_not_sound (hsound.segments 1 (by decide +kernel))

end Sys2Proof.Machine
end

section
/-! PROOF. Pallet records and the reads (R32, R36, R37, R180, R182). -/

namespace Sys2Proof.Machine

/-! ## Pallet records (R32) -/

theorem palletIdBad_iff {id : Nat} : palletIdBad id = true ↔ ¬ (1 ≤ id ∧ id ≤ 250) := by
  simp only [palletIdBad, Bool.or_eq_true, decide_eq_true_iff]
  omega

theorem palletIdBad_false {id : Nat} (h1 : 1 ≤ id) (h2 : id ≤ 250) : palletIdBad id = false :=
  Bool.eq_false_iff.mpr fun h => palletIdBad_iff.mp h ⟨h1, h2⟩

theorem Variant.ofCode_none {n : Nat} (h : 4 ≤ n) : Variant.ofCode n = none := by
  match n, h with
  | n + 4, _ => rfl

section
variable {s : State} {id : Nat}

theorem State.requestPalletDefine_idBad (h : palletIdBad id = true) (v : Nat) :
    s.requestPalletDefine id v = (s, .arg 0) := if_pos h

theorem State.requestPalletDefine_variantBad (h : palletIdBad id = false) {v : Nat} (hv : Variant.ofCode v = none) :
    s.requestPalletDefine id v = (s, .arg 2) := by
  simp [State.requestPalletDefine, h, hv]

theorem State.requestPalletDefine_occupied (h : palletIdBad id = false) {v : Nat} {variant : Variant}
    (hv : Variant.ofCode v = some variant) {p : Pallet} (hp : s.pallet id = some p) :
    s.requestPalletDefine id v = (s, .occupied) := by
  simp [State.requestPalletDefine, h, hv, hp]

theorem State.requestPalletDefine_full (h : palletIdBad id = false) {v : Nat} {variant : Variant}
    (hv : Variant.ofCode v = some variant) (hp : s.pallet id = none) (hn : 80 ≤ s.trk.pallets.length) :
    s.requestPalletDefine id v = (s, .full) := by
  simp [State.requestPalletDefine, h, hv, hp, Config.palletCapacity, hn]

theorem State.requestPalletDefine_new (h : palletIdBad id = false) {v : Nat} {variant : Variant}
    (hv : Variant.ofCode v = some variant) (hp : s.pallet id = none) (hn : s.trk.pallets.length < 80) :
    s.requestPalletDefine id v =
      ({ s with trk := { s.trk with pallets := tableInsert id (Pallet.fresh variant) s.trk.pallets } }, okEmpty) := by
  simp [State.requestPalletDefine, h, hv, hp, Config.palletCapacity, Nat.not_le.mpr hn]

theorem State.requestPalletDelete_idBad (h : palletIdBad id = true) : s.requestPalletDelete id = (s, .arg 0) :=
  if_pos h

theorem State.requestPalletDelete_unknown (h : palletIdBad id = false) (hp : s.pallet id = none) :
    s.requestPalletDelete id = (s, .notFound) := by
  simp [State.requestPalletDelete, h, hp]

theorem State.requestPalletDelete_placed (h : palletIdBad id = false) {p : Pallet} (hp : s.pallet id = some p)
    {position : Nat} (hplace : p.placement = some position) : s.requestPalletDelete id = (s, .state) := by
  simp [State.requestPalletDelete, h, hp, hplace]

theorem State.requestPalletDelete_unplaced (h : palletIdBad id = false) {p : Pallet} (hp : s.pallet id = some p)
    (hplace : p.placement = none) : s.requestPalletDelete id =
      ({ s with trk := { s.trk with pallets := tableErase id s.trk.pallets } }, okEmpty) := by
  simp [State.requestPalletDelete, h, hp, hplace]

end

/-- Settles O37, check by check. -/
theorem palletRecordsAreDefinedAndDeleted : Obligations.PalletRecordsAreDefinedAndDeleted := by
  intro t tag id v s hr
  dsimp only
  rw [exec_palletDefine hr, exec_palletDelete hr]
  refine ⟨fun hbad => ?_, fun hid variant hv => ⟨fun p hp => ?_, fun hp => ⟨fun hn => ?_, fun hn => ?_⟩⟩,
    fun hid => ?_, fun hid => ⟨fun hp => ?_, fun p hp => ⟨fun position hplace => ?_, fun hplace => ?_⟩⟩⟩
  · by_cases hid : palletIdBad id.toNat = true
    · exact ⟨0, by rw [State.requestPalletDefine_idBad hid]⟩
    · have hv : 4 ≤ v.toNat := hbad.resolve_left fun h => hid (palletIdBad_iff.mpr h)
      exact ⟨2, by rw [State.requestPalletDefine_variantBad (Bool.eq_false_iff.mpr hid) (Variant.ofCode_none hv)]⟩
  · rw [State.requestPalletDefine_occupied (s := s.taking t) (palletIdBad_false hid.1 hid.2) hv hp]
  · rw [State.requestPalletDefine_full (s := s.taking t) (palletIdBad_false hid.1 hid.2) hv hp hn]
  · rw [State.requestPalletDefine_new (s := s.taking t) (palletIdBad_false hid.1 hid.2) hv hp hn]
    rfl
  · rw [State.requestPalletDelete_idBad (palletIdBad_iff.mpr hid)]
  · rw [State.requestPalletDelete_unknown (s := s.taking t) (palletIdBad_false hid.1 hid.2) hp]
  · rw [State.requestPalletDelete_placed (s := s.taking t) (palletIdBad_false hid.1 hid.2) hp hplace]
  · rw [State.requestPalletDelete_unplaced (s := s.taking t) (palletIdBad_false hid.1 hid.2) hp hplace]
    rfl

/-! ## STATUS (R182) -/

theorem byteOf_byte (b : Byte) : byteOf b.toNat = b := by simp [byteOf]

theorem occupied_eq_zero_iff {l : List (Option Nat)} : occupied l = 0 ↔ ∀ o ∈ l, o = none := by
  simp [occupied, List.length_eq_zero_iff, List.filter_eq_nil_iff]

/-- STATUS with a section of R182 answers the part as it stands and clears both link flags. -/
theorem State.requestStatus_section (s : State) {no : Byte} (h : no.toNat ≤ 4) : s.requestStatus no.toNat =
    (s.modClp fun c => { c with linkError := false, overrun := false },
      .ok (s.commonPart no.toNat (s.section no.toNat).2.length ++ (s.section no.toNat).1
        ++ (s.section no.toNat).2.flatten)) :=
  if_neg (Nat.not_lt.mpr h)

theorem State.requestStatus_beyond (s : State) {no : Byte} (h : 4 < no.toNat) :
    s.requestStatus no.toNat = (s, .arg 0) := if_pos h

theorem State.commonPart_eq (s : State) (no : Byte) (entries : Nat) : s.commonPart no.toNat entries =
    beBytes 4 s.clock.toNat
      ++ [byteOf s.lsv.lineState.code, byteOf s.lsv.mode.code, if s.lsv.estop then 0 else 1,
          if s.clp.linkError then 1 else 0, if s.clp.overrun then 1 else 0, byteOf s.clp.events.length,
          if s.clp.gap then 1 else 0, no, byteOf entries, 0, 0, 0] := by
  rw [State.commonPart, byteOf_byte]
  cases s.lsv.estop <;> rfl

theorem optionBytes_time (t : Option LineTime) : optionBytes 4 (t.map (·.toNat)) =
    match t with
    | some time => 1 :: beBytes 4 time.toNat
    | none => [0, 0, 0, 0, 0] := by
  cases t <;> rfl

theorem AdaRequest.statusBytes_eq (q : AdaRequest) : q.statusBytes =
    [byteOf q.segment, byteOf q.cls.code] ++ beBytes 2 q.demand
      ++ (match q.earliest with | some time => 1 :: beBytes 4 time.toNat | none => [0, 0, 0, 0, 0]) := by
  rw [AdaRequest.statusBytes, optionBytes_time]

theorem segCauseCode_eq (c : Option SegCause) : segCauseCode c = (c.map SegCause.code).getD 0 := by
  cases c <;> rfl

theorem stationCauseCode_eq (c : Option StationCause) : stationCauseCode c = (c.map StationCause.code).getD 0 := by
  cases c <;> rfl

theorem jamCauseCode_eq (c : Option JamCause) : jamCauseCode c = (c.map JamCause.code).getD 0 := by
  cases c <;> rfl

theorem State.segmentEntry_eq (s : State) (k : Nat) : s.segmentEntry k =
    [byteOf (s.seg k).state.code, byteOf (s.segMap k).certainty.code, if (s.seg k).held then 1 else 0,
      if (s.seg k).trackHold then 1 else 0, byteOf (s.seg k).bar.code,
      byteOf (((s.seg k).cause.map SegCause.code).getD 0), byteOf (s.waitReason k).code,
      if s.permit k then 1 else 0] ++ beBytes 2 (s.seg k).indexNumber := by
  rw [← segCauseCode_eq]
  rfl

theorem pumpCode_byte (b : Bool) : byteOf (pumpCode b) = if b then 0 else 1 := by cases b <;> rfl

theorem alarmCode_byte (b : Bool) : byteOf (alarmCode b) = if b then 1 else 0 := by cases b <;> rfl

/-- The first row that holds, found row by row. -/
theorem find?_row_cons {α : Type} (b : Bool) (r d : α) (rows : List (Bool × α)) :
    ((((b, r) :: rows).find? (·.1)).map (·.2)).getD d = if b then r else ((rows.find? (·.1)).map (·.2)).getD d := by
  cases b <;> rfl

/-- The wait reason is the first of R182's rows that holds. -/
theorem State.waitReason_eq_find (s : State) (k : Nat) : s.waitReason k =
    ((([(decide ((s.seg k).state ≠ .ready), .none),
        (decide (s.lsv.lineState ≠ .run), .line),
        ((s.seg k).held, .hold), ((s.seg k).trackHold, .trackHold),
        (decide (s.lsv.mode = .step ∧ s.permit k = false), .permit),
        (decide ((∀ o ∈ s.nests k, o = none) ∧ s.arrivedHead (upstreamOf k) = none), .noPallet),
        (decide (s.exitPallet k ≠ none) && !(s.seg k).room.isHeld, .room),
        ((s.seg k).feedWait.isSome, .feed)] : List (Bool × WaitReason)).find? (·.1)).map (·.2)).getD .none := by
  have hroom : (s.exitPallet k).isSome = decide (s.exitPallet k ≠ none) := by
    cases s.exitPallet k <;> rfl
  have hpallet : (∀ o ∈ s.nests k, o = none) ↔ occupied (s.nests k) = 0 := occupied_eq_zero_iff.symm
  simp only [State.waitReason, find?_row_cons, hroom, hpallet, Option.isNone_iff_eq_none, Bool.and_eq_true,
    Bool.not_eq_true', decide_eq_true_iff]
  rfl

/-! ## MAP READ and PALLET READ (R36, R37) -/

theorem State.requestMapRead_config {s : State} (h : s.lsv.lineState = .config) (start count : Nat) :
    s.requestMapRead start count = (s, .state) := if_pos h

theorem State.requestMapRead_beyond {s : State} (h : s.lsv.lineState ≠ .config) {start : Nat}
    (hs : s.loopCount ≤ start) (count : Nat) : s.requestMapRead start count = (s, .arg 0) := by
  rw [State.requestMapRead, if_neg h, if_pos hs]

theorem State.requestMapRead_entries {s : State} (h : s.lsv.lineState ≠ .config) {start : Nat}
    (hs : start < s.loopCount) (count : Nat) : s.requestMapRead start count =
      (s, .ok (byteOf (mapCount count) ::
        (mapPositions s.loopCount start (mapCount count)).flatMap s.mapEntry)) := by
  rw [State.requestMapRead, if_neg h, if_neg (Nat.not_le.mpr hs)]

theorem mapCount_byte (count : Byte) :
    mapCount count.toNat = if count = 0 then 1 else if 16 < count.toNat then 16 else count.toNat := by
  by_cases h : count = 0
  · rw [if_pos h, h]; rfl
  · have hpos : count.toNat ≠ 0 := fun h0 => h (BitVec.eq_of_toNat_eq h0)
    rw [if_neg h, mapCount]
    split <;> omega

theorem mapPositions_flatMap (p start n : Nat) (f : Nat → List Byte) :
    (mapPositions p start n).flatMap f = (List.range n).flatMap fun i => f ((start + i) % p) :=
  List.flatMap_map ..

theorem State.mapEntry_nest {s : State} {pos k j : Nat} (h : s.placeAt pos = some (.nest k j)) :
    s.mapEntry pos = [byteOf pos, byteOf k, byteOf j, byteOf ((s.occupant k j).getD 0), 0,
      byteOf ((s.segMap k).certainty.code + 1)] := by
  rw [State.mapEntry, h]
  rfl

theorem State.mapEntry_entry {s : State} {pos i : Nat} {c : ConvId} (h : s.placeAt pos = some (.entry c i)) :
    s.mapEntry pos = [byteOf pos, byteOf (4 + c.number), 0, byteOf ((((s.list c)[i]?).map (·.pallet)).getD 0),
      match (s.list c)[i]? with
        | none => 0
        | some e => if e.state = .arrived then 1 else 2, 0] := by
  rw [State.mapEntry, h]
  cases hi : (s.list c)[i]? with
  | none => simp [PlaceRef.element, PlaceRef.nestNumber, State.shown, State.shownState, State.shownCertainty,
      entryStateAt, entryStateCode, palletByte, byteOf, hi]
  | some e => cases he : e.state <;> simp [PlaceRef.element, PlaceRef.nestNumber, State.shown, State.shownState,
      State.shownCertainty, entryStateAt, entryStateCode, palletByte, byteOf, hi, he]

theorem State.requestPalletRead_unknown {s : State} {id : Nat} (h : palletIdBad id = false)
    (hp : s.pallet id = none) : s.requestPalletRead id = (s, .notFound) := by
  simp [State.requestPalletRead, h, hp]

theorem State.requestPalletRead_record {s : State} {id : Nat} (h : palletIdBad id = false) {p : Pallet}
    (hp : s.pallet id = some p) : s.requestPalletRead id = (s, .ok (s.palletBytes id p)) := by
  simp [State.requestPalletRead, h, hp]

/-- Settles O45: the commands at a ready link, the five sections, and the map entries. -/
theorem readsShowTheStateAtTheirExecution : Obligations.ReadsShowTheStateAtTheirExecution := by
  refine ⟨fun t tag s hr => ⟨fun no hno => ?_, fun no hno => ?_, fun start count => ⟨fun hl => ?_,
    fun hl hs => ?_, fun hl hs => ?_⟩, fun id h1 h2 => ⟨fun hp => ?_, fun p hp => ?_⟩⟩,
    fun s => ⟨?_, ?_, ?_, ?_, rfl, s.waitReason_eq_find⟩,
    fun s pos => ⟨fun k j => State.mapEntry_nest, fun c i => State.mapEntry_entry⟩⟩
  · rw [exec_status hr, State.requestStatus_section _ hno, State.commonPart_eq]
    rfl
  · rw [exec_status hr, State.requestStatus_beyond _ hno]
  · rw [exec_mapRead hr, State.requestMapRead_config (s := s.taking t) hl]
  · rw [exec_mapRead hr, State.requestMapRead_beyond (s := s.taking t) hl hs]
  · rw [exec_mapRead hr, State.requestMapRead_entries (s := s.taking t) hl hs, mapPositions_flatMap, mapCount_byte]
    rfl
  · rw [exec_palletRead hr, State.requestPalletRead_unknown (s := s.taking t) (palletIdBad_false h1 h2) hp]
  · rw [exec_palletRead hr, State.requestPalletRead_record (s := s.taking t) (palletIdBad_false h1 h2) hp,
      State.palletBytes, byteOf_byte]
    rfl
  · simp only [State.section, State.lineSection, pumpCode_byte, alarmCode_byte,
      funext AdaRequest.statusBytes_eq]
    rfl
  · simp only [State.section, funext s.segmentEntry_eq]
  · simp only [State.section, Station.statusBytes, stationCauseCode_eq]
  · simp only [State.section, State.conveyorEntry, jamCauseCode_eq]

end Sys2Proof.Machine
end

section
/-! PROOF. Views of a state that the work between the blocks keeps: one law for each kind of update it is made of, and
from them one lemma for each operation. The map, the track hold of S1 and the link's queues are such views. -/

namespace Sys2Proof.Machine

/-- A view of the state that no work between the blocks changes. That work may change every record of LSV, RTU, SQS,
ADA, CVT and SBM; of a segment record everything but its track hold; of the map open indexes only; of a pallet its
overdue flag and its workpiece; and it posts events. -/
structure WorkView (β : Type) where
  view : State → β
  blocks : ∀ (s : State) (lsv : Lsv) (rtu : Rtu) (sqs : Sqs) (ada : Ada) (cvt : Cvt) (sbm : Sbm),
    view { s with lsv := lsv, rtu := rtu, sqs := sqs, ada := ada, cvt := cvt, sbm := sbm } = view s
  modSeg : ∀ (s : State) (k : Nat) (f : Segment → Segment), (∀ g, (f g).trackHold = g.trackHold) →
    view (s.modSeg k f) = view s
  modSegMap : ∀ (s : State) (k : Nat) (f : SegMap → SegMap),
    (∀ m, (f m).nests = m.nests ∧ (f m).certainty = m.certainty) → view (s.modSegMap k f) = view s
  modPallet : ∀ (s : State) (id : Nat) (f : Pallet → Pallet),
    (∀ p, f p = { p with overdue := (f p).overdue, workpiece := (f p).workpiece }) →
    view (s.modPallet id f) = view s
  post : ∀ (s : State) (kind : EventKind) (subject : Subject) (pallet : Option Nat) (detail : Detail),
    view (s.post kind subject pallet detail) = view s

section
variable {β : Type} (w : WorkView β)

/-! ## The primitive updates -/

@[simp] theorem WorkView.ofModSeg (s : State) (k : Nat) (f : Segment → Segment)
    (h : ∀ g, (f g).trackHold = g.trackHold) : w.view (s.modSeg k f) = w.view s := w.modSeg s k f h

@[simp] theorem WorkView.ofModSegMap (s : State) (k : Nat) (f : SegMap → SegMap)
    (h : ∀ m, (f m).nests = m.nests ∧ (f m).certainty = m.certainty) : w.view (s.modSegMap k f) = w.view s :=
  w.modSegMap s k f h

@[simp] theorem WorkView.ofModPallet (s : State) (id : Nat) (f : Pallet → Pallet)
    (h : ∀ p, f p = { p with overdue := (f p).overdue, workpiece := (f p).workpiece }) :
    w.view (s.modPallet id f) = w.view s := w.modPallet s id f h

@[simp] theorem WorkView.ofPost (s : State) (kind : EventKind) (subject : Subject) (pallet : Option Nat)
    (detail : Detail) : w.view (s.post kind subject pallet detail) = w.view s := w.post s kind subject pallet detail

@[simp] theorem WorkView.modStation (s : State) (n : Nat) (f : Station → Station) :
    w.view (s.modStation n f) = w.view s := w.blocks ..

@[simp] theorem WorkView.setCommon (s : State) (k : Nat) (c : CommonState) :
    w.view (s.setCommon k c) = w.view s := w.blocks ..

@[simp] theorem WorkView.modConv (s : State) (c : ConvId) (f : Conveyor → Conveyor) :
    w.view (s.modConv c f) = w.view s := w.blocks ..

@[simp] theorem WorkView.modNode (s : State) (a : Nat) (f : Node → Node) : w.view (s.modNode a f) = w.view s :=
  w.blocks ..

@[simp] theorem WorkView.modAda (s : State) (f : Ada → Ada) : w.view (s.modAda f) = w.view s := w.blocks ..

@[simp] theorem WorkView.modRtu (s : State) (f : Rtu → Rtu) : w.view (s.modRtu f) = w.view s := w.blocks ..

@[simp] theorem WorkView.modLsv (s : State) (f : Lsv → Lsv) : w.view (s.modLsv f) = w.view s := w.blocks ..

@[simp] theorem WorkView.setPermit (s : State) (k : Nat) (p : Bool) : w.view (s.setPermit k p) = w.view s :=
  w.blocks ..

@[simp] theorem WorkView.modSbm (s : State) (f : Sbm → Sbm) : w.view (s.modSbm f) = w.view s := w.blocks ..

@[simp] theorem WorkView.postCmd (s : State) (a : Nat) (code : CmdCode) (args : List Byte) :
    w.view (s.postCmd a code args) = w.view s := w.blocks ..

@[simp] theorem WorkView.setPassOver (s : State) (n : Nat) : w.view (s.setPassOver n) = w.view s := w.blocks ..

@[simp] theorem WorkView.ofCvt (s : State) (x : Cvt) : w.view { s with cvt := x } = w.view s := w.blocks ..

@[simp] theorem WorkView.ofSqs (s : State) (x : Sqs) : w.view { s with sqs := x } = w.view s := w.blocks ..

@[simp] theorem WorkView.takeNotices (s : State) : w.view s.takeNotices = w.view s := w.blocks ..

@[simp] theorem WorkView.forEach {α : Type} {f : α → State → State} (h : ∀ a x, w.view (f a x) = w.view x)
    (l : List α) (s : State) : w.view (forEach f l s) = w.view s := forEach_view w.view h l s

/-! ## The operations -/

@[simp] theorem WorkView.replaceCmd (s : State) (a : Nat) (code : CmdCode) :
    w.view (s.replaceCmd a code) = w.view s := by
  unfold State.replaceCmd
  (repeat' split) <;> simp

@[simp] theorem WorkView.postDrive (s : State) (k : Nat) (code : CmdCode) :
    w.view (s.postDrive k code) = w.view s := by
  simp [State.postDrive]

@[simp] theorem WorkView.modWorkpiece (s : State) (id : Nat) (f : Workpiece → Workpiece) :
    w.view (s.modWorkpiece id f) = w.view s := by
  simp [State.modWorkpiece]

@[simp] theorem WorkView.trkOpDone (s : State) (n id : Nat) : w.view (s.trkOpDone n id) = w.view s := by
  simp only [State.trkOpDone]
  (repeat' split) <;> simp

@[simp] theorem WorkView.trkOpMissed (s : State) (n id : Nat) : w.view (s.trkOpMissed n id) = w.view s := by
  simp [State.trkOpMissed]

@[simp] theorem WorkView.trkDefect (s : State) (n id : Nat) (cause : DefectCause) (ms : Nat) :
    w.view (s.trkDefect n id cause ms) = w.view s := by
  simp [State.trkDefect]

@[simp] theorem WorkView.owe (s : State) (k : Nat) (code : CmdCode) : w.view (s.owe k code) = w.view s := by
  simp [State.owe]

@[simp] theorem WorkView.needDrive (s : State) (k : Nat) (code : CmdCode) :
    w.view (s.needDrive k code) = w.view s := by
  unfold State.needDrive
  (repeat' split) <;> simp

@[simp] theorem WorkView.postOwed (s : State) (k : Nat) : w.view (s.postOwed k) = w.view s := by
  unfold State.postOwed
  (repeat' split) <;> simp

@[simp] theorem WorkView.scReleaseAllDue (s : State) (k : Nat) : w.view (s.scReleaseAllDue k) = w.view s := by
  simp [State.scReleaseAllDue]

@[simp] theorem WorkView.adaSettle (s : State) : w.view s.adaSettle = w.view s := by
  simp [State.adaSettle]

@[simp] theorem WorkView.cvtCarry (s : State) (k : Nat) (dest : Option ConvId) :
    w.view (s.cvtCarry k dest) = w.view s := by
  unfold State.cvtCarry
  (repeat' split) <;> simp

@[simp] theorem WorkView.scAdmitted (s : State) (k : Nat) : w.view (s.scAdmitted k) = w.view s := by
  simp [State.scAdmitted]

@[simp] theorem WorkView.adaAdmit (s : State) (q : AdaRequest) : w.view (s.adaAdmit q) = w.view s := by
  simp [State.adaAdmit]

@[simp] theorem WorkView.adaRefresh (s : State) : w.view s.adaRefresh = w.view s := by
  simp [State.adaRefresh]

@[simp] theorem WorkView.staggerPassed (s : State) : w.view s.staggerPassed = w.view s := by
  unfold State.staggerPassed
  split <;> simp

@[simp] theorem WorkView.adaRounds (n : Nat) (s : State) : w.view (State.adaRounds n s) = w.view s := by
  induction n generalizing s with
  | zero => simp [State.adaRounds]
  | succ n ih =>
    simp only [State.adaRounds]
    split <;> simp [ih]

@[simp] theorem WorkView.adaEvaluate (s : State) : w.view s.adaEvaluate = w.view s := by
  simp [State.adaEvaluate]

@[simp] theorem WorkView.adaEnqueue (s : State) (k : Nat) (entryTaken : Bool) (n : Nat) :
    w.view (s.adaEnqueue k entryTaken n) = w.view s := by
  simp [State.adaEnqueue]

@[simp] theorem WorkView.adaWithdraw (s : State) (k : Nat) : w.view (s.adaWithdraw k) = w.view s := by
  simp [State.adaWithdraw]

@[simp] theorem WorkView.scEnqueue (s : State) (k : Nat) (entryTaken : Bool) :
    w.view (s.scEnqueue k entryTaken) = w.view s := by
  simp only [State.scEnqueue]
  (repeat' split) <;> simp

@[simp] theorem WorkView.scFeed (s : State) (k : Nat) : w.view (s.scFeed k) = w.view s := by
  unfold State.scFeed
  (repeat' split) <;> simp

@[simp] theorem WorkView.stopFeed (s : State) (k : Nat) : w.view (s.stopFeed k) = w.view s := by
  simp [State.stopFeed]

@[simp] theorem WorkView.scRoomGranted (s : State) (k : Nat) (c : ConvId) :
    w.view (s.scRoomGranted k c) = w.view s := by
  simp only [State.scRoomGranted]
  (repeat' split) <;> simp

@[simp] theorem WorkView.addReservation (s : State) (c : ConvId) (h : Holder) (st : ResStatus) :
    w.view (s.addReservation c h st) = w.view s := by
  simp [State.addReservation]

@[simp] theorem WorkView.grantSegment (s : State) (c : ConvId) (k : Nat) :
    w.view (s.grantSegment c k) = w.view s := by
  simp [State.grantSegment]

@[simp] theorem WorkView.grantSpur (s : State) : w.view s.grantSpur = w.view s := by
  simp [State.grantSpur]

@[simp] theorem WorkView.grantRounds (c : ConvId) (n : Nat) (s : State) :
    w.view (State.grantRounds c n s) = w.view s := by
  induction n generalizing s with
  | zero => simp [State.grantRounds]
  | succ n ih =>
    simp only [State.grantRounds]
    (repeat' split) <;> simp [ih]

@[simp] theorem WorkView.mergeRounds (n : Nat) (s : State) : w.view (State.mergeRounds n s) = w.view s := by
  induction n generalizing s with
  | zero => simp [State.mergeRounds]
  | succ n ih =>
    simp only [State.mergeRounds]
    (repeat' split) <;> simp [ih]

@[simp] theorem WorkView.grantPass (s : State) (c : ConvId) : w.view (s.grantPass c) = w.view s := by
  simp only [State.grantPass]
  split <;> simp

@[simp] theorem WorkView.requestRoom (s : State) (c : ConvId) (h : Holder) :
    w.view (s.requestRoom c h) = w.view s := by
  simp [State.requestRoom]

@[simp] theorem WorkView.cancelRequest (s : State) (c : ConvId) (h : Holder) :
    w.view (s.cancelRequest c h) = w.view s := by
  simp [State.cancelRequest]

@[simp] theorem WorkView.removeReservation (s : State) (c : ConvId) (h : Holder) :
    w.view (s.removeReservation c h) = w.view s := by
  simp [State.removeReservation]

@[simp] theorem WorkView.releaseRoom (s : State) (c : ConvId) (h : Holder) :
    w.view (s.releaseRoom c h) = w.view s := by
  simp [State.releaseRoom]

@[simp] theorem WorkView.giveUpRoom (s : State) (k : Nat) : w.view (s.giveUpRoom k) = w.view s := by
  simp only [State.giveUpRoom]
  (repeat' split) <;> simp

@[simp] theorem WorkView.postpone (s : State) (id laps : Nat) : w.view (s.postpone id laps) = w.view s := by
  simp only [State.postpone]
  (repeat' split) <;> simp

@[simp] theorem WorkView.divertChoice (s : State) (id : Nat) : w.view (s.divertChoice id) = w.view s := by
  simp only [State.divertChoice]
  (repeat' split) <;> simp

@[simp] theorem WorkView.seekRoom (s : State) (k id : Nat) : w.view (s.seekRoom k id) = w.view s := by
  simp only [State.seekRoom]
  (repeat' split) <;> simp

@[simp] theorem WorkView.scTest (s : State) (k : Nat) : w.view (s.scTest k) = w.view s := by
  simp only [State.scTest]
  (repeat' split) <;> simp

@[simp] theorem WorkView.scMaybeReady (s : State) (k : Nat) : w.view (s.scMaybeReady k) = w.view s := by
  unfold State.scMaybeReady
  (repeat' split) <;> simp

@[simp] theorem WorkView.scWithdraw (s : State) (k : Nat) (target : SegState) (releaseIt : Bool) :
    w.view (s.scWithdraw k target releaseIt) = w.view s := by
  simp only [State.scWithdraw]
  (repeat' split) <;> simp

@[simp] theorem WorkView.scStationsFree (s : State) (k : Nat) (free : Bool) :
    w.view (s.scStationsFree k free) = w.view s := by
  simp only [State.scStationsFree]
  (repeat' split) <;> simp

@[simp] theorem WorkView.loadDone (s : State) (id : Nat) : w.view (s.loadDone id) = w.view s := by
  simp only [State.loadDone]
  (repeat' split) <;> simp

@[simp] theorem WorkView.unloadDone (s : State) (n id : Nat) (disposition : Disposition) :
    w.view (s.unloadDone n id disposition) = w.view s := by
  simp only [State.unloadDone]
  (repeat' split) <;> simp

@[simp] theorem WorkView.sqsAfter (s : State) (k : Nat) : w.view (s.sqsAfter k) = w.view s := by
  simp only [State.sqsAfter]
  (repeat' split) <;> simp

@[simp] theorem WorkView.outcomeGiven (s : State) (n : Nat) : w.view (s.outcomeGiven n) = w.view s := by
  simp [State.outcomeGiven]

@[simp] theorem WorkView.handOn (s : State) (n : Nat) (e : JobEnd) : w.view (s.handOn n e) = w.view s := by
  simp only [State.handOn]
  (repeat' split) <;> simp

@[simp] theorem WorkView.handOnDone (s : State) (n : Nat) (short : Option Nat) :
    w.view (s.handOnDone n short) = w.view s := by
  simp only [State.handOnDone]
  (repeat' split) <;> simp

@[simp] theorem WorkView.stationFault (s : State) (n : Nat) (cause : StationCause) (e : JobEnd) :
    w.view (s.stationFault n cause e) = w.view s := by
  simp only [State.stationFault]
  (repeat' split) <;> simp

@[simp] theorem WorkView.stationIdle (s : State) (n : Nat) (to' : StationState) :
    w.view (s.stationIdle n to') = w.view s := by
  simp [State.stationIdle]

@[simp] theorem WorkView.stationUnclamp (s : State) (n tUnclampMax : Nat) :
    w.view (s.stationUnclamp n tUnclampMax) = w.view s := by
  simp [State.stationUnclamp]

@[simp] theorem WorkView.stationRetract (s : State) (n : Nat) : w.view (s.stationRetract n) = w.view s := by
  simp only [State.stationRetract]
  (repeat' split) <;> simp

@[simp] theorem WorkView.sqsJob (s : State) (n : Nat) (o : JobOrder) : w.view (s.sqsJob n o) = w.view s := by
  simp only [State.sqsJob]
  (repeat' split) <;> simp

@[simp] theorem WorkView.settleExpires (s : State) (n : Nat) : w.view (s.settleExpires n) = w.view s := by
  unfold State.settleExpires
  (repeat' split) <;> simp

@[simp] theorem WorkView.stationClamped (s : State) (n : Nat) (r : StationRecord) :
    w.view (s.stationClamped n r) = w.view s := by
  simp only [State.stationClamped]
  (repeat' split) <;> simp

@[simp] theorem WorkView.stationCycleDone (s : State) (n : Nat) (r : StationRecord) :
    w.view (s.stationCycleDone n r) = w.view s := by
  simp only [State.stationCycleDone]
  (repeat' split) <;> simp

@[simp] theorem WorkView.stationClearReport (s : State) (n : Nat) (r : StationRecord) (rep : StationReport) :
    w.view (s.stationClearReport n r rep) = w.view s := by
  unfold State.stationClearReport
  (repeat' split) <;> simp

@[simp] theorem WorkView.reportFault (s : State) (n : Nat) (r : StationRecord) (cause : StationCause) (e : JobEnd)
    (retract : Bool) : w.view (s.reportFault n r cause e retract) = w.view s := by
  simp only [State.reportFault]
  (repeat' split) <;> simp

@[simp] theorem WorkView.reportInReleased (s : State) (n : Nat) (r : StationRecord) (rep : StationReport) :
    w.view (s.reportInReleased n r rep) = w.view s := by
  unfold State.reportInReleased
  (repeat' split) <;> simp

@[simp] theorem WorkView.reportInClamping (s : State) (n : Nat) (r : StationRecord) (rep : StationReport) :
    w.view (s.reportInClamping n r rep) = w.view s := by
  unfold State.reportInClamping
  (repeat' split) <;> simp

@[simp] theorem WorkView.reportInClamped (s : State) (n : Nat) (r : StationRecord) (rep : StationReport) :
    w.view (s.reportInClamped n r rep) = w.view s := by
  unfold State.reportInClamped
  (repeat' split) <;> simp

@[simp] theorem WorkView.reportInCycle (s : State) (n : Nat) (r : StationRecord) (rep : StationReport) :
    w.view (s.reportInCycle n r rep) = w.view s := by
  unfold State.reportInCycle
  (repeat' split) <;> simp

@[simp] theorem WorkView.reportInDoneHeld (s : State) (n : Nat) (r : StationRecord) (rep : StationReport) :
    w.view (s.reportInDoneHeld n r rep) = w.view s := by
  unfold State.reportInDoneHeld
  (repeat' split) <;> simp

@[simp] theorem WorkView.reportInUnclamping (s : State) (n : Nat) (r : StationRecord) (rep : StationReport) :
    w.view (s.reportInUnclamping n r rep) = w.view s := by
  unfold State.reportInUnclamping
  (repeat' split) <;> simp

@[simp] theorem WorkView.reportInLockout (s : State) (n : Nat) (r : StationRecord) (rep : StationReport) :
    w.view (s.reportInLockout n r rep) = w.view s := by
  unfold State.reportInLockout
  (repeat' split) <;> simp

@[simp] theorem WorkView.actOnStationReport (s : State) (n : Nat) (r : StationRecord) (rep : StationReport) :
    w.view (s.actOnStationReport n r rep) = w.view s := by
  unfold State.actOnStationReport
  (repeat' split) <;> simp

@[simp] theorem WorkView.sqsReport (s : State) (n : Nat) (rep : StationReport) (faultCode : Nat) :
    w.view (s.sqsReport n rep faultCode) = w.view s := by
  simp only [State.sqsReport]
  (repeat' split) <;> simp

@[simp] theorem WorkView.sqsDelivered (s : State) (n : Nat) (code : CmdCode) :
    w.view (s.sqsDelivered n code) = w.view s := by
  unfold State.sqsDelivered
  (repeat' split) <;> simp

@[simp] theorem WorkView.stationClearFails (s : State) (n : Nat) (cause : StationCause) :
    w.view (s.stationClearFails n cause) = w.view s := by
  simp [State.stationClearFails]

@[simp] theorem WorkView.sqsRefused (s : State) (n : Nat) (code : CmdCode) :
    w.view (s.sqsRefused n code) = w.view s := by
  unfold State.sqsRefused
  (repeat' split) <;> simp

@[simp] theorem WorkView.sqsLost (s : State) (n : Nat) : w.view (s.sqsLost n) = w.view s := by
  simp only [State.sqsLost]
  (repeat' split) <;> simp

@[simp] theorem WorkView.commonDelivered (s : State) (k : Nat) : w.view (s.commonDelivered k) = w.view s := by
  simp [State.commonDelivered, apply_ite w.view]

@[simp] theorem WorkView.commonRefused (s : State) (k : Nat) : w.view (s.commonRefused k) = w.view s := by
  simp [State.commonRefused, apply_ite w.view]

@[simp] theorem WorkView.commonSuperseded (s : State) (k : Nat) : w.view (s.commonSuperseded k) = w.view s := by
  simp [State.commonSuperseded]

@[simp] theorem WorkView.haltStation (s : State) (n : Nat) : w.view (s.haltStation n) = w.view s := by
  unfold State.haltStation
  (repeat' split) <;> simp

@[simp] theorem WorkView.haltStations (s : State) : w.view s.haltStations = w.view s := by
  simp [State.haltStations]

@[simp] theorem WorkView.recoverStation (s : State) (n : Nat) : w.view (s.recoverStation n) = w.view s := by
  simp only [State.recoverStation]
  (repeat' split) <;> simp

@[simp] theorem WorkView.recoverStations (s : State) : w.view s.recoverStations = w.view s := by
  simp [State.recoverStations]

@[simp] theorem WorkView.clampExpires (s : State) (n : Nat) : w.view (s.clampExpires n) = w.view s := by
  simp only [State.clampExpires]
  (repeat' split) <;> simp

@[simp] theorem WorkView.cycleExpires (s : State) (n : Nat) : w.view (s.cycleExpires n) = w.view s := by
  simp only [State.cycleExpires]
  (repeat' split) <;> simp

@[simp] theorem WorkView.unclampExpires (s : State) (n : Nat) : w.view (s.unclampExpires n) = w.view s := by
  unfold State.unclampExpires
  (repeat' split) <;> simp

@[simp] theorem WorkView.commonExpires (s : State) (k : Nat) : w.view (s.commonExpires k) = w.view s := by
  simp [State.commonExpires, apply_ite w.view]

@[simp] theorem WorkView.stationClearExpires (s : State) (n : Nat) : w.view (s.stationClearExpires n) = w.view s := by
  unfold State.stationClearExpires
  (repeat' split) <;> simp

@[simp] theorem WorkView.withdrawReservation (s : State) (c : ConvId) (k : Nat) :
    w.view (s.withdrawReservation c k) = w.view s := by
  simp only [State.withdrawReservation]
  (repeat' split) <;> simp

@[simp] theorem WorkView.jam (s : State) (c : ConvId) (cause : JamCause) (pallet : Option Nat) :
    w.view (s.jam c cause pallet) = w.view s := by
  simp only [State.jam]
  (repeat' split) <;> simp

@[simp] theorem WorkView.travelJam (s : State) (c : ConvId) : w.view (s.travelJam c) = w.view s := by
  simp [State.travelJam]

@[simp] theorem WorkView.setTravel (s : State) (c : ConvId) : w.view (s.setTravel c) = w.view s := by
  simp [State.setTravel]

@[simp] theorem WorkView.syncTravel (s : State) (was : Option Nat) (c : ConvId) :
    w.view (s.syncTravel was c) = w.view s := by
  simp only [State.syncTravel]
  (repeat' split) <;> simp

@[simp] theorem WorkView.travelExpires (s : State) (c : ConvId) : w.view (s.travelExpires c) = w.view s := by
  unfold State.travelExpires
  (repeat' split) <;> simp

@[simp] theorem WorkView.expectMore (s : State) (c : ConvId) : w.view (s.expectMore c) = w.view s := by
  simp [State.expectMore]

@[simp] theorem WorkView.expectFewer (s : State) (c : ConvId) : w.view (s.expectFewer c) = w.view s := by
  simp [State.expectFewer]

@[simp] theorem WorkView.stopTravel (s : State) : w.view s.stopTravel = w.view s := w.blocks ..

@[simp] theorem WorkView.convLost (s : State) (c : ConvId) : w.view (s.convLost c) = w.view s := by
  simp [State.convLost]

@[simp] theorem WorkView.loadDecision (s : State) (n id : Nat) (p : Pallet) :
    w.view (s.loadDecision n id p) = w.view s := by
  simp only [State.loadDecision]
  (repeat' split) <;> simp

@[simp] theorem WorkView.arrival (s : State) (k j id : Nat) : w.view (s.arrival k j id) = w.view s := by
  simp only [State.arrival]
  (repeat' split) <;> simp

@[simp] theorem WorkView.tryCheck (s : State) : w.view s.tryCheck = w.view s := by
  simp only [State.tryCheck]
  (repeat' split) <;> simp

@[simp] theorem WorkView.vsHeadNotice (s : State) : w.view s.vsHeadNotice = w.view s := by
  simp only [State.vsHeadNotice]
  (repeat' split) <;> simp

@[simp] theorem WorkView.passCheck (s : State) : w.view s.passCheck = w.view s := by
  simp [State.passCheck]

@[simp] theorem WorkView.checkDelivered (s : State) : w.view s.checkDelivered = w.view s := by
  unfold State.checkDelivered
  (repeat' split) <;> simp

@[simp] theorem WorkView.checkSuperseded (s : State) : w.view s.checkSuperseded = w.view s := by
  unfold State.checkSuperseded
  (repeat' split) <;> simp

@[simp] theorem WorkView.dropSpur (s : State) : w.view s.dropSpur = w.view s := by
  simp only [State.dropSpur]
  split <;> simp

@[simp] theorem WorkView.abandonCheck (s : State) (id : Nat) : w.view (s.abandonCheck id) = w.view s := by
  simp only [State.abandonCheck]
  (repeat' split) <;> simp

@[simp] theorem WorkView.headNotice (s : State) (c : ConvId) : w.view (s.headNotice c) = w.view s := by
  unfold State.headNotice
  (repeat' split) <;> simp

@[simp] theorem WorkView.convNotice (s : State) (c : ConvId) (st : NodeStatus) (isReturn : Bool) :
    w.view (s.convNotice c st isReturn) = w.view s := by
  unfold State.convNotice
  (repeat' split) <;> simp

@[simp] theorem WorkView.endStaleRelease (s : State) : w.view s.endStaleRelease = w.view s := by
  simp [State.endStaleRelease]

@[simp] theorem WorkView.requeueSpur (s : State) : w.view s.requeueSpur = w.view s := by
  simp [State.requeueSpur]

@[simp] theorem WorkView.releaseRefused (s : State) : w.view s.releaseRefused = w.view s := by
  unfold State.releaseRefused
  (repeat' split) <;> simp

@[simp] theorem WorkView.releaseSuperseded (s : State) : w.view s.releaseSuperseded = w.view s := by
  unfold State.releaseSuperseded
  (repeat' split) <;> simp

@[simp] theorem WorkView.destinationSettled (s : State) (k : Nat) (oi : OpenIndex) (joined : Bool) :
    w.view (s.destinationSettled k oi joined) = w.view s := by
  unfold State.destinationSettled
  (repeat' split) <;> simp

@[simp] theorem WorkView.upstreamSettled (s : State) (k : Nat) (oi : OpenIndex) :
    w.view (s.upstreamSettled k oi) = w.view s := by
  unfold State.upstreamSettled
  (repeat' split) <;> simp

@[simp] theorem WorkView.noticeN1 (s : State) (id : Option Nat) : w.view (s.noticeN1 id) = w.view s := by
  unfold State.noticeN1
  (repeat' split) <;> simp

@[simp] theorem WorkView.giveNotices (s : State) (k : Nat) (l : List (Nat × Nat)) :
    w.view (s.giveNotices k l) = w.view s := by
  simp [State.giveNotices]

@[simp] theorem WorkView.withdrawCounting (s : State) (l : List Nat) : w.view (s.withdrawCounting l) = w.view s := by
  simp [State.withdrawCounting]

@[simp] theorem WorkView.postMotionFault (s : State) (k : Nat) (cause : SegCause) :
    w.view (s.postMotionFault k cause) = w.view s := by
  simp [State.postMotionFault]

@[simp] theorem WorkView.driveSuperseded (s : State) (k : Nat) (code : CmdCode) :
    w.view (s.driveSuperseded k code) = w.view s := by
  unfold State.driveSuperseded
  (repeat' split) <;> simp

@[simp] theorem WorkView.postFeedhold (s : State) (k : Nat) : w.view (s.postFeedhold k) = w.view s := by
  simp only [State.postFeedhold]
  (repeat' split) <;> simp

@[simp] theorem WorkView.leaveQueue (s : State) (k : Nat) (was target : SegState) :
    w.view (s.leaveQueue k was target) = w.view s := by
  unfold State.leaveQueue
  (repeat' split) <;> simp

@[simp] theorem WorkView.barAtRest (s : State) (k : Nat) : w.view (s.barAtRest k) = w.view s := by
  simp [State.barAtRest]

@[simp] theorem WorkView.segCleared (s : State) (k : Nat) : w.view (s.segCleared k) = w.view s := by
  unfold State.segCleared
  (repeat' split) <;> simp

@[simp] theorem WorkView.faultReport (s : State) (k : Nat) (p : DrivePhase) :
    w.view (s.faultReport k p) = w.view s := by
  unfold State.faultReport
  (repeat' split) <;> simp

@[simp] theorem WorkView.startPhase (s : State) (k limit : Nat) : w.view (s.startPhase k limit) = w.view s := by
  unfold State.startPhase
  (repeat' split) <;> simp

@[simp] theorem WorkView.feedholdDelivered (s : State) (k : Nat) : w.view (s.feedholdDelivered k) = w.view s := by
  simp only [State.feedholdDelivered]
  (repeat' split) <;> simp

@[simp] theorem WorkView.resumeDelivered (s : State) (k : Nat) : w.view (s.resumeDelivered k) = w.view s := by
  unfold State.resumeDelivered
  (repeat' split) <;> simp

@[simp] theorem WorkView.actOnDelivery (s : State) (k : Nat) (code : CmdCode) :
    w.view (s.actOnDelivery k code) = w.view s := by
  unfold State.actOnDelivery
  (repeat' split) <;> simp

@[simp] theorem WorkView.driveDelivered (s : State) (k : Nat) (code : CmdCode) :
    w.view (s.driveDelivered k code) = w.view s := by
  simp [State.driveDelivered]

@[simp] theorem WorkView.segClearFails (s : State) (k : Nat) (cause : SegCause) :
    w.view (s.segClearFails k cause) = w.view s := by
  simp [State.segClearFails]

@[simp] theorem WorkView.feedHold (s : State) (k : Nat) : w.view (s.feedHold k) = w.view s := by
  unfold State.feedHold
  (repeat' split) <;> simp

@[simp] theorem WorkView.holdSegment (s : State) (k : Nat) : w.view (s.holdSegment k) = w.view s := by
  simp only [State.holdSegment]
  (repeat' split) <;> simp

@[simp] theorem WorkView.feedContinue (s : State) (k : Nat) : w.view (s.feedContinue k) = w.view s := by
  unfold State.feedContinue
  (repeat' split) <;> simp

@[simp] theorem WorkView.startSegment (s : State) (k : Nat) : w.view (s.startSegment k) = w.view s := by
  unfold State.startSegment
  (repeat' split) <;> simp

@[simp] theorem WorkView.stopSegment (s : State) (k : Nat) : w.view (s.stopSegment k) = w.view s := by
  unfold State.stopSegment
  (repeat' split) <;> simp

@[simp] theorem WorkView.feedWaitExpires (s : State) (k : Nat) : w.view (s.feedWaitExpires k) = w.view s := by
  unfold State.feedWaitExpires
  (repeat' split) <;> simp

@[simp] theorem WorkView.segClearExpires (s : State) (k : Nat) : w.view (s.segClearExpires k) = w.view s := by
  unfold State.segClearExpires
  (repeat' split) <;> simp

@[simp] theorem WorkView.hpuReport (s : State) (pump alarm : Bool) : w.view (s.hpuReport pump alarm) = w.view s := by
  simp only [State.hpuReport]
  (repeat' split) <;> simp

@[simp] theorem WorkView.hpuLost (s : State) : w.view s.hpuLost = w.view s := by
  simp only [State.hpuLost]
  (repeat' split) <;> simp

@[simp] theorem WorkView.ownerNotice (s : State) (r : Role) (st : NodeStatus) (isReturn : Bool) :
    w.view (s.ownerNotice r st isReturn) = w.view s := by
  unfold State.ownerNotice
  (repeat' split) <;> simp

@[simp] theorem WorkView.modeSegment (s : State) (k : Nat) : w.view (s.modeSegment k) = w.view s := by
  unfold State.modeSegment
  (repeat' split) <;> simp

@[simp] theorem WorkView.grantPermit (s : State) (k : Nat) : w.view (s.grantPermit k) = w.view s := by
  unfold State.grantPermit
  (repeat' split) <;> simp

end

end Sys2Proof.Machine
end

section
/-! PROOF. The queues (R17, R176 to R178, R184): what of the cell link and the Pallet Table the effects between the
blocks keep, what a request does to it, and that every step keeps the capacities (O15). -/

namespace Sys2Proof.Machine

/-- What `State.QueuesWithin` speaks of: the link's queues, whether the Event Queue is within its capacity, and the
number of pallet records. -/
structure Queues where
  requests : List Frame
  replies : List Reply
  sending : Option (List Byte)
  restarting : Bool
  eventsFit : Prop
  pallets : Nat

/-- A posting keeps an Event Queue within its capacity, and one beyond it as long as it is (R184). -/
theorem Clp.postEvent_fits (c : Clp) (e : Event) :
    (c.postEvent e).events.length ≤ Config.eventQueueCapacity ↔ c.events.length ≤ Config.eventQueueCapacity := by
  simp only [Config.eventQueueCapacity]
  unfold Clp.postEvent
  split
  · rename_i hroom
    simp only [Config.eventQueueCapacity] at hroom
    simp only [List.length_append, List.length_singleton]
    omega
  · rename_i hfull
    simp only [Config.eventQueueCapacity] at hfull
    simp only [List.length_append, List.length_drop, List.length_singleton]
    omega

/-- A posting touches the Event Queue and no other queue of the link. -/
theorem Clp.postEvent_queues (c : Clp) (e : Event) :
    (c.postEvent e).requests = c.requests ∧ (c.postEvent e).replies = c.replies
      ∧ (c.postEvent e).sending = c.sending ∧ (c.postEvent e).restarting = c.restarting := by
  unfold Clp.postEvent
  split <;> exact ⟨rfl, rfl, rfl, rfl⟩

/-- The queues are a view that the work between the blocks keeps. -/
def queues : WorkView Queues where
  view s :=
    { requests := s.clp.requests, replies := s.clp.replies, sending := s.clp.sending,
      restarting := s.clp.restarting,
      eventsFit := s.clp.events.length ≤ Config.eventQueueCapacity, pallets := s.trk.pallets.length }
  blocks _ _ _ _ _ _ _ := rfl
  modSeg _ _ _ _ := rfl
  modSegMap _ _ _ _ := rfl
  modPallet s id f _ := by
    simp only [State.modPallet, tableModify_length]
  post s kind subject pallet detail := by
    obtain ⟨hrequests, hreplies, hsending, hrestarting⟩ := Clp.postEvent_queues s.clp
      { kind := kind, time := s.clock, subject := subject, pallet := pallet, detail := detail }
    simp only [State.post, State.modClp, hrequests, hreplies, hsending, hrestarting, Clp.postEvent_fits]

/-! ## Updates of the map -/

section
variable (s : State)

@[simp] theorem queues_modSeg (k : Nat) (f : Segment → Segment) : queues.view (s.modSeg k f) = queues.view s := rfl

@[simp] theorem queues_modSegMap (k : Nat) (f : SegMap → SegMap) :
    queues.view (s.modSegMap k f) = queues.view s := rfl

@[simp] theorem queues_modPallet (id : Nat) (f : Pallet → Pallet) :
    queues.view (s.modPallet id f) = queues.view s := by
  simp [queues]

@[simp] theorem queues_setList (c : ConvId) (l : List Entry) : queues.view (s.setList c l) = queues.view s := rfl

@[simp] theorem queues_setTag (c : TagCheck) : queues.view (s.setTag c) = queues.view s := rfl

@[simp] theorem queues_syncPlacements : queues.view s.syncPlacements = queues.view s := by
  simp [queues, State.syncPlacements]

@[simp] theorem queues_restamped (t : LineTime) :
    queues.view { s with trk := { s.trk with lists := s.trk.lists.map fun p => (p.1, restampInTransit t p.2) } }
      = queues.view s := rfl

@[simp] theorem queues_imaged (i : Option Nat) :
    queues.view { s with trk := { s.trk with readerImage := i } } = queues.view s := rfl

end

/-! ## The operations that change the map -/

@[simp] theorem queues_countIndex (s : State) (id : Nat) : queues.view (s.countIndex id) = queues.view s := by
  simp [State.countIndex]

@[simp] theorem queues_countLap (s : State) (id : Nat) : queues.view (s.countLap id) = queues.view s := by
  simp [State.countLap]

@[simp] theorem queues_restartTravel (s : State) : queues.view s.restartTravel = queues.view s := by
  simp [State.restartTravel]

@[simp] theorem queues_verifyPass (s : State) (id : Nat) : queues.view (s.verifyPass id) = queues.view s := by
  simp [State.verifyPass]

@[simp] theorem queues_verifyFail (s : State) (id : Nat) : queues.view (s.verifyFail id) = queues.view s := by
  simp [State.verifyFail]

@[simp] theorem queues_verifyReport (s : State) (st : VerifyState) (seq : Nat) :
    queues.view (s.verifyReport st seq) = queues.view s := by
  simp only [State.verifyReport]
  (repeat' split) <;> simp

@[simp] theorem queues_checkRefused (s : State) : queues.view s.checkRefused = queues.view s := by
  simp only [State.checkRefused]
  (repeat' split) <;> simp

@[simp] theorem queues_credit (s : State) (c : ConvId) (n : Nat) : queues.view (s.credit c n) = queues.view s := by
  simp only [State.credit]
  (repeat' split) <;> simp

@[simp] theorem queues_takeCount (s : State) (c : ConvId) (count : Nat) :
    queues.view (s.takeCount c count) = queues.view s := by
  simp only [State.takeCount]
  (repeat' split) <;> simp

@[simp] theorem queues_conveyorReport (s : State) (c : ConvId) (count : Nat) (jam head : Bool) :
    queues.view (s.conveyorReport c count jam head) = queues.view s := by
  simp only [State.conveyorReport]
  (repeat' split) <;> simp

@[simp] theorem queues_spurMoves (s : State) : queues.view s.spurMoves = queues.view s := by
  simp only [State.spurMoves]
  (repeat' split) <;> simp

@[simp] theorem queues_releaseDelivered (s : State) : queues.view s.releaseDelivered = queues.view s := by
  unfold State.releaseDelivered
  (repeat' split) <;> simp

@[simp] theorem queues_joinTail (s : State) (c : ConvId) (id : Nat) :
    queues.view (s.joinTail c id) = queues.view s := by
  simp [State.joinTail]

@[simp] theorem queues_exitJoins (s : State) (k : Nat) (oi : OpenIndex) :
    queues.view (s.exitJoins k oi) = queues.view s := by
  unfold State.exitJoins
  (repeat' split) <;> simp

@[simp] theorem queues_entryLeaves (s : State) (k : Nat) (oi : OpenIndex) :
    queues.view (s.entryLeaves k oi) = queues.view s := by
  unfold State.entryLeaves
  (repeat' split) <;> simp

@[simp] theorem queues_entryLap (s : State) (k : Nat) (oi : OpenIndex) :
    queues.view (s.entryLap k oi) = queues.view s := by
  unfold State.entryLap
  (repeat' split) <;> simp

@[simp] theorem queues_endIndex (s : State) (k : Nat) (nests : List (Option Nat)) (moved : List Nat) :
    queues.view (s.endIndex k nests moved) = queues.view s := by
  simp only [State.endIndex]
  (repeat' split) <;> simp

@[simp] theorem queues_shift (s : State) (k : Nat) (oi : OpenIndex) : queues.view (s.shift k oi) = queues.view s := by
  simp [State.shift]

@[simp] theorem queues_settleByList (s : State) (k : Nat) (oi : OpenIndex) (flag : Bool) (nests : List (Option Nat)) :
    queues.view (s.settleByList k oi flag nests) = queues.view s := by
  simp only [State.settleByList]
  (repeat' split) <;> simp

@[simp] theorem queues_settleBefore (s : State) (k : Nat) (oi : OpenIndex) :
    queues.view (s.settleBefore k oi) = queues.view s := by
  simp only [State.settleBefore]
  (repeat' split) <;> simp

@[simp] theorem queues_setTrackHold (s : State) (b : Bool) : queues.view (s.setTrackHold b) = queues.view s := by
  simp [State.setTrackHold]

@[simp] theorem queues_openTag (s : State) : queues.view s.openTag = queues.view s := by
  simp [State.openTag]

@[simp] theorem queues_closeTag (s : State) (notice : Option Nat) :
    queues.view (s.closeTag notice) = queues.view s := by
  simp [State.closeTag]

@[simp] theorem queues_postTag (s : State) (kind : EventKind) (o : TagOpening) (value : Option Nat) :
    queues.view (s.postTag kind o value) = queues.view s := by
  simp [State.postTag]

@[simp] theorem queues_freshRead (s : State) (o : TagOpening) (value : Nat) :
    queues.view (s.freshRead o value) = queues.view s := by
  simp only [State.freshRead]
  (repeat' split) <;> simp

@[simp] theorem queues_readerReport (s : State) (sequence value : Nat) :
    queues.view (s.readerReport sequence value) = queues.view s := by
  simp only [State.readerReport]
  (repeat' split) <;> simp only [queues_freshRead, queues_imaged]

@[simp] theorem queues_tagReadExpires (s : State) : queues.view s.tagReadExpires = queues.view s := by
  unfold State.tagReadExpires
  (repeat' split) <;> simp

@[simp] theorem queues_markEdited (s : State) : queues.view s.markEdited = queues.view s := by
  unfold State.markEdited
  (repeat' split) <;> simp

@[simp] theorem queues_closeEdited (s : State) : queues.view s.closeEdited = queues.view s := by
  unfold State.closeEdited
  (repeat' split) <;> simp

@[simp] theorem queues_indexNotices (s : State) (k : Nat) (l : List (Nat × Nat)) (opens : Bool) :
    queues.view (s.indexNotices k l opens) = queues.view s := by
  unfold State.indexNotices
  (repeat' split) <;> simp

@[simp] theorem queues_trkComplete (s : State) (k : Nat) : queues.view (s.trkComplete k) = queues.view s := by
  simp only [State.trkComplete]
  (repeat' split) <;> simp

@[simp] theorem queues_confirmAfter (s : State) (k : Nat) (oi : OpenIndex) :
    queues.view (s.confirmAfter k oi) = queues.view s := by
  simp only [State.confirmAfter]
  (repeat' split) <;> simp

@[simp] theorem queues_confirmList (s : State) (k : Nat) (oi : OpenIndex) (flag : Bool) (nests : List (Option Nat)) :
    queues.view (s.confirmList k oi flag nests) = queues.view s := by
  simp only [State.confirmList]
  (repeat' split) <;> simp

@[simp] theorem queues_takeOut (s : State) (id : Nat) (place : PlaceRef) :
    queues.view (s.takeOut id place) = queues.view s := by
  simp only [State.takeOut]
  (repeat' split) <;> simp

@[simp] theorem queues_afterTaking (s : State) (id : Nat) (place : PlaceRef) (counting : List Nat) (was : Option Nat) :
    queues.view (s.afterTaking id place counting was) = queues.view s := by
  simp only [State.afterTaking]
  (repeat' split) <;> simp

@[simp] theorem queues_removePallet (s : State) (id : Nat) (place : PlaceRef) :
    queues.view (s.removePallet id place) = queues.view s := by
  simp [State.removePallet]

@[simp] theorem queues_placeInNest (s : State) (id k j : Nat) :
    queues.view (s.placeInNest id k j) = queues.view s := by
  simp [State.placeInNest]

@[simp] theorem queues_placeOnConveyor (s : State) (id : Nat) (c : ConvId) :
    queues.view (s.placeOnConveyor id c) = queues.view s := by
  simp only [State.placeOnConveyor]
  (repeat' split) <;> simp

@[simp] theorem queues_seatRead (s : State) (id : Nat) : queues.view (s.seatRead id) = queues.view s := by
  simp only [State.seatRead]
  (repeat' split) <;> simp

@[simp] theorem queues_acceptRead (s : State) (value : Nat) : queues.view (s.acceptRead value) = queues.view s := by
  simp only [State.acceptRead]
  (repeat' split) <;> simp

@[simp] theorem queues_lowerCertainty (s : State) (k : Nat) (c : Certainty) :
    queues.view (s.lowerCertainty k c) = queues.view s := by
  simp [State.lowerCertainty]

@[simp] theorem queues_furtherFault (s : State) (k : Nat) (cause : SegCause) :
    queues.view (s.furtherFault k cause) = queues.view s := by
  unfold State.furtherFault
  (repeat' split) <;> simp

@[simp] theorem queues_scFault (s : State) (k : Nat) (cause : SegCause) :
    queues.view (s.scFault k cause) = queues.view s := by
  simp only [State.scFault]
  (repeat' split) <;> simp

@[simp] theorem queues_indexComplete (s : State) (k : Nat) : queues.view (s.indexComplete k) = queues.view s := by
  simp [State.indexComplete]

@[simp] theorem queues_phaseComplete (s : State) (k : Nat) (st : SegState) (completion : DrivePhase) :
    queues.view (s.phaseComplete k st completion) = queues.view s := by
  simp only [State.phaseComplete]
  (repeat' split) <;> simp

@[simp] theorem queues_motionReport (s : State) (k : Nat) (st : SegState) (parts : PhaseParts) (p : DrivePhase) :
    queues.view (s.motionReport k st parts p) = queues.view s := by
  unfold State.motionReport
  (repeat' split) <;> simp

@[simp] theorem queues_barReport (s : State) (k : Nat) (p : DrivePhase) :
    queues.view (s.barReport k p) = queues.view s := by
  unfold State.barReport
  (repeat' split) <;> simp

@[simp] theorem queues_driveReport (s : State) (k : Nat) (p : DrivePhase) :
    queues.view (s.driveReport k p) = queues.view s := by
  simp only [State.driveReport]
  (repeat' split) <;> simp

@[simp] theorem queues_actOnRefusal (s : State) (k : Nat) (code : CmdCode) :
    queues.view (s.actOnRefusal k code) = queues.view s := by
  unfold State.actOnRefusal
  (repeat' split) <;> simp

@[simp] theorem queues_driveRefused (s : State) (k : Nat) (code : CmdCode) :
    queues.view (s.driveRefused k code) = queues.view s := by
  simp [State.driveRefused]

@[simp] theorem queues_driveLost (s : State) (k : Nat) : queues.view (s.driveLost k) = queues.view s := by
  simp only [State.driveLost]
  (repeat' split) <;> simp

@[simp] theorem queues_continueSegment (s : State) (k : Nat) : queues.view (s.continueSegment k) = queues.view s := by
  simp only [State.continueSegment]
  (repeat' split) <;> simp

@[simp] theorem queues_haltSegment (s : State) (k : Nat) : queues.view (s.haltSegment k) = queues.view s := by
  simp only [State.haltSegment]
  (repeat' split) <;> simp

@[simp] theorem queues_phaseExpires (s : State) (k : Nat) : queues.view (s.phaseExpires k) = queues.view s := by
  unfold State.phaseExpires
  (repeat' split) <;> simp

@[simp] theorem queues_ownerLost (s : State) (r : Role) : queues.view (s.ownerLost r) = queues.view s := by
  unfold State.ownerLost
  (repeat' split) <;> simp

@[simp] theorem queues_ownerDelivered (s : State) (r : Role) (code : CmdCode) :
    queues.view (s.ownerDelivered r code) = queues.view s := by
  unfold State.ownerDelivered
  (repeat' split) <;> simp

@[simp] theorem queues_ownerRefused (s : State) (r : Role) (code : CmdCode) :
    queues.view (s.ownerRefused r code) = queues.view s := by
  unfold State.ownerRefused
  (repeat' split) <;> simp

@[simp] theorem queues_ownerReport (s : State) (r : Role) (rep : Report) :
    queues.view (s.ownerReport r rep) = queues.view s := by
  unfold State.ownerReport
  (repeat' split) <;> simp

@[simp] theorem queues_nodeAnswers (s : State) (a : Nat) (n : Node) :
    queues.view (s.nodeAnswers a n) = queues.view s := by
  simp only [State.nodeAnswers]
  (repeat' split) <;> simp

@[simp] theorem queues_nodeEchoes (s : State) (a : Nat) (n : Node) (e : Echo) :
    queues.view (s.nodeEchoes a n e) = queues.view s := by
  simp only [State.nodeEchoes]
  (repeat' split) <;> simp

@[simp] theorem queues_goodReply (s : State) (a : Nat) (n : Node) (e : Echo) (rep : Report) :
    queues.view (s.goodReply a n e rep) = queues.view s := by
  simp [State.goodReply]

@[simp] theorem queues_nodeLost (s : State) (a : Nat) (n : Node) (misses : Nat) :
    queues.view (s.nodeLost a n misses) = queues.view s := by
  simp [State.nodeLost]

@[simp] theorem queues_nodeMisses (s : State) (a : Nat) (n : Node) :
    queues.view (s.nodeMisses a n) = queues.view s := by
  simp only [State.nodeMisses]
  (repeat' split) <;> simp

@[simp] theorem queues_ownerSuperseded (s : State) (r : Role) (code : CmdCode) :
    queues.view (s.ownerSuperseded r code) = queues.view s := by
  unfold State.ownerSuperseded
  (repeat' split) <;> simp

@[simp] theorem queues_haltNode (s : State) (a : Nat) : queues.view (s.haltNode a) = queues.view s := by
  unfold State.haltNode
  (repeat' split) <;> simp

/-! ## The Line Supervisor -/

section
variable (s : State)

/-- The Segment Controllers' table may be replaced: the queues do not look at it. -/
@[simp] theorem queues_ofSc (l : List (Nat × Segment)) : queues.view { s with sc := l } = queues.view s := rfl

@[simp] theorem queues_enterLine (st : LineState) (cause : LineCause) :
    queues.view (s.enterLine st cause) = queues.view s := by
  simp [State.enterLine]

@[simp] theorem queues_leaveStopping : queues.view s.leaveStopping = queues.view s := by
  simp [State.leaveStopping]

@[simp] theorem queues_closeEvent : queues.view s.closeEvent = queues.view s := by
  simp only [State.closeEvent]
  (repeat' split) <;> simp

@[simp] theorem queues_haltBus : queues.view s.haltBus = queues.view s := by
  simp [State.haltBus]

@[simp] theorem queues_enterHalt (cause : LineCause) : queues.view (s.enterHalt cause) = queues.view s := by
  simp [State.enterHalt]

@[simp] theorem queues_setEstop (b : Bool) : queues.view (s.setEstop b) = queues.view s := rfl

@[simp] theorem queues_estopOn : queues.view s.estopOn = queues.view s := by
  simp only [State.estopOn]
  (repeat' split) <;> simp

@[simp] theorem queues_estopOff : queues.view s.estopOff = queues.view s := by
  unfold State.estopOff
  split <;> simp

@[simp] theorem queues_putIntoService : queues.view s.putIntoService = queues.view s := rfl

@[simp] theorem queues_firstScanInHalt : queues.view s.firstScanInHalt = queues.view s := rfl

@[simp] theorem queues_commitLine : queues.view s.commitLine = queues.view s := by
  simp only [State.commitLine]
  split <;> simp

/-- UNCOMMIT clears the placement of every record and removes none (R24). -/
@[simp] theorem queues_uncommitLine : queues.view s.uncommitLine = queues.view s := by
  have hlength : s.uncommitLine.trk.pallets.length = s.trk.pallets.length := List.length_map ..
  calc queues.view s.uncommitLine
      = { queues.view (s.enterLine .config .uncommit) with pallets := s.uncommitLine.trk.pallets.length } := rfl
    _ = queues.view s := by rw [queues_enterLine, hlength]; rfl

@[simp] theorem queues_startLine (m : Mode) : queues.view (s.startLine m) = queues.view s := by
  simp [State.startLine]

@[simp] theorem queues_stopLine : queues.view s.stopLine = queues.view s := by
  simp [State.stopLine]

@[simp] theorem queues_modeLine (m : Mode) : queues.view (s.modeLine m) = queues.view s := by
  simp only [State.modeLine]
  split <;> simp

@[simp] theorem queues_recoverLine : queues.view s.recoverLine = queues.view s := by
  simp [State.recoverLine]

/-! ## The bus and the timers -/

@[simp] theorem queues_closeWindow : queues.view s.closeWindow = queues.view s := rfl

@[simp] theorem queues_replyHeard (chars : List BusChar) : queues.view (s.replyHeard chars) = queues.view s := by
  unfold State.replyHeard
  (repeat' split) <;> simp

@[simp] theorem queues_windowExpires : queues.view s.windowExpires = queues.view s := by
  unfold State.windowExpires
  (repeat' split) <;> simp

@[simp] theorem queues_fallSilent : queues.view s.fallSilent = queues.view s := rfl

@[simp] theorem queues_scanStarts : queues.view s.scanStarts = queues.view s := by
  unfold State.scanStarts
  (repeat' split) <;> simp

@[simp] theorem queues_slotPolls (slot : Nat) : queues.view (s.slotPolls slot) = queues.view s := by
  unfold State.slotPolls
  (repeat' split) <;> simp

@[simp] theorem queues_evaluationExpires : queues.view s.evaluationExpires = queues.view s := by
  unfold State.evaluationExpires
  (repeat' split) <;> simp

@[simp] theorem queues_urgencyExpires (k : Nat) : queues.view (s.urgencyExpires k) = queues.view s := by
  unfold State.urgencyExpires
  split <;> simp

@[simp] theorem queues_hExpires : queues.view s.hExpires = queues.view s := rfl

@[simp] theorem queues_staggerExpires : queues.view s.staggerExpires = queues.view s := by
  unfold State.staggerExpires
  (repeat' split) <;> simp

@[simp] theorem queues_periodExpires (k : Nat) : queues.view (s.periodExpires k) = queues.view s := by
  unfold State.periodExpires
  (repeat' split) <;> simp

@[simp] theorem queues_settleTimerExpires (n : Nat) : queues.view (s.settleTimerExpires n) = queues.view s := by
  unfold State.settleTimerExpires
  split <;> simp

@[simp] theorem queues_travelExpiresAt (n : Nat) : queues.view (s.travelExpiresAt n) = queues.view s := by
  unfold State.travelExpiresAt
  split <;> simp

/-! ## What requests do -/

@[simp] theorem queues_abortStation (n : Nat) (r : StationRecord) :
    queues.view (s.abortStation n r) = queues.view s := by
  simp only [State.abortStation]
  split <;> simp

@[simp] theorem queues_clearStationBy (n : Nat) (r : StationRecord) (rep : StationReport) :
    queues.view (s.clearStationBy n r rep) = queues.view s := by
  cases rep <;> simp [State.clearStationBy]

@[simp] theorem queues_clearConveyor (c : ConvId) : queues.view (s.clearConveyor c) = queues.view s := by
  simp [State.clearConveyor]

end
/-! ## Requests and their answers -/

section
variable (s : State)

@[simp] theorem queues_requestLineSet (body : List Byte) :
    queues.view (s.requestLineSet body).1 = queues.view s := by
  simp only [State.requestLineSet]
  (repeat' split) <;> rfl

@[simp] theorem queues_requestSegmentSet (body : List Byte) :
    queues.view (s.requestSegmentSet body).1 = queues.view s := by
  simp only [State.requestSegmentSet]
  (repeat' split) <;> rfl

@[simp] theorem queues_requestStationSet (body : List Byte) :
    queues.view (s.requestStationSet body).1 = queues.view s := by
  simp only [State.requestStationSet]
  (repeat' split) <;> rfl

@[simp] theorem queues_requestBusSet (body : List Byte) :
    queues.view (s.requestBusSet body).1 = queues.view s := by
  simp only [State.requestBusSet]
  (repeat' split) <;> rfl

@[simp] theorem queues_requestCommit : queues.view s.requestCommit.1 = queues.view s := by
  unfold State.requestCommit
  (repeat' split) <;> simp

@[simp] theorem queues_requestUncommit : queues.view s.requestUncommit.1 = queues.view s := by
  unfold State.requestUncommit
  split <;> simp

@[simp] theorem queues_requestStart (mode : Nat) : queues.view (s.requestStart mode).1 = queues.view s := by
  unfold State.requestStart
  (repeat' split) <;> simp

@[simp] theorem queues_requestStop : queues.view s.requestStop.1 = queues.view s := by
  unfold State.requestStop
  split <;> simp

@[simp] theorem queues_requestMode (mode : Nat) : queues.view (s.requestMode mode).1 = queues.view s := by
  unfold State.requestMode
  (repeat' split) <;> simp

@[simp] theorem queues_requestStepGrant (mask : Byte) :
    queues.view (s.requestStepGrant mask).1 = queues.view s := by
  unfold State.requestStepGrant
  (repeat' split) <;> simp

@[simp] theorem queues_requestHold (mask : Byte) : queues.view (s.requestHold mask).1 = queues.view s := by
  unfold State.requestHold
  (repeat' split) <;> simp

@[simp] theorem queues_requestContinue (mask : Byte) :
    queues.view (s.requestContinue mask).1 = queues.view s := by
  unfold State.requestContinue
  (repeat' split) <;> simp

@[simp] theorem queues_requestHalt : queues.view s.requestHalt.1 = queues.view s := by
  unfold State.requestHalt
  split <;> simp

@[simp] theorem queues_requestRecover : queues.view s.requestRecover.1 = queues.view s := by
  unfold State.requestRecover
  (repeat' split) <;> simp

@[simp] theorem queues_requestBypassOn (n : Nat) : queues.view (s.requestBypassOn n).1 = queues.view s := by
  simp only [State.requestBypassOn]
  (repeat' split) <;> simp

@[simp] theorem queues_requestBypassOff (n : Nat) : queues.view (s.requestBypassOff n).1 = queues.view s := by
  simp only [State.requestBypassOff]
  (repeat' split) <;> simp

@[simp] theorem queues_requestBypass (n setting : Nat) :
    queues.view (s.requestBypass n setting).1 = queues.view s := by
  unfold State.requestBypass
  (repeat' split) <;> simp

@[simp] theorem queues_requestAbortCycle (n : Nat) : queues.view (s.requestAbortCycle n).1 = queues.view s := by
  unfold State.requestAbortCycle
  (repeat' split) <;> simp

@[simp] theorem queues_requestClearStation (n : Nat) :
    queues.view (s.requestClearStation n).1 = queues.view s := by
  simp only [State.requestClearStation]
  (repeat' split) <;> simp

@[simp] theorem queues_requestClearSegment (k : Nat) :
    queues.view (s.requestClearSegment k).1 = queues.view s := by
  unfold State.requestClearSegment
  (repeat' split) <;> simp

@[simp] theorem queues_requestClearConveyor (number : Nat) :
    queues.view (s.requestClearConveyor number).1 = queues.view s := by
  unfold State.requestClearConveyor
  (repeat' split) <;> simp

@[simp] theorem queues_requestClearFault (kind number : Nat) :
    queues.view (s.requestClearFault kind number).1 = queues.view s := by
  unfold State.requestClearFault
  split <;> simp

@[simp] theorem queues_requestPalletRead (id : Nat) : queues.view (s.requestPalletRead id).1 = queues.view s := by
  unfold State.requestPalletRead
  (repeat' split) <;> rfl

@[simp] theorem queues_requestPlace (id position : Nat) :
    queues.view (s.requestPlace id position).1 = queues.view s := by
  simp only [State.requestPlace]
  (repeat' split) <;> simp

@[simp] theorem queues_requestRemove (id : Nat) : queues.view (s.requestRemove id).1 = queues.view s := by
  unfold State.requestRemove
  (repeat' split) <;> simp

@[simp] theorem queues_requestAcceptTag : queues.view s.requestAcceptTag.1 = queues.view s := by
  unfold State.requestAcceptTag
  (repeat' split) <;> simp

@[simp] theorem queues_requestConfirmBefore (k : Nat) :
    queues.view (s.requestConfirmBefore k).1 = queues.view s := by
  unfold State.requestConfirmBefore
  (repeat' split) <;> simp

@[simp] theorem queues_requestConfirmAfter (k : Nat) :
    queues.view (s.requestConfirmAfter k).1 = queues.view s := by
  unfold State.requestConfirmAfter
  (repeat' split) <;> simp

@[simp] theorem queues_requestConfirmList (k flag : Nat) (occupants : List Byte) :
    queues.view (s.requestConfirmList k flag occupants).1 = queues.view s := by
  simp only [State.requestConfirmList]
  (repeat' split) <;> simp

@[simp] theorem queues_requestConfirm (body : List Byte) :
    queues.view (s.requestConfirm body).1 = queues.view s := by
  simp only [State.requestConfirm]
  (repeat' split) <;> simp

@[simp] theorem queues_requestMapRead (start count : Nat) :
    queues.view (s.requestMapRead start count).1 = queues.view s := by
  unfold State.requestMapRead
  (repeat' split) <;> rfl

@[simp] theorem queues_requestReserveSet (volume : Nat) :
    queues.view (s.requestReserveSet volume).1 = queues.view s := by
  simp only [State.requestReserveSet]
  (repeat' split) <;> simp

@[simp] theorem queues_requestStatus (number : Nat) : queues.view (s.requestStatus number).1 = queues.view s := by
  unfold State.requestStatus
  split <;> rfl

end

/-! ## What a request may do to the queues

All but four requests keep the view; PALLET DEFINE and PALLET DELETE change the number of records, EVENTS TAKE takes
records off the Event Queue, and RESTART closes the link for further frames. -/

theorem length_tableInsert_le {α : Type} (k : Nat) (v : α) (l : List (Nat × α)) :
    (tableInsert k v l).length ≤ l.length + 1 := by
  induction l with
  | nil => simp [tableInsert]
  | cons p rest ih =>
    unfold tableInsert
    (repeat' split) <;> simp only [List.length_cons] at * <;> omega

theorem length_tableErase_le {κ α : Type} [DecidableEq κ] (k : κ) (l : List (κ × α)) :
    (tableErase k l).length ≤ l.length := by
  induction l with
  | nil => simp [tableErase]
  | cons p rest ih =>
    unfold tableErase
    split <;> simp only [List.length_cons] <;> omega

/-- The requests, the replies and the reply being sent stand; the Event Queue and the Pallet Table stay within their
capacities. -/
structure State.KeepsQueues (s u : State) : Prop where
  requests : u.clp.requests = s.clp.requests
  replies : u.clp.replies = s.clp.replies
  sending : u.clp.sending = s.clp.sending
  events : s.clp.events.length ≤ Config.eventQueueCapacity → u.clp.events.length ≤ Config.eventQueueCapacity
  pallets : s.trk.pallets.length ≤ Config.palletCapacity → u.trk.pallets.length ≤ Config.palletCapacity

theorem State.KeepsQueues.of_view {s u : State} (h : queues.view u = queues.view s) : s.KeepsQueues u where
  requests := congrArg Queues.requests h
  replies := congrArg Queues.replies h
  sending := congrArg Queues.sending h
  events := (congrArg Queues.eventsFit h).mpr
  pallets hs := (congrArg Queues.pallets h).trans_le hs

theorem State.requestRestart_keepsQueues (s : State) : s.KeepsQueues s.requestRestart.1 := by
  unfold State.requestRestart
  split
  · exact .of_view rfl
  · exact ⟨rfl, rfl, rfl, id, id⟩

theorem State.requestPalletDefine_keepsQueues (s : State) (id variant : Nat) :
    s.KeepsQueues (s.requestPalletDefine id variant).1 := by
  unfold State.requestPalletDefine
  split
  · exact .of_view rfl
  · split
    · exact .of_view rfl
    · split
      · exact .of_view rfl
      · split
        · exact .of_view rfl
        · next hroom =>
          exact ⟨rfl, rfl, rfl, fun h => h, fun _ =>
            (length_tableInsert_le ..).trans (Nat.succ_le_of_lt (Nat.lt_of_not_le hroom))⟩

theorem State.requestPalletDelete_keepsQueues (s : State) (id : Nat) :
    s.KeepsQueues (s.requestPalletDelete id).1 := by
  unfold State.requestPalletDelete
  split
  · exact .of_view rfl
  · split
    · exact .of_view rfl
    · split
      · exact .of_view rfl
      · exact ⟨rfl, rfl, rfl, fun h => h, fun h => (length_tableErase_le ..).trans h⟩

theorem State.requestEventsTake_keepsQueues (s : State) (count : Nat) :
    s.KeepsQueues (s.requestEventsTake count).1 :=
  ⟨rfl, rfl, rfl, fun h => (List.drop_sublist _ _).length_le.trans h, fun h => h⟩

/-- A request at its owner (R181). -/
theorem State.owner_keepsQueues (s : State) (type : Byte) (body : List Byte) :
    s.KeepsQueues (s.owner type body).1 := by
  unfold State.owner
  split
  case h_15 => exact s.requestRestart_keepsQueues
  case h_19 => exact s.requestPalletDefine_keepsQueues _ _
  case h_20 => exact s.requestPalletDelete_keepsQueues _
  case h_30 => exact s.requestEventsTake_keepsQueues _
  all_goals exact .of_view (by simp [State.requestIdentify])

theorem State.answer_keepsQueues (s : State) (f : Frame) : s.KeepsQueues (s.answer f).1 := by
  unfold State.answer
  (repeat' split)
  · exact .of_view rfl
  · exact .of_view rfl
  · exact s.owner_keepsQueues f.type f.body

/-! ## Frames taken, and the commands of the cell link -/

/-- The capacities of `State.QueuesWithin`, before it is looked at whether a waiting frame may be taken. -/
structure State.QueuesFit (s : State) : Prop where
  requests : s.clp.requests.length ≤ Config.requestQueueCapacity
  replies : s.clp.replies.length ≤ Config.replyQueueCapacity
  events : s.clp.events.length ≤ Config.eventQueueCapacity
  pallets : s.trk.pallets.length ≤ Config.palletCapacity
  sending : s.clp.sending.isSome = true → s.clp.replies ≠ []

theorem State.QueuesWithin.fit {s : State} (h : s.QueuesWithin) : s.QueuesFit :=
  ⟨h.requests, h.replies, h.events, h.pallets, h.sending⟩

theorem State.QueuesFit.within {s : State} (h : s.QueuesFit)
    (hw : s.clp.requests ≠ [] → s.clp.replies.length = Config.replyQueueCapacity ∨ s.clp.restarting = true) :
    s.QueuesWithin :=
  ⟨h.requests, h.replies, h.events, h.pallets, h.sending, hw⟩

/-- A state with the same queues is within the capacities with the other. -/
theorem State.QueuesWithin.of_view {s u : State} (hs : s.QueuesWithin) (h : queues.view u = queues.view s) :
    u.QueuesWithin := by
  obtain ⟨hreq, hrep, hsend, hev, hpal⟩ := State.KeepsQueues.of_view h
  have hres : u.clp.restarting = s.clp.restarting := congrArg Queues.restarting h
  refine ⟨?_, ?_, hev hs.events, hpal hs.pallets, ?_, ?_⟩
  · rw [hreq]; exact hs.requests
  · rw [hrep]; exact hs.replies
  · rw [hsend, hrep]; exact hs.sending
  · rw [hreq, hrep, hres]; exact hs.waiting

/-- A frame taken leaves the request queue, and its reply finds room (R177). -/
theorem State.QueuesFit.takeFrame {s : State} {f : Frame} {rest : List Frame} (hs : s.QueuesFit)
    (hreq : s.clp.requests = f :: rest) (hmay : s.clp.mayTake = true) : (s.takeFrame f rest).QueuesFit := by
  obtain ⟨hroom, -⟩ : s.clp.replies.length < Config.replyQueueCapacity ∧ s.clp.restarting = false := by
    simpa [Clp.mayTake] using hmay
  obtain ⟨hreq', hrep', -, hev', hpal'⟩ := (s.modClp fun c => { c with requests := rest }).answer_keepsQueues f
  have hcapacity := hs.requests
  rw [hreq, List.length_cons] at hcapacity
  refine ⟨(congrArg List.length hreq').trans_le (Nat.le_of_succ_le hcapacity), ?_, hev' hs.events, hpal' hs.pallets,
    fun _ => List.append_ne_nil_of_right_ne_nil _ (List.cons_ne_nil _ _)⟩
  calc (s.takeFrame f rest).clp.replies.length
      = ((s.modClp fun c => { c with requests := rest }).answer f).1.clp.replies.length + 1 := List.length_append
    _ = s.clp.replies.length + 1 := by rw [hrep']; rfl
    _ ≤ Config.replyQueueCapacity := hroom

theorem State.takeFrame_requests (s : State) (f : Frame) (rest : List Frame) :
    (s.takeFrame f rest).clp.requests = rest :=
  ((s.modClp fun c => { c with requests := rest }).answer_keepsQueues f).requests

/-- With as many turns as frames wait, a frame that waits in the end waits for the reply queue or for RESTART's
reset. -/
theorem State.QueuesFit.takeFrames {n : Nat} {s : State} (hs : s.QueuesFit) (hn : s.clp.requests.length ≤ n) :
    (State.takeFrames n s).QueuesWithin := by
  induction n generalizing s with
  | zero => exact hs.within fun h => absurd (List.eq_nil_of_length_eq_zero (Nat.le_zero.mp hn)) h
  | succ n ih =>
    unfold State.takeFrames
    split
    · next hnone => exact hs.within fun h => absurd hnone h
    · next f rest hreq =>
      rw [hreq, List.length_cons] at hn
      split
      · next hmay =>
        refine ih (hs.takeFrame hreq hmay) ?_
        rw [s.takeFrame_requests]
        exact Nat.le_of_succ_le_succ hn
      · next hmay =>
        refine hs.within fun _ => ?_
        by_cases hrestarting : s.clp.restarting = true
        · exact .inr hrestarting
        · refine .inl (Nat.le_antisymm hs.replies (Nat.le_of_not_lt fun hroom => hmay ?_))
          simp [Clp.mayTake, hroom, hrestarting]

theorem State.QueuesWithin.offer {s : State} (hs : s.QueuesWithin) (f : Frame) : (s.offer f).QueuesWithin := by
  unfold State.offer
  split
  · next hroom =>
    have hlength : (s.clp.requests ++ [f]).length ≤ Config.requestQueueCapacity := by
      rw [List.length_append]
      exact hroom
    exact State.QueuesFit.takeFrames ⟨hlength, hs.replies, hs.events, hs.pallets, hs.sending⟩ le_rfl
  · exact hs.of_view rfl

theorem State.QueuesWithin.judgeFrame {s : State} (hs : s.QueuesWithin) (type tag : Byte) (body : List Byte)
    (check : BitVec 16) : (s.judgeFrame type tag body check).QueuesWithin := by
  unfold State.judgeFrame
  split
  · exact State.QueuesWithin.offer (hs.of_view (u := s.hunt) rfl) _
  · exact hs.of_view rfl

theorem State.QueuesWithin.frameArrives {s : State} (hs : s.QueuesWithin) (type tag : Byte) (body : List Byte)
    (check : BitVec 16) : (s.frameArrives type tag body check).QueuesWithin := by
  unfold State.frameArrives
  split
  · exact hs.of_view rfl
  · exact hs.judgeFrame ..

theorem State.QueuesWithin.requestArrives {s : State} (hs : s.QueuesWithin) (type tag : Byte) (body : List Byte) :
    (s.requestArrives type tag body).QueuesWithin :=
  hs.frameArrives ..

theorem State.QueuesWithin.byteArrives {s : State} (hs : s.QueuesWithin) (b : Byte) :
    (s.byteArrives b).QueuesWithin := by
  unfold State.byteArrives
  split
  · split
    · exact hs.of_view rfl
    · exact hs
  · unfold State.assemble
    split
    · exact hs.of_view rfl
    · split
      · exact hs.judgeFrame ..
      · exact hs.of_view rfl

theorem State.QueuesWithin.gapExpires {s : State} (hs : s.QueuesWithin) : s.gapExpires.QueuesWithin := by
  unfold State.gapExpires
  split
  · exact hs
  · split
    · exact hs.of_view rfl
    · exact hs

theorem State.QueuesWithin.framingFails {s : State} (hs : s.QueuesWithin) : s.framingFails.QueuesWithin := by
  unfold State.framingFails
  split
  · exact hs
  · exact hs.of_view rfl

/-- The reply that starts to be sent stands at the head of the reply queue (R178). -/
theorem State.QueuesWithin.replyStarts {s : State} (hs : s.QueuesWithin) (cts : Bool) :
    (s.replyStarts cts).QueuesWithin := by
  simp only [State.replyStarts]
  split
  · next r rest hnone hrep =>
    split
    · refine ⟨hs.requests, hs.replies, hs.events, hs.pallets, fun _ => ?_, hs.waiting⟩
      exact hrep ▸ List.cons_ne_nil r rest
    · exact hs.of_view rfl
  · exact hs.of_view rfl

/-- A reset empties the queues; ESTOP_ON may be posted (R145). -/
theorem State.afterReset_queuesWithin (waiting : List Instr) (estop : Bool) (br : BitVec 2) :
    (State.afterReset waiting estop br).QueuesWithin := by
  have hreset : ({ State.reset with pending := waiting, clp := { Clp.reset with rate := br } } : State).QueuesWithin :=
    ⟨Nat.zero_le _, Nat.zero_le _, Nat.zero_le _, Nat.zero_le _, (fun h => nomatch h),
      fun h => absurd rfl h⟩
  simp only [State.afterReset]
  split
  · exact hreset.of_view (queues_estopOn _)
  · exact hreset

theorem State.QueuesWithin.replyEnds {s : State} (hs : s.QueuesWithin) (br : BitVec 2) :
    (s.replyEnds br).QueuesWithin := by
  simp only [State.replyEnds]
  split
  · exact hs
  · split
    · exact State.afterReset_queuesWithin ..
    · have hlength : (s.clp.replies.drop 1).length ≤ Config.replyQueueCapacity :=
        (List.drop_sublist _ _).length_le.trans hs.replies
      exact State.QueuesFit.takeFrames ⟨hs.requests, hlength, hs.events, hs.pallets, fun h => nomatch h⟩ le_rfl

/-! ## Every command -/

theorem exec_queuesWithin {c : Instr} {s u : State} (hs : s.QueuesWithin) (h : exec c s = .next u) :
    u.QueuesWithin := by
  have hat (t : LineTime) : (s.at t).QueuesWithin := hs.of_view rfl
  cases c <;> injection h with h <;> subst h
  case hardwareReset estop br => exact State.afterReset_queuesWithin ..
  case estopInAsserted t =>
    split
    · exact (hat t).of_view (by simp)
    · exact hat t
  case estopInReleased t =>
    split
    · exact (hat t).of_view (by simp)
    · exact hat t
  case frameReceived t type tag body check => exact (hat t).frameArrives ..
  case frameLengthInvalid t => exact (hat t).of_view rfl
  case framingError t => exact (hat t).framingFails
  case gapTimerExpiry t => exact (hat t).gapExpires
  case cellLinkByteReceived t b => exact (hat t).byteArrives b
  case replySendStart t cts => exact (hat t).replyStarts cts
  case replySendEnd t br => exact (hat t).replyEnds br
  case scanStart t => exact (hat t).of_view (by simp)
  case slotPoll t slot => exact (hat t).of_view (by simp)
  case nodeReply t chars => exact (hat t).of_view (by simp)
  case responseWindowExpiry t => exact (hat t).of_view (by simp)
  case clampTimeout t n => exact (hat t).of_view (by simp)
  case settleExpiry t n => exact (hat t).of_view (by simp)
  case cycleTimeout t n => exact (hat t).of_view (by simp)
  case unclampTimeout t n => exact (hat t).of_view (by simp)
  case commonTimerExpiry t k => exact (hat t).of_view (by simp)
  case stationClearTimeout t n => exact (hat t).of_view (by simp)
  case phaseTimeout t k => exact (hat t).of_view (by simp)
  case feedWaitExpiry t k => exact (hat t).of_view (by simp)
  case segmentClearTimeout t k => exact (hat t).of_view (by simp)
  case evaluationTimerExpiry t => exact (hat t).of_view (by simp)
  case urgencyExpiry t k => exact (hat t).of_view (by simp)
  case hEntryExpiry t => exact (hat t).of_view (by simp)
  case staggerExpiry t => exact (hat t).of_view (by simp)
  case periodExpiry t k => exact (hat t).of_view (by simp)
  case travelTimeout t n => exact (hat t).of_view (by simp)
  case tagReadTimeout t => exact (hat t).of_view (by simp)
  all_goals exact (hat _).requestArrives ..

/-- Settles O15, by what the command at the front of the queue can do to the queues: frames may be taken at the
commands of the cell link, a reset empties the queues, and no other command touches them but by its events. -/
theorem everyStepKeepsTheQueues : Obligations.EveryStepKeepsTheQueues := by
  intro s u hs hstep
  unfold step at hstep
  split at hstep
  · injection hstep with hstep
    exact hstep ▸ hs
  · refine exec_queuesWithin ?_ hstep
    exact hs.of_view rfl

end Sys2Proof.Machine
end

section
/-! PROOF. The map as a view that the work between the blocks keeps: nests, certainty, lists, placements, counters and
the tag check. The track hold of S1 is another one. -/

namespace Sys2Proof.Machine

/-- A record with its overdue flag and its workpiece blanked. -/
def Pallet.unmarked (p : Pallet) : Pallet := { p with overdue := false, workpiece := none }

/-- A segment's map with its open index blanked. -/
def SegMap.closed (m : SegMap) : SegMap := { m with openIndex := none }

/-- The Tracking Unit with open indexes, overdue flags and workpieces blanked. -/
def Trk.unmarked (t : Trk) : Trk :=
  { t with pallets := t.pallets.map fun p => (p.1, p.2.unmarked), segs := t.segs.map fun p => (p.1, p.2.closed) }

theorem tableGet_mapValues {κ α β : Type} [DecidableEq κ] (g : α → β) (k : κ) (l : List (κ × α)) :
    tableGet k (l.map fun p => (p.1, g p.2)) = (tableGet k l).map g := by
  induction l with
  | nil => rfl
  | cons p rest ih =>
    obtain ⟨j, v⟩ := p
    by_cases h : j = k <;> simp [tableGet, h, ih]

/-- The work between the blocks keeps the map. -/
def mapView : WorkView Trk where
  view s := s.trk.unmarked
  blocks _ _ _ _ _ _ _ := rfl
  modSeg _ _ _ _ := rfl
  modSegMap s k f hf := by
    have hsegs := tableModify_map (k := k) (f := f) (l := s.trk.segs)
      (fun p => (p.1, p.2.closed)) fun m => by simp only [SegMap.closed, (hf m).1, (hf m).2]
    simp only [Trk.unmarked, State.modSegMap, hsegs]
  modPallet s id f hf := by
    have hpallets := tableModify_map (k := id) (f := f) (l := s.trk.pallets)
      (fun p => (p.1, p.2.unmarked)) fun p => by rw [hf p]; rfl
    simp only [Trk.unmarked, State.modPallet, hpallets]
  post _ _ _ _ _ := rfl

/-- The work between the blocks keeps the track hold of S1. -/
def trackHoldView : WorkView Bool where
  view s := (s.seg 1).trackHold
  blocks _ _ _ _ _ _ _ := rfl
  modSeg s k f hf := by
    by_cases hk : k = 1
    · subst hk
      simp only [State.seg, State.modSeg, tableGet_modify_same]
      cases tableGet 1 s.sc with
      | none => rfl
      | some g => exact hf g
    · simp only [State.seg, State.modSeg, tableGet_modify_other (Ne.symm hk)]
  modSegMap _ _ _ _ := rfl
  modPallet _ _ _ _ := rfl
  post _ _ _ _ _ := rfl

/-! ## What equal maps agree in -/

section
variable {s u : State} (h : mapView.view u = mapView.view s)
include h

theorem lists_of_map : u.trk.lists = s.trk.lists := (congrArg Trk.lists h :)

theorem list_of_map (c : ConvId) : u.list c = s.list c := by
  simp only [State.list, lists_of_map h]

theorem tag_of_map : u.trk.tag = s.trk.tag := (congrArg Trk.tag h :)

theorem readerImage_of_map : u.trk.readerImage = s.trk.readerImage := (congrArg Trk.readerImage h :)

theorem segMap_of_map (k : Nat) : (u.segMap k).nests = (s.segMap k).nests
    ∧ (u.segMap k).certainty = (s.segMap k).certainty := by
  have hsegs (x : State) : tableGet k (mapView.view x).segs = (tableGet k x.trk.segs).map SegMap.closed :=
    tableGet_mapValues SegMap.closed k x.trk.segs
  have hget := (hsegs u).symm.trans ((congrArg (fun t : Trk => tableGet k t.segs) h).trans (hsegs s))
  simp only [State.segMap]
  cases hu : tableGet k u.trk.segs <;> cases hs : tableGet k s.trk.segs <;> simp_all [SegMap.closed]

theorem nests_of_map (k : Nat) : u.nests k = s.nests k := (segMap_of_map h k).1

theorem certain_of_map (k : Nat) : u.certain k = s.certain k := by
  simp only [State.certain, (segMap_of_map h k).2]

theorem placements_of_map : u.trk.pallets.map (fun q => (q.1, q.2.placement))
    = s.trk.pallets.map (fun q => (q.1, q.2.placement)) := by
  have hp := congrArg (fun t : Trk => t.pallets.map fun q => (q.1, q.2.placement)) h
  simpa [mapView, Trk.unmarked, Pallet.unmarked, List.map_map, Function.comp_def] using hp

/-- A record keeps its counters. -/
theorem pallet_of_map {id : Nat} {p : Pallet} (hp : s.pallet id = some p) :
    ∃ p', u.pallet id = some p' ∧ p'.indexCount = p.indexCount ∧ p'.laps = p.laps := by
  have hpallets (x : State) : tableGet id (mapView.view x).pallets = (x.pallet id).map Pallet.unmarked :=
    tableGet_mapValues Pallet.unmarked id x.trk.pallets
  have hget := (hpallets u).symm.trans ((congrArg (fun t : Trk => tableGet id t.pallets) h).trans (hpallets s))
  rw [hp] at hget
  obtain ⟨p', hp', heq⟩ := Option.map_eq_some_iff.mp hget
  exact ⟨p', hp', (congrArg Pallet.indexCount heq :), (congrArg Pallet.laps heq :)⟩

end

/-! ## The end of an event and the edit mark -/

@[simp] theorem State.closeEvent_trk (s : State) : s.closeEvent.trk = s.trk := by
  simp only [State.closeEvent]
  (repeat' split) <;> rfl

@[simp] theorem State.closeEvent_segMap (s : State) (k : Nat) : s.closeEvent.segMap k = s.segMap k := by
  simp only [State.segMap, State.closeEvent_trk]

@[simp] theorem State.closeEvent_nests (s : State) (k : Nat) : s.closeEvent.nests k = s.nests k := by
  simp only [State.nests, State.closeEvent_segMap]

theorem markEdited_still {y u : State} (h : u.still = y.still) : u.markEdited.still = y.markEdited.still := by
  have htag : u.trk.tag = y.trk.tag := (congrArg (fun x : State => x.trk.tag) h :)
  unfold State.markEdited
  rw [htag]
  split
  · next o v b _ => exact congrArg (fun x : State => { x with trk := { x.trk with tag := .held o v true } }) h
  · exact h

/-- A HELD check with the edit mark (R41). -/
def TagCheck.edited : TagCheck → TagCheck
  | .held o v _ => .held o v true
  | other => other

theorem State.markEdited_eq (s : State) : s.markEdited = s.setTag s.trk.tag.edited := by
  unfold State.markEdited TagCheck.edited
  split <;> simp_all [State.setTag]

end Sys2Proof.Machine
end

section
/-! PROOF. PLACE (O38). -/

namespace Sys2Proof.Machine

/-! ## The branches of PLACE (R33) -/

/-- Map edits are open in IDLE, HALT and RUN. -/
theorem State.editOpen_of {s : State}
    (hl : s.lsv.lineState = .idle ∨ s.lsv.lineState = .halt ∨ s.lsv.lineState = .run) : s.editOpen = true := by
  rcases hl with hl | hl | hl <;> simp [State.editOpen, State.lineIn, hl]

section
variable {s : State} {id position : Nat} {p : Pallet} (he : s.editOpen = true) (hid : palletIdBad id = false)
  (hpos : position < s.loopCount) (hp : s.pallet id = some p)
include he hid hpos hp

theorem State.requestPlace_placed {place : Nat} (hplace : p.placement = some place) :
    s.requestPlace id position = (s, .occupied) := by
  simp [State.requestPlace, he, hid, Nat.not_le.mpr hpos, hp, hplace]

theorem State.requestPlace_nestOccupied (hplace : p.placement = none) {k j other : Nat}
    (hat : s.placeAt position = some (.nest k j)) (hocc : s.occupant k j = some other) :
    s.requestPlace id position = (s, .occupied) := by
  simp [State.requestPlace, he, hid, Nat.not_le.mpr hpos, hp, hplace, hat, hocc]

theorem State.requestPlace_nest (hplace : p.placement = none) {k j : Nat}
    (hat : s.placeAt position = some (.nest k j)) (hocc : s.occupant k j = none) (hc : s.certain k = true)
    (hst : s.nestStationFree k j = true) (htag : s.tagBlocks k j = false) (hrun : s.runAllows (.nest k j) = true) :
    s.requestPlace id position
      = ((s.placeInNest id k j).closeEvent, (s.placeInNest id k j).closeEvent.placementReply id) := by
  simp [State.requestPlace, he, hid, Nat.not_le.mpr hpos, hp, hplace, hat, hocc, hc, hst, htag, hrun]

theorem State.requestPlace_full (hplace : p.placement = none) {c : ConvId} {i : Nat}
    (hat : s.placeAt position = some (.entry c i)) (hfull : s.cfg.line.capacity c ≤ s.roomTaken c) :
    s.requestPlace id position = (s, .full) := by
  simp [State.requestPlace, he, hid, Nat.not_le.mpr hpos, hp, hplace, hat, hfull]

theorem State.requestPlace_conveyor (hplace : p.placement = none) {c : ConvId} {i : Nat}
    (hat : s.placeAt position = some (.entry c i)) (hroom : s.roomTaken c < s.cfg.line.capacity c)
    (hrun : s.runAllows (.entry c i) = true) :
    s.requestPlace id position
      = ((s.placeOnConveyor id c).closeEvent, (s.placeOnConveyor id c).closeEvent.placementReply id) := by
  simp [State.requestPlace, he, hid, Nat.not_le.mpr hpos, hp, hplace, hat, Nat.not_le.mpr hroom, hrun]

end

/-! ## The state after PLACE on a conveyor (R29, R35) -/

/-- The entry that PLACE puts at the tail: IN_TRANSIT while an entry of the list is (R29). -/
def State.placedEntry (s : State) (id : Nat) (c : ConvId) : Entry :=
  { pallet := id, state := if (oldestInTransit (s.list c)).isSome then .inTransit else .arrived,
    entryTime := s.clock }

/-- The map with the entry at the tail, before CVT and the consumers act. -/
def State.placedOn (s : State) (id : Nat) (c : ConvId) : State :=
  (s.setList c (s.list c ++ [s.placedEntry id c])).syncPlacements

theorem State.placeOnConveyor_inTransit {s : State} {id : Nat} {c : ConvId}
    (h : (oldestInTransit (s.list c)).isSome = true) :
    s.placeOnConveyor id c = ((s.placedOn id c).expectMore c).markEdited := by
  simp only [State.placeOnConveyor, State.placedOn, State.placedEntry, State.joinTail, if_pos h]

theorem State.placeOnConveyor_arrived {s : State} {id : Nat} {c : ConvId}
    (h : (oldestInTransit (s.list c)).isSome = false) :
    s.placeOnConveyor id c
      = (if s.list c = [] then (s.placedOn id c).headNotice c else s.placedOn id c).markEdited := by
  simp only [State.placeOnConveyor, State.placedOn, State.placedEntry, h, List.isEmpty_iff, Bool.false_eq_true,
    if_false]

/-- PLACE on a conveyor is the edit of the map, work between the blocks that keeps it, and the edit mark. -/
theorem State.placeOnConveyor_map (s : State) (id : Nat) (c : ConvId) :
    ∃ z : State, s.placeOnConveyor id c = z.markEdited ∧ mapView.view z = mapView.view (s.placedOn id c) := by
  by_cases h : (oldestInTransit (s.list c)).isSome = true
  · exact ⟨_, State.placeOnConveyor_inTransit h, by simp⟩
  · refine ⟨_, State.placeOnConveyor_arrived (Bool.eq_false_iff.mpr h), ?_⟩
    split <;> simp

theorem State.markEdited_trk (s : State) : s.markEdited.trk = { s.trk with tag := s.trk.tag.edited } := by
  rw [State.markEdited_eq]
  rfl

/-- Settles O38. -/
theorem placePutsThePalletWhereItIsNamed : Obligations.PlacePutsThePalletWhereItIsNamed := by
  intro t tag id position s p hr hl h1 h2 hpos hp x reply edited
  have he : x.editOpen = true := State.editOpen_of (s := x) hl
  have hid := palletIdBad_false h1 h2
  have hexec := exec_place hr (t := t) (tag := tag) id position
  refine ⟨?_, ?_, ?_⟩
  · rintro ⟨place, hplace⟩
    rw [hexec, State.requestPlace_placed (s := x) he hid hpos hp hplace]
  · intro hplace k j hat
    refine ⟨?_, ?_⟩
    · rintro ⟨other, hocc⟩
      rw [hexec, State.requestPlace_nestOccupied (s := x) he hid hpos hp hplace hat hocc]
    · intro hocc hc hst htag hrun y u
      rw [hexec, State.requestPlace_nest (s := x) he hid hpos hp hplace hat hocc hc hst htag hrun]
      refine ⟨rfl, ?_, flowsTo_closeEvent (markEdited_still (State.scTest_still y k))⟩
      have hy : (y.scTest k).trk.tag = y.trk.tag := tag_of_map (mapView.scTest y k)
      rw [State.closeEvent_trk, State.markEdited_trk, hy]
      rfl
  · intro hplace c i hat
    refine ⟨fun hfull => ?_, ?_⟩
    · rw [hexec, State.requestPlace_full (s := x) he hid hpos hp hplace hat hfull]
    · intro hroom hrun e y
      rw [hexec, State.requestPlace_conveyor (s := x) he hid hpos hp hplace hat hroom hrun]
      have hy : y = x.placedOn id.toNat c := rfl
      obtain ⟨z, hz, hmap⟩ := x.placeOnConveyor_map id.toNat c
      have htag : z.trk.tag = (x.placedOn id.toNat c).trk.tag := tag_of_map hmap
      have htrk : (x.placeOnConveyor id.toNat c).closeEvent.trk = { z.trk with tag := s.trk.tag.edited } := by
        rw [State.closeEvent_trk, hz, State.markEdited_trk, htag]; rfl
      refine ⟨(x.placeOnConveyor id.toNat c).closeEvent, rfl, ?_, ?_, ?_, fun h => ?_, fun h => ?_, ?_⟩
      · rw [htrk]; exact lists_of_map hmap
      · rw [htrk]; exact placements_of_map hmap
      · rw [htrk]; rfl
      · rw [State.placeOnConveyor_inTransit (s := x) h]; rfl
      · rw [State.placeOnConveyor_arrived (s := x) h]; rfl
      · refine worksTo_closeEvent ?_
        rw [hy]
        simp [State.placedOn]

end Sys2Proof.Machine
end

section
/-! PROOF. REMOVE, and the withdrawal of a segment (O39). -/

namespace Sys2Proof.Machine

/-! ## The branches of REMOVE (R34) -/

section
variable {s : State} {id : Nat} (he : s.editOpen = true) (hid : palletIdBad id = false)
include he hid

theorem State.requestRemove_unknown (hp : s.pallet id = none) : s.requestRemove id = (s, .notFound) := by
  simp [State.requestRemove, he, hid, hp]

variable {p : Pallet} (hp : s.pallet id = some p)
include hp

theorem State.requestRemove_unplaced (hf : s.findPallet id = none) : s.requestRemove id = (s, .state) := by
  simp [State.requestRemove, he, hid, hp, hf]

theorem State.requestRemove_kept {place : PlaceRef} (hf : s.findPallet id = some place)
    (hr : s.removable id place = false) : s.requestRemove id = (s, .interlock) := by
  simp [State.requestRemove, he, hid, hp, hf, hr]

theorem State.requestRemove_taken {place : PlaceRef} (hf : s.findPallet id = some place)
    (hr : s.removable id place = true) :
    s.requestRemove id = ((s.removePallet id place).closeEvent, okEmpty) := by
  simp [State.requestRemove, he, hid, hp, hf, hr]

end

/-! ## The state after REMOVE (R31, R35) -/

theorem forEach_eq_foldl {α σ : Type} (f : α → σ → σ) (l : List α) (s : σ) :
    forEach f l s = l.foldl (fun x a => f a x) s := by
  induction l generalizing s with
  | nil => rfl
  | cons a rest ih => exact ih (f a s)

/-- The map with the pallet taken out, before anything that counted on it acts. -/
def State.takenOut (s : State) (id : Nat) (place : PlaceRef) : State := (s.takeOut id place).syncPlacements

/-- The work that follows a pallet's departure keeps the map. -/
theorem State.afterTaking_map (s : State) (id : Nat) (place : PlaceRef) (counting : List Nat) (was : Option Nat) :
    mapView.view (s.afterTaking id place counting was) = mapView.view s := by
  cases place with
  | nest k j => simp [State.afterTaking]
  | entry c i =>
    simp only [State.afterTaking]
    (repeat' split) <;> simp

theorem State.removePallet_map (s : State) (id : Nat) (place : PlaceRef) :
    ∃ z : State, s.removePallet id place = z.markEdited ∧ mapView.view z = mapView.view (s.takenOut id place) :=
  ⟨_, rfl, State.afterTaking_map ..⟩

theorem State.removePallet_tag (s : State) (id : Nat) (place : PlaceRef) :
    (s.removePallet id place).trk.tag = s.trk.tag.edited := by
  obtain ⟨z, hz, hmap⟩ := s.removePallet_map id place
  have htaken : (s.takenOut id place).trk.tag = s.trk.tag := by
    cases place with
    | nest k j => rfl
    | entry c i =>
      simp only [State.takenOut, State.takeOut]
      split <;> rfl
  rw [hz, State.markEdited_trk, tag_of_map hmap, htaken]

/-- The expected arrivals are CVT's and stand beside the map (R31). -/
theorem State.takenOut_entry (s : State) (id : Nat) (c : ConvId) (i : Nat) :
    s.takenOut id (.entry c i)
      = if ((s.list c)[i]?).map (·.state) = some .inTransit then
          ((s.setList c (removeEntry id (s.list c))).syncPlacements).expectFewer c
        else (s.setList c (removeEntry id (s.list c))).syncPlacements := by
  have hstate : entryStateAt (s.list c) i = ((s.list c)[i]?).map (·.state) := rfl
  simp only [State.takenOut, State.takeOut, ← hstate]
  by_cases h : entryStateAt (s.list c) i = some .inTransit
  · rw [if_pos h, if_pos h]
    rfl
  · rw [if_neg h, if_neg h]

/-- But for the expected arrivals, the entry leaves its list and every placement follows (R31). -/
theorem State.takenOut_entry_map (s : State) (id : Nat) (c : ConvId) (i : Nat) :
    mapView.view (s.takenOut id (.entry c i))
      = mapView.view (s.setList c (removeEntry id (s.list c))).syncPlacements := by
  rw [State.takenOut_entry]
  split <;> simp

/-! ## A withdrawal (R79, R111) -/

theorem State.needDrive_ada (s : State) (k : Nat) (code : CmdCode) : (s.needDrive k code).ada = s.ada := by
  unfold State.needDrive
  split <;> rfl

theorem State.cvtCarry_ada (s : State) (k : Nat) (dest : Option ConvId) : (s.cvtCarry k dest).ada = s.ada := by
  unfold State.cvtCarry
  split <;> rfl

theorem State.scAdmitted_ada (s : State) (k : Nat) : (s.scAdmitted k).ada = s.ada := by
  simp only [State.scAdmitted, State.needDrive_ada, State.modSeg_ada, State.cvtCarry_ada, State.modSegMap_ada]

theorem State.adaRefresh_queue (s : State) : s.adaRefresh.ada.queue = s.ada.queue := by
  simp only [State.adaRefresh, State.modAda_ada, Ada.prune, Ada.update]
  (repeat' split) <;> rfl

theorem State.staggerPassed_queue (s : State) : s.staggerPassed.ada.queue = s.ada.queue := by
  unfold State.staggerPassed
  split <;> rfl

theorem State.adaSettle_segments (s : State) :
    s.adaSettle.ada.queue.map (·.segment) = s.ada.queue.map (·.segment) := by
  simp [State.adaSettle, Function.comp_def]

/-- An evaluation admits requests from the queue and adds none. -/
theorem State.adaRounds_queue (n : Nat) (s : State) :
    ∀ k ∈ (State.adaRounds n s).ada.queue.map (·.segment), k ∈ s.ada.queue.map (·.segment) := by
  induction n generalizing s with
  | zero =>
    rw [State.adaRounds, State.adaSettle_segments, State.adaRefresh_queue]
    exact fun k hk => hk
  | succ n ih =>
    simp only [State.adaRounds]
    split
    · next q hq =>
      intro k hk
      rw [State.staggerPassed_queue] at hk
      have hrest := ih _ k hk
      rw [State.adaAdmit, State.scAdmitted_ada, State.modAda_ada, State.adaRefresh_queue] at hrest
      obtain ⟨r, hr, rfl⟩ := List.mem_map.mp hrest
      exact List.mem_map_of_mem (List.mem_of_mem_filter hr)
    · rw [State.adaSettle_segments, State.adaRefresh_queue]
      exact fun k hk => hk

theorem State.adaWithdraw_queue (s : State) (k : Nat) : ∀ q ∈ (s.adaWithdraw k).ada.queue, q.segment ≠ k := by
  intro q hq heq
  obtain ⟨r, hr, hrk⟩ := List.mem_map.mp (State.adaRounds_queue _ _ _ (List.mem_map_of_mem (f := (·.segment)) hq))
  exact of_decide_eq_true (List.mem_filter.mp hr).2 (hrk.trans heq)

theorem State.scWithdraw_unheld {s : State} {k : Nat} (h : ∀ c, (s.seg k).room ≠ .held c) :
    s.scWithdraw k .ready true
      = (s.modSeg k fun g => { g with state := .ready, queued := none, room := .none }).adaWithdraw k := by
  cases hroom : (s.seg k).room with
  | held c => exact absurd hroom (h c)
  | none => simp only [State.scWithdraw, hroom]
  | requested c => simp only [State.scWithdraw, hroom]

theorem State.scWithdraw_held {s : State} {k : Nat} {c : ConvId} (h : (s.seg k).room = .held c) :
    s.scWithdraw k .ready true
      = ((s.modSeg k fun g => { g with state := .ready, queued := none, room := .none }).adaWithdraw k).releaseRoom c
          (.segment k) := by
  simp only [State.scWithdraw, h, if_true]

/-- A segment counts on a pallet by its exit nest, or by an entry it has taken (R35). -/
theorem State.mem_countingOn {s : State} {id k : Nat} :
    k ∈ s.countingOn id ↔ k ∈ s.segNumbers ∧ (s.seg k).state = .queued
      ∧ (s.exitPallet k = some id
        ∨ (∃ q, (s.seg k).queued = some q ∧ q.entryTaken = true) ∧ s.arrivedHead (upstreamOf k) = some id) := by
  have htaken : ((s.seg k).queued.map (·.entryTaken)).getD false = true
      ↔ ∃ q, (s.seg k).queued = some q ∧ q.entryTaken = true := by
    cases (s.seg k).queued <;> simp
  simp only [State.countingOn, List.mem_filter, Bool.and_eq_true, Bool.or_eq_true, decide_eq_true_eq, htaken]

/-- Settles O39. -/
theorem removeTakesThePalletFromItsPlace : Obligations.RemoveTakesThePalletFromItsPlace := by
  refine ⟨?_, ?_, fun s id k => State.mem_countingOn, ?_⟩
  · intro t tag id s p hr hl h1 h2 hp x withdrawn edited
    have he : x.editOpen = true := State.editOpen_of (s := x) hl
    have hid := palletIdBad_false h1 h2
    have hexec := exec_remove hr (t := t) (tag := tag) id
    have hwithdrawn (y : State) : withdrawn y = y.withdrawCounting (s.countingOn id.toNat) :=
      (forEach_eq_foldl _ _ y).symm
    refine ⟨fun hf => ?_, fun place hf hkept => ?_, fun k j hf hfree => ?_, fun c i hf hfree => ?_⟩
    · rw [hexec, State.requestRemove_unplaced (s := x) he hid hp hf]
    · rw [hexec, State.requestRemove_kept (s := x) he hid hp hf hkept]
    · intro y u
      have hu : u = (x.removePallet id.toNat (.nest k j)).closeEvent := by
        simp only [u, hwithdrawn]
        rfl
      rw [hexec, State.requestRemove_taken (s := x) he hid hp hf hfree, hu]
      refine ⟨rfl, ?_, ?_⟩
      · rw [State.closeEvent_trk, State.removePallet_tag]; rfl
      · refine flowsTo_closeEvent (markEdited_still ?_)
        simp [State.afterTaking]
        rfl
    · intro y y' z z' u
      have hu : u = (x.removePallet id.toNat (.entry c i)).closeEvent := by
        have hy' : y' = x.takenOut id.toNat (.entry c i) := (x.takenOut_entry id.toNat c i).symm
        simp only [u, z', z, hwithdrawn, hy']
        rfl
      rw [hexec, State.requestRemove_taken (s := x) he hid hp hf hfree, hu]
      obtain ⟨v, hv, hmap⟩ := x.removePallet_map id.toNat (.entry c i)
      have hedit := hmap.trans (x.takenOut_entry_map id.toNat c i)
      refine ⟨rfl, ?_, ?_, ?_, worksTo_closeEvent ?_⟩
      · rw [State.closeEvent_trk, hv, State.markEdited_trk]
        exact lists_of_map hedit
      · rw [State.closeEvent_trk, hv, State.markEdited_trk]
        exact placements_of_map hedit
      · rw [State.closeEvent_trk, State.removePallet_tag]; rfl
      · simp [y]
  · intro t tag id s hr hl h1 h2 hp
    rw [exec_remove hr, State.requestRemove_unknown (s := s.taking t) (State.editOpen_of hl)
      (palletIdBad_false h1 h2) hp]
  · intro s k hk y
    exact ⟨State.scWithdraw_unheld, fun c => State.scWithdraw_held, State.adaWithdraw_queue _ k⟩

end Sys2Proof.Machine
end

section
/-! PROOF. ACCEPT TAG (O40). -/

namespace Sys2Proof.Machine

/-! ## The branches of ACCEPT TAG (R42) -/

theorem State.requestAcceptTag_notHeld {s : State} (he : s.editOpen = true)
    (hn : ∀ o value edited, s.trk.tag ≠ .held o value edited) : s.requestAcceptTag = (s, .state) := by
  cases htag : s.trk.tag with
  | held o value edited => exact absurd htag (hn o value edited)
  | none => simp [State.requestAcceptTag, he, htag]
  | opened o => simp [State.requestAcceptTag, he, htag]

section
variable {s : State} {o : TagOpening} {value : Nat} {edited : Bool} (he : s.editOpen = true)
  (htag : s.trk.tag = .held o value edited)
include he htag

theorem State.requestAcceptTag_unknown (hv : value ≠ 0) (hp : s.pallet value = none) :
    s.requestAcceptTag = (s, .notFound) := by
  simp [State.requestAcceptTag, he, htag, hv, hp]

theorem State.requestAcceptTag_seats (hv : value = 0 ∨ ∃ p, s.pallet value = some p)
    (hm : s.readMovable value = true) (hc : s.certain 1 = true) :
    s.requestAcceptTag = ((s.acceptRead value).closeEvent, okEmpty) := by
  have hknown : (decide (value ≠ 0) && (s.pallet value).isNone) = false := by
    rcases hv with hv | ⟨p, hp⟩
    · simp [hv]
    · simp [hp]
  unfold State.requestAcceptTag
  rw [htag]
  dsimp only
  rw [hknown]
  simp [he, hm, hc]

end

/-! ## Nests after an edit -/

/-- A segment with nests stands in the table. -/
theorem State.mem_segs_of_nests {s : State} {k : Nat} (h : s.nests k ≠ []) :
    ∃ m, tableGet k s.trk.segs = some m := by
  cases hm : tableGet k s.trk.segs with
  | some m => exact ⟨m, rfl⟩
  | none => exact absurd (by simp [State.nests, State.segMap, hm]) h

theorem State.nests_modSegMap_same {s : State} {k : Nat} (h : s.nests k ≠ []) (f : SegMap → SegMap) :
    (s.modSegMap k f).nests k = (f (s.segMap k)).nests := by
  obtain ⟨m, hm⟩ := State.mem_segs_of_nests h
  simp [State.nests, State.segMap, State.modSegMap, tableGet_modify_same, hm]

theorem State.nests_modSegMap_other {s : State} {k j : Nat} (h : j ≠ k) (f : SegMap → SegMap) :
    (s.modSegMap k f).nests j = s.nests j := by
  simp only [State.nests, State.segMap, State.modSegMap, tableGet_modify_other h]

/-- A pallet that is found in a nest is its occupant. -/
theorem occupant_of_occupantIndex {id i : Nat} {l : List (Option Nat)} (h : occupantIndex id l = some i) :
    l[i]? = some (some id) := by
  induction l generalizing i with
  | nil => cases h
  | cons o rest ih =>
    unfold occupantIndex at h
    split at h
    · next ho =>
      cases h
      simp [ho]
    · obtain ⟨n, hn, rfl⟩ := Option.map_eq_some_iff.mp h
      simpa using ih hn

theorem occupant_of_findNest {id k j : Nat} {l : List (Nat × SegMap)} (hn : (l.map (·.1)).Nodup)
    (h : findNest id l = some (.nest k j)) :
    ∃ m, tableGet k l = some m ∧ m.nests[j - 1]? = some (some id) := by
  induction l with
  | nil => cases h
  | cons p rest ih =>
    obtain ⟨i, m⟩ := p
    simp only [List.map_cons, List.nodup_cons] at hn
    unfold findNest at h
    split at h
    · next n hn' =>
      cases h
      exact ⟨m, by simp [tableGet], occupant_of_occupantIndex hn'⟩
    · obtain ⟨m', hm', hocc⟩ := ih hn.2 h
      have hk : i ≠ k := fun heq => hn.1 (List.mem_map.mpr ⟨(k, m'), mem_of_tableGet hm', heq.symm⟩)
      exact ⟨m', by simp [tableGet, hk, hm'], hocc⟩

theorem findEntry_ne_nest {id k j : Nat} (l : List (ConvId × List Entry)) : findEntry id l ≠ some (.nest k j) := by
  induction l with
  | nil => exact fun h => nomatch h
  | cons p rest ih =>
    obtain ⟨c, es⟩ := p
    unfold findEntry
    split
    · exact fun h => nomatch h
    · exact ih

theorem State.occupant_of_findPallet {s : State} {id k j : Nat} (hn : (s.trk.segs.map (·.1)).Nodup)
    (h : s.findPallet id = some (.nest k j)) : s.occupant k j = some id := by
  unfold State.findPallet at h
  split at h
  · next r hr =>
    cases h
    obtain ⟨m, hm, hocc⟩ := occupant_of_findNest hn hr
    simp [State.occupant, State.nests, State.segMap, hm, hocc]
  · exact absurd h (findEntry_ne_nest _)

/-! ## The read value seated (R42 steps 1 to 3) -/

/-- The map with an occupant, or none, in N1 of S1. -/
def State.seated (s : State) (o : Option Nat) : State :=
  (s.modSegMap 1 fun m => { m with nests := setOccupant 1 o m.nests }).syncPlacements

theorem State.seated_nests {s : State} (h : s.nests 1 ≠ []) (o : Option Nat) :
    (s.seated o).nests 1 = (s.nests 1).set 0 o := State.nests_modSegMap_same h _

theorem State.seated_nests_other (s : State) (o : Option Nat) {k : Nat} (hk : k ≠ 1) :
    (s.seated o).nests k = s.nests k := State.nests_modSegMap_other hk _

theorem State.seated_occupant {s : State} (h : s.nests 1 ≠ []) (o : Option Nat) :
    (s.seated o).occupant 1 1 = o := by
  rw [State.occupant, State.seated_nests h]
  cases hl : s.nests 1 with
  | nil => exact absurd hl h
  | cons a rest => rfl

/-- Taking a pallet out leaves every nest in place. -/
theorem State.takeOut_nests_ne_nil {s : State} (h : s.nests 1 ≠ []) (id : Nat) (place : PlaceRef) :
    (s.takeOut id place).nests 1 ≠ [] := by
  cases place with
  | nest k j =>
    by_cases hk : k = 1
    · subst hk
      rw [State.takeOut, State.nests_modSegMap_same h]
      exact fun hnil => h (List.map_eq_nil_iff.mp hnil)
    · rw [State.takeOut, State.nests_modSegMap_other (Ne.symm hk)]
      exact h
  | entry c i =>
    simp only [State.takeOut]
    split <;> exact h

theorem State.seatRead_unplaced {s : State} {id : Nat} (h : s.findPallet id = none) :
    s.seatRead id = s.seated (some id) := by
  simp only [State.seatRead, h]
  rfl

theorem State.seatRead_occupant {s : State} (hn : (s.trk.segs.map (·.1)).Nodup) (hne : s.nests 1 ≠ []) (id : Nat) :
    (s.seatRead id).occupant 1 1 = some id := by
  cases hf : s.findPallet id with
  | none => rw [State.seatRead_unplaced hf, State.seated_occupant hne]
  | some place =>
    by_cases hp : place = .nest 1 1
    · subst hp
      simp only [State.seatRead, hf, if_true]
      exact State.occupant_of_findPallet hn hf
    · simp only [State.seatRead, hf, if_neg hp]
      rw [State.occupant, nests_of_map (State.afterTaking_map ..)]
      exact State.seated_occupant (State.takeOut_nests_ne_nil hne id place) (some id)

/-- The map as an accepted ACCEPT TAG leaves it, before the check closes. -/
def State.readSeated (s : State) (value : Nat) : State :=
  if value = 0 then s.seated none else s.seatRead value

theorem State.acceptRead_eq (s : State) (value : Nat) :
    s.acceptRead value = (s.readSeated value).closeTag ((s.readSeated value).occupant 1 1) := rfl

theorem State.readSeated_occupant {s : State} (hn : (s.trk.segs.map (·.1)).Nodup) (hne : s.nests 1 ≠ [])
    (value : Nat) : (s.readSeated value).occupant 1 1 = if value = 0 then none else some value := by
  unfold State.readSeated
  split
  · exact State.seated_occupant hne none
  · exact State.seatRead_occupant hn hne value

/-- With 0, or an UNPLACED pallet, only N1 of S1 changes (R42). -/
theorem State.readSeated_unplaced {s : State} {value : Nat} (h : value = 0 ∨ s.findPallet value = none) :
    s.readSeated value = s.seated (if value = 0 then none else some value) := by
  by_cases hv : value = 0
  · simp only [State.readSeated, if_pos hv]
  · simp only [State.readSeated, if_neg hv]
    exact State.seatRead_unplaced (h.resolve_left hv)

/-! ## The check closed (R42 step 4) -/

/-- The closing changes the map in the tag check alone. -/
theorem State.closeTag_map (s : State) (notice : Option Nat) :
    mapView.view (s.closeTag notice) = mapView.view (s.setTag .none) := by
  calc mapView.view (s.closeTag notice)
      = mapView.view ((s.setTag .none).setTrackHold false) := by simp [State.closeTag]
    _ = mapView.view (s.setTag .none) := rfl

theorem State.closeTag_trackHold (s : State) (notice : Option Nat) :
    ((s.closeTag notice).seg 1).trackHold = false := by
  have hview : trackHoldView.view (s.closeTag notice) = trackHoldView.view ((s.setTag .none).setTrackHold false) := by
    simp [State.closeTag]
  refine (show ((s.closeTag notice).seg 1).trackHold = _ from hview).trans ?_
  simp only [trackHoldView, State.seg, State.setTrackHold, State.modSeg, tableGet_modify_same]
  cases tableGet 1 (s.setTag .none).sc <;> rfl

/-- The end of an event leaves the track hold alone. -/
theorem State.closeEvent_trackHold {s : State} (hc : s.lsv.lineState ≠ .config) (hs : s.lsv.lineState ≠ .stopping)
    (k : Nat) : (s.closeEvent.seg k).trackHold = (s.seg k).trackHold := by
  rw [State.closeEvent_notices hc hs]
  rfl

/-- Settles O40. -/
theorem acceptTagSeatsTheReadPallet : Obligations.AcceptTagSeatsTheReadPallet := by
  intro t tag s hr hin hl x
  have he : x.editOpen = true := State.editOpen_of (s := x) hl
  have hexec := exec_acceptTag hr (t := t) (tag := tag)
  refine ⟨fun hn => ?_, fun o value edited htag => ⟨fun hv hp => ?_, fun hv hm hc hne _ => ?_⟩⟩
  · rw [hexec, State.requestAcceptTag_notHeld (s := x) he hn]
  · rw [hexec, State.requestAcceptTag_unknown (s := x) he htag hv hp]
  · have hnodup : (x.trk.segs.map (·.1)).Nodup := by
      rw [show x.trk.segs.map (·.1) = upTo s.cfg.line.nseg from hin.nests]
      exact List.nodup_range'
    have hclosed := (x.readSeated value).closeTag_map ((x.readSeated value).occupant 1 1)
    have hline : (x.acceptRead value).lsv.lineState = s.lsv.lineState :=
      lineState_of_fixed (s := x) (State.acceptRead_fixed x value)
    rw [hexec, State.requestAcceptTag_seats (s := x) he htag hv hm hc]
    refine ⟨(x.acceptRead value).closeEvent, rfl, ?_, ?_, ?_, fun hfree => ?_, worksTo_closeEvent (by simp)⟩
    · rw [State.closeEvent_trk, State.acceptRead_eq, tag_of_map hclosed]; rfl
    · rw [State.closeEvent_trackHold, State.acceptRead_eq, State.closeTag_trackHold]
      · rw [hline]; rcases hl with hl | hl | hl <;> simp [hl]
      · rw [hline]; rcases hl with hl | hl | hl <;> simp [hl]
    · have hocc : (x.acceptRead value).closeEvent.occupant 1 1 = (x.readSeated value).occupant 1 1 := by
        rw [State.occupant, State.closeEvent_nests, State.acceptRead_eq, nests_of_map hclosed]
        rfl
      rw [hocc, State.readSeated_occupant (s := x) hnodup hne]
    · have hnests (k : Nat) : (x.acceptRead value).closeEvent.nests k
          = (x.seated (if value = 0 then none else some value)).nests k := by
        rw [State.closeEvent_nests, State.acceptRead_eq, nests_of_map hclosed,
          State.readSeated_unplaced (s := x) hfree]
        rfl
      refine ⟨?_, fun k hk => ?_, ?_⟩
      · rw [hnests, State.seated_nests (s := x) hne]; rfl
      · rw [hnests, State.seated_nests_other x _ hk]; rfl
      · rw [State.closeEvent_trk, State.acceptRead_eq, lists_of_map hclosed, State.readSeated_unplaced (s := x) hfree]
        rfl

end Sys2Proof.Machine
end

section
/-! PROOF. A segment in FAULT seeks nothing and stays out of the flow: no test, grant, admission or arrival touches its
room, its open index, or what the conveyors hold for it (R25, R43, R76, R117). -/

namespace Sys2Proof.Machine

/-- Segment k is in FAULT with no room, no request at the Admission Arbiter or at a conveyor, no open index, and no
reservation on the conveyor `d`. -/
structure State.Quiet (s : State) (k : Nat) (d : Option ConvId) : Prop where
  fault : (s.seg k).state = .fault
  room : (s.seg k).room = .none
  queue : ∀ q ∈ s.ada.queue, q.segment ≠ k
  requests : ∀ c, .segment k ∉ (s.conv c).requests
  index : (s.segMap k).openIndex = none
  reservations : ∀ c, d = some c → ∀ r ∈ (s.conv c).reservations, r.holder ≠ .segment k

/-! ## What an update gives -/

theorem State.seg_modSeg (s : State) (j k : Nat) (f : Segment → Segment) :
    (s.modSeg j f).seg k = s.seg k ∨ (k = j ∧ (s.modSeg j f).seg k = f (s.seg k)) := by
  by_cases hk : k = j
  · subst hk
    simp only [State.seg, State.modSeg, tableGet_modify_same]
    cases tableGet k s.sc with
    | none => exact .inl rfl
    | some g => exact .inr ⟨trivial, rfl⟩
  · exact .inl (by simp only [State.seg, State.modSeg, tableGet_modify_other hk])

theorem State.conv_modConv (s : State) (c c' : ConvId) (f : Conveyor → Conveyor) :
    (s.modConv c f).conv c' = s.conv c' ∨ (c' = c ∧ (s.modConv c f).conv c' = f (s.conv c')) := by
  by_cases hc : c' = c
  · subst hc
    simp only [State.conv, State.modConv, tableGet_modify_same]
    cases tableGet c' s.cvt.convs with
    | none => exact .inl rfl
    | some v => exact .inr ⟨trivial, rfl⟩
  · exact .inl (by simp only [State.conv, State.modConv, tableGet_modify_other hc])

section
variable {s u : State} {k : Nat} {d : Option ConvId}

/-- An update beside segment records, open indexes, queue and conveyors. -/
theorem State.Quiet.of_parts (h : s.Quiet k d) (hsc : u.sc = s.sc) (hsegs : u.trk.segs = s.trk.segs)
    (hqueue : u.ada.queue = s.ada.queue) (hcvt : u.cvt.convs = s.cvt.convs) : u.Quiet k d := by
  have hseg : u.seg k = s.seg k := by simp only [State.seg, hsc]
  have hmap : u.segMap k = s.segMap k := by simp only [State.segMap, hsegs]
  have hconv (c : ConvId) : u.conv c = s.conv c := by simp only [State.conv, hcvt]
  exact ⟨hseg ▸ h.fault, hseg ▸ h.room, hqueue ▸ h.queue, fun c => hconv c ▸ h.requests c, hmap ▸ h.index,
    fun c hc => hconv c ▸ h.reservations c hc⟩

/-- An update of a segment record that leaves state and room, or of another segment's. -/
theorem State.Quiet.modSeg (h : s.Quiet k d) (j : Nat) (f : Segment → Segment)
    (hf : j = k → ∀ g, (f g).state = g.state ∧ (f g).room = g.room) : (s.modSeg j f).Quiet k d := by
  obtain hseg | ⟨hk, hseg⟩ := s.seg_modSeg j k f
  · exact ⟨hseg ▸ h.fault, hseg ▸ h.room, h.queue, h.requests, h.index, h.reservations⟩
  · obtain ⟨hstate, hroom⟩ := hf hk.symm (s.seg k)
    refine ⟨?_, ?_, h.queue, h.requests, h.index, h.reservations⟩
    · rw [hseg, hstate]; exact h.fault
    · rw [hseg, hroom]; exact h.room

theorem State.Quiet.modSeg_other (h : s.Quiet k d) {j : Nat} (hj : j ≠ k) (f : Segment → Segment) :
    (s.modSeg j f).Quiet k d :=
  h.modSeg j f fun hk => absurd hk hj

theorem State.Quiet.modSegMap_other (h : s.Quiet k d) {j : Nat} (hj : j ≠ k) (f : SegMap → SegMap) :
    (s.modSegMap j f).Quiet k d := by
  refine ⟨h.fault, h.room, h.queue, h.requests, ?_, h.reservations⟩
  simp only [State.segMap, State.modSegMap, tableGet_modify_other (Ne.symm hj)]
  exact h.index

theorem State.Quiet.modConv (h : s.Quiet k d) (c : ConvId) (f : Conveyor → Conveyor)
    (hreq : ∀ v : Conveyor, .segment k ∉ v.requests → .segment k ∉ (f v).requests)
    (hres : ∀ v : Conveyor, (∀ r ∈ v.reservations, r.holder ≠ .segment k) →
      ∀ r ∈ (f v).reservations, r.holder ≠ .segment k) : (s.modConv c f).Quiet k d := by
  refine ⟨h.fault, h.room, h.queue, fun c' => ?_, h.index, fun c' hc' => ?_⟩
  · obtain hconv | ⟨-, hconv⟩ := s.conv_modConv c c' f
    · exact hconv ▸ h.requests c'
    · exact hconv ▸ hreq _ (h.requests c')
  · obtain hconv | ⟨-, hconv⟩ := s.conv_modConv c c' f
    · exact hconv ▸ h.reservations c' hc'
    · exact hconv ▸ hres _ (h.reservations c' hc')

theorem State.Quiet.modAda (h : s.Quiet k d) (f : Ada → Ada)
    (hf : ∀ q ∈ (f s.ada).queue, q.segment ≠ k) : (s.modAda f).Quiet k d :=
  ⟨h.fault, h.room, hf, h.requests, h.index, h.reservations⟩

/-- A segment in another state than FAULT is another one. -/
theorem State.Quiet.ne_of_state (h : s.Quiet k d) {j : Nat} {st : SegState} (hj : (s.seg j).state = st)
    (hst : st ≠ .fault) : j ≠ k := by
  rintro rfl
  exact hst (hj.symm.trans h.fault)

/-! ## Drive, admission and feed -/

theorem State.Quiet.needDrive (h : s.Quiet k d) (j : Nat) (code : CmdCode) : (s.needDrive j code).Quiet k d := by
  unfold State.needDrive
  split
  · exact h.modSeg j _ fun _ _ => ⟨rfl, rfl⟩
  · exact h.of_parts rfl rfl rfl rfl

theorem State.Quiet.adaRefresh (h : s.Quiet k d) : s.adaRefresh.Quiet k d :=
  h.of_parts rfl rfl s.adaRefresh_queue rfl

theorem State.Quiet.adaSettle (h : s.Quiet k d) : s.adaSettle.Quiet k d := by
  refine h.modAda _ fun q hq => ?_
  obtain ⟨r, hr, rfl⟩ := List.mem_map.mp hq
  exact h.queue r hr

theorem State.Quiet.staggerPassed (h : s.Quiet k d) : s.staggerPassed.Quiet k d := by
  unfold State.staggerPassed
  split
  · exact h.of_parts rfl rfl rfl rfl
  · exact h

/-- Marking a reservation CARRIED leaves its holder. -/
theorem carryReservation_holder {j k : Nat} {l : List Reservation} (h : ∀ r ∈ l, r.holder ≠ .segment k) :
    ∀ r ∈ carryReservation j l, r.holder ≠ .segment k := by
  intro r hr
  obtain ⟨r', hr', rfl⟩ := List.mem_map.mp hr
  split
  · exact h r' hr'
  · exact h r' hr'

theorem State.Quiet.cvtCarry (h : s.Quiet k d) (j : Nat) (dest : Option ConvId) : (s.cvtCarry j dest).Quiet k d := by
  unfold State.cvtCarry
  split
  · exact h.modConv _ _ (fun _ hv => hv) fun _ hv => carryReservation_holder hv
  · exact h

theorem State.Quiet.scAdmitted (h : s.Quiet k d) {j : Nat} (hj : j ≠ k) : (s.scAdmitted j).Quiet k d :=
  (((h.modSegMap_other hj _).cvtCarry j _).modSeg_other hj _).needDrive j .lift

theorem State.Quiet.adaAdmit (h : s.Quiet k d) {q : AdaRequest} (hq : q.segment ≠ k) : (s.adaAdmit q).Quiet k d :=
  (h.modAda _ fun r hr => h.queue r (List.mem_of_mem_filter hr)).scAdmitted hq

theorem State.Quiet.adaRounds (h : s.Quiet k d) (n : Nat) : (State.adaRounds n s).Quiet k d := by
  induction n generalizing s with
  | zero => exact h.adaRefresh.adaSettle
  | succ n ih =>
    simp only [State.adaRounds]
    split
    · next q hq =>
      have hr := h.adaRefresh
      exact (ih (hr.adaAdmit (hr.queue q (State.scanQueue_admissible hq).2))).staggerPassed
    · exact h.adaRefresh.adaSettle

theorem State.Quiet.adaEvaluate (h : s.Quiet k d) : s.adaEvaluate.Quiet k d := h.adaRounds _

theorem State.Quiet.adaEnqueue (h : s.Quiet k d) {j : Nat} (hj : j ≠ k) (entryTaken : Bool) (n : Nat) :
    (s.adaEnqueue j entryTaken n).Quiet k d := by
  refine (h.modAda _ fun q hq => ?_).adaEvaluate
  obtain hq | hq := List.mem_append.mp hq
  · exact h.queue q hq
  · exact List.mem_singleton.mp hq ▸ hj

theorem State.Quiet.adaWithdraw (h : s.Quiet k d) (j : Nat) : (s.adaWithdraw j).Quiet k d :=
  (h.modAda _ fun q hq => h.queue q (List.mem_of_mem_filter hq)).adaEvaluate

theorem State.Quiet.scEnqueue (h : s.Quiet k d) {j : Nat} (hj : j ≠ k) (entryTaken : Bool) :
    (s.scEnqueue j entryTaken).Quiet k d :=
  (h.modSeg_other hj _).adaEnqueue hj _ _

theorem State.Quiet.scFeed (h : s.Quiet k d) {j : Nat} (hj : j ≠ k) : (s.scFeed j).Quiet k d := by
  unfold State.scFeed
  (repeat' split)
  · exact h.scEnqueue hj true
  · exact h.scEnqueue hj false
  · exact h.modSeg_other hj _
  · exact h

theorem State.Quiet.stopFeed (h : s.Quiet k d) (j : Nat) : (s.stopFeed j).Quiet k d :=
  h.modSeg j _ fun _ _ => ⟨rfl, rfl⟩

/-! ## Room -/

theorem State.Quiet.addReservation (h : s.Quiet k d) (c : ConvId) {holder : Holder} (hh : holder ≠ .segment k)
    (st : ResStatus) : (s.addReservation c holder st).Quiet k d := by
  refine h.modConv c _ (fun v hv hmem => hv (List.mem_of_mem_erase hmem)) fun v hv r hr => ?_
  obtain hr | hr := List.mem_append.mp hr
  · exact hv r hr
  · exact List.mem_singleton.mp hr ▸ hh

theorem State.Quiet.scRoomGranted (h : s.Quiet k d) {j : Nat} (hj : j ≠ k) (c : ConvId) :
    (s.scRoomGranted j c).Quiet k d := by
  simp only [State.scRoomGranted]
  split
  · exact (h.modSeg_other hj _).scFeed hj
  · exact h.modSeg_other hj _

theorem State.Quiet.grantSegment (h : s.Quiet k d) (c : ConvId) {j : Nat} (hj : j ≠ k) :
    (s.grantSegment c j).Quiet k d :=
  (h.addReservation c (fun heq => hj (Holder.segment.inj heq)) .held).scRoomGranted hj c

theorem State.Quiet.grantSpur (h : s.Quiet k d) : s.grantSpur.Quiet k d :=
  (h.addReservation .rc (holder := .spur) (fun heq => nomatch heq) .releasing).of_parts rfl rfl rfl rfl

theorem State.Quiet.grantRounds (h : s.Quiet k d) (c : ConvId) (n : Nat) : (State.grantRounds c n s).Quiet k d := by
  induction n generalizing s with
  | zero => exact h
  | succ n ih =>
    simp only [State.grantRounds]
    split
    · next j rest hreq =>
      have hj : j ≠ k := fun hjk => h.requests c (hreq ▸ hjk ▸ List.mem_cons_self)
      split
      · exact ih (h.grantSegment c hj)
      · exact h
    · exact h

theorem mem_of_lineRequest {l : List Holder} {j : Nat} (h : lineRequest l = some j) : .segment j ∈ l := by
  induction l with
  | nil => cases h
  | cons a rest ih =>
    cases a with
    | segment i => cases h; exact List.mem_cons_self
    | spur => exact List.mem_cons_of_mem _ (ih h)

theorem State.Quiet.setPassOver (h : s.Quiet k d) (n : Nat) : (s.setPassOver n).Quiet k d :=
  h.of_parts rfl rfl rfl rfl

theorem State.Quiet.mergeRounds (h : s.Quiet k d) (n : Nat) : (State.mergeRounds n s).Quiet k d := by
  induction n generalizing s with
  | zero => exact h
  | succ n ih =>
    have hne {j : Nat} (hreq : lineRequest (s.conv .rc).requests = some j) : j ≠ k := fun hjk =>
      h.requests .rc (hjk ▸ mem_of_lineRequest hreq)
    simp only [State.mergeRounds]
    (repeat' split)
    · next hreq _ _ => exact ih ((h.setPassOver _).grantSegment .rc (hne hreq))
    · exact ih (h.setPassOver 0).grantSpur
    · exact ih (h.setPassOver 0).grantSpur
    · next hreq _ => exact ih (h.grantSegment .rc (hne hreq))
    · exact h
    · exact h

theorem State.Quiet.grantPass (h : s.Quiet k d) (c : ConvId) : (s.grantPass c).Quiet k d := by
  unfold State.grantPass
  split
  · exact h.mergeRounds _
  · exact h.grantRounds c _

theorem State.Quiet.requestRoom (h : s.Quiet k d) (c : ConvId) {holder : Holder} (hh : holder ≠ .segment k) :
    (s.requestRoom c holder).Quiet k d := by
  refine (h.modConv c (fun v => { v with requests := v.requests ++ [holder] }) (fun v hv hmem => ?_)
    fun _ hv => hv).grantPass c
  obtain hmem | hmem := List.mem_append.mp hmem
  · exact hv hmem
  · exact hh (List.mem_singleton.mp hmem).symm

theorem State.Quiet.cancelRequest (h : s.Quiet k d) (c : ConvId) (holder : Holder) :
    (s.cancelRequest c holder).Quiet k d :=
  h.modConv c _ (fun _ hv hmem => hv (List.mem_of_mem_erase hmem)) fun _ hv => hv

theorem State.Quiet.removeReservation (h : s.Quiet k d) (c : ConvId) (holder : Holder) :
    (s.removeReservation c holder).Quiet k d :=
  h.modConv c _ (fun _ hv => hv) fun _ hv r hr => hv r (List.mem_of_mem_filter hr)

theorem State.Quiet.releaseRoom (h : s.Quiet k d) (c : ConvId) (holder : Holder) :
    (s.releaseRoom c holder).Quiet k d :=
  (h.removeReservation c holder).grantPass c

theorem State.Quiet.giveUpRoom (h : s.Quiet k d) (j : Nat) : (s.giveUpRoom j).Quiet k d := by
  by_cases hj : j = k
  · subst hj
    simp only [State.giveUpRoom, h.room]
    exact h
  · simp only [State.giveUpRoom]
    split
    · exact h
    · exact (h.modSeg_other hj _).cancelRequest _ _
    · exact (h.modSeg_other hj _).releaseRoom _ _

theorem State.Quiet.divertChoice (h : s.Quiet k d) (id : Nat) : (s.divertChoice id).Quiet k d := by
  simp only [State.divertChoice, State.postpone]
  (repeat' split)
  · exact h.of_parts rfl rfl rfl rfl
  · exact h.of_parts rfl rfl rfl rfl
  · exact h

theorem State.Quiet.seekRoom (h : s.Quiet k d) {j : Nat} (hj : j ≠ k) (id : Nat) : (s.seekRoom j id).Quiet k d := by
  simp only [State.seekRoom]
  have hh : Holder.segment j ≠ .segment k := fun heq => hj (Holder.segment.inj heq)
  refine State.Quiet.requestRoom (State.Quiet.modSeg_other ?_ hj _) _ hh
  split
  · exact h
  · exact h.divertChoice id

/-! ## Tests and withdrawals -/

theorem State.Quiet.scTest (h : s.Quiet k d) (j : Nat) : (s.scTest j).Quiet k d := by
  unfold State.scTest
  split
  · next hready =>
    have hj : j ≠ k := h.ne_of_state (of_decide_eq_true (Bool.and_eq_true_iff.mp hready).2) (by decide)
    (repeat' split)
    · exact (h.giveUpRoom j).scFeed hj
    · exact (h.stopFeed j).seekRoom hj _
    · exact h.stopFeed j
    · exact h.scFeed hj
    · exact (h.giveUpRoom j).stopFeed j
  · exact h

theorem State.Quiet.scMaybeReady (h : s.Quiet k d) (j : Nat) : (s.scMaybeReady j).Quiet k d := by
  unfold State.scMaybeReady
  split
  · next hwork =>
    simp only [Bool.and_eq_true, decide_eq_true_eq] at hwork
    obtain ⟨⟨⟨-, hstate⟩, -⟩, -⟩ := hwork
    exact (h.modSeg_other (h.ne_of_state hstate (by decide)) _).scTest j
  · exact h

theorem State.Quiet.scWithdraw (h : s.Quiet k d) {j : Nat} (hj : j ≠ k) (target : SegState) (releaseIt : Bool) :
    (s.scWithdraw j target releaseIt).Quiet k d := by
  have hx := (h.modSeg_other hj fun g => { g with state := target, queued := none, room := .none }).adaWithdraw j
  simp only [State.scWithdraw]
  (repeat' split)
  · exact hx.releaseRoom _ _
  · exact hx
  · exact hx

theorem State.Quiet.scStationsFree (h : s.Quiet k d) (j : Nat) (free : Bool) : (s.scStationsFree j free).Quiet k d := by
  have hx := h.modSeg j (fun g => { g with stationsFree := free }) fun _ _ => ⟨rfl, rfl⟩
  simp only [State.scStationsFree]
  split
  · exact hx.scMaybeReady j
  · split
    · next hstate =>
      have hj := h.ne_of_state hstate (by decide)
      exact ((hx.modSeg_other hj _).giveUpRoom j).stopFeed j
    · next hstate =>
      exact hx.scWithdraw (h.ne_of_state hstate (by decide)) _ _
    · exact hx

/-! ## Stations, arrivals and notices -/

theorem State.Quiet.sqsAfter (h : s.Quiet k d) (j : Nat) : (s.sqsAfter j).Quiet k d := by
  have hended : (if s.common j = .running && !((s.stationsOn j).any fun p => p.2.underCommon) then
      s.setCommon j .none else s).Quiet k d := by
    split
    · exact h.of_parts rfl rfl rfl rfl
    · exact h
  have hdue (y : State) (hy : y.Quiet k d) :
      (if y.commonDue j then (y.setCommon j .requested).scReleaseAllDue j else y).Quiet k d := by
    split
    · exact (State.Quiet.of_parts (u := y.setCommon j .requested) hy rfl rfl rfl rfl).needDrive j .releaseAll
    · exact hy
  have htold (y : State) (hy : y.Quiet k d) :
      (if (y.seg j).stationsFree ≠ y.allFree j then y.scStationsFree j (y.allFree j) else y).Quiet k d := by
    split
    · exact hy.scStationsFree j _
    · exact hy
  exact htold _ (hdue _ hended)

theorem State.Quiet.sqsJob (h : s.Quiet k d) (n : Nat) (o : JobOrder) : (s.sqsJob n o).Quiet k d := by
  cases o with
  | pass => exact h
  | miss id => exact h.of_parts rfl rfl rfl rfl
  | work j =>
    have hmissed : (if j.kind = .machine then s.trkOpMissed n j.pallet else s).Quiet k d := by
      split
      · exact h.of_parts rfl rfl rfl rfl
      · exact h
    simp only [State.sqsJob]
    split
    · refine State.Quiet.sqsAfter ?_ _
      exact h.of_parts rfl rfl rfl rfl
    · exact hmissed
    · exact hmissed
    · exact hmissed
    · exact h

theorem State.Quiet.loadDecision (h : s.Quiet k d) (n id : Nat) (p : Pallet) : (s.loadDecision n id p).Quiet k d := by
  unfold State.loadDecision
  (repeat' split)
  · exact (State.Quiet.of_parts (u := s.modWorkpiece id fun w => { w with holdOver := true }) h rfl rfl rfl rfl).sqsJob
      n .pass
  · exact h.sqsJob n .pass
  · exact (State.Quiet.of_parts (u := s.post .verifyOverdue (.station n) (some id) (.laps p.laps)) h rfl rfl rfl
      rfl).sqsJob n .pass
  · exact h.sqsJob n _

theorem State.Quiet.arrival (h : s.Quiet k d) (i j id : Nat) : (s.arrival i j id).Quiet k d := by
  unfold State.arrival
  (repeat' split)
  · exact h.sqsJob _ _
  · exact h.loadDecision _ _ _
  · exact h.sqsJob _ _
  · exact h

theorem State.Quiet.giveNotices (h : s.Quiet k d) (i : Nat) (l : List (Nat × Nat)) : (s.giveNotices i l).Quiet k d :=
  forEach_keeps (p := fun x : State => x.Quiet k d) (fun p _ hx => State.Quiet.arrival hx i p.1 p.2) l h

theorem State.Quiet.openTag (h : s.Quiet k d) : s.openTag.Quiet k d := by
  simp only [State.openTag, State.setTrackHold]
  refine State.Quiet.modSeg ?_ 1 _ fun _ _ => ⟨rfl, rfl⟩
  exact h.of_parts rfl rfl rfl rfl

theorem State.Quiet.indexNotices (h : s.Quiet k d) (i : Nat) (l : List (Nat × Nat)) (opens : Bool) :
    (s.indexNotices i l opens).Quiet k d := by
  unfold State.indexNotices
  split
  · exact h.openTag.giveNotices i _
  · exact h.giveNotices i l

theorem State.Quiet.tryCheck (h : s.Quiet k d) : s.tryCheck.Quiet k d := by
  simp only [State.tryCheck]
  split
  · split
    · exact h.of_parts rfl rfl rfl rfl
    · exact h
  · exact h

theorem State.Quiet.vsHeadNotice (h : s.Quiet k d) : s.vsHeadNotice.Quiet k d := by
  unfold State.vsHeadNotice
  (repeat' split)
  · exact h.of_parts rfl rfl rfl rfl
  · exact h
  · exact h.of_parts rfl rfl rfl rfl
  · refine State.Quiet.tryCheck ?_
    exact h.of_parts rfl rfl rfl rfl

theorem State.Quiet.headNotice (h : s.Quiet k d) (c : ConvId) : (s.headNotice c).Quiet k d := by
  cases c with
  | rc => exact h.scTest 1
  | b1 => exact h.scTest 2
  | b2 => exact h.scTest 3
  | b3 => exact h.scTest 4
  | vs => exact h.vsHeadNotice

theorem State.Quiet.expectMore (h : s.Quiet k d) (c : ConvId) : (s.expectMore c).Quiet k d := by
  refine State.Quiet.modConv ?_ c _ (fun _ hv => hv) fun _ hv => hv
  exact h.modConv c (fun v => { v with expected := v.expected + 1 }) (fun _ hv => hv) fun _ hv => hv

theorem State.Quiet.upstreamSettled (h : s.Quiet k d) (j : Nat) (oi : OpenIndex) :
    (s.upstreamSettled j oi).Quiet k d := by
  unfold State.upstreamSettled
  split
  · exact h
  · exact (h.grantPass _).headNotice _

theorem State.Quiet.takeNotices (h : s.Quiet k d) : s.takeNotices.Quiet k d := h.of_parts rfl rfl rfl rfl

end

end Sys2Proof.Machine
end

section
/-! PROOF. CONFIRM SEGMENT (O41): the map it settles, the counters, and the segment that stays quiet. -/

namespace Sys2Proof.Machine

/-! ## The branches of CONFIRM SEGMENT (R43) -/

theorem State.unsettled_none {s : State} {k : Nat} (h : (s.seg k).state ≠ .fault ∨ s.certain k = true) :
    s.unsettled k = none := by
  unfold State.unsettled
  rw [if_neg]
  rcases h with h | h <;> simp [h]

theorem State.unsettled_some {s : State} {k : Nat} {oi : OpenIndex} (hf : (s.seg k).state = .fault)
    (hc : s.certain k = false) (ho : (s.segMap k).openIndex = some oi) : s.unsettled k = some oi := by
  simp [State.unsettled, hf, hc, ho]

theorem segmentNumberBad_false {s : State} {k : Nat} (h1 : 1 ≤ k) (h2 : k ≤ s.nseg) :
    segmentNumberBad s k = false := by
  simp [segmentNumberBad]
  omega

section
variable {s : State} {k : Nat} (he : s.editOpen = true) (hk : segmentNumberBad s k = false)
include he hk

theorem State.requestConfirm_certain (hu : s.unsettled k = none) (flag : Nat) (occupants : List Byte) :
    s.requestConfirmBefore k = (s, .state) ∧ s.requestConfirmAfter k = (s, .state)
      ∧ s.requestConfirmList k flag occupants = (s, .state) := by
  simp [State.requestConfirmBefore, State.requestConfirmAfter, State.requestConfirmList, he, hk, hu]

variable {oi : OpenIndex} (hu : s.unsettled k = some oi)
include hu

theorem State.requestConfirmBefore_settles :
    s.requestConfirmBefore k = ((s.settleBefore k oi).closeEvent, okEmpty) := by
  simp [State.requestConfirmBefore, he, hk, hu]

theorem State.requestConfirmAfter_settles :
    s.requestConfirmAfter k = ((s.confirmAfter k oi).closeEvent, okEmpty) := by
  simp [State.requestConfirmAfter, he, hk, hu]

theorem State.requestConfirmList_settles {flag : Nat} {occupants : List Byte} (hflag : flag ≤ 1)
    (hl : s.listRefused k oi (flag = 1) (occupants.map occupantOf) = false) :
    s.requestConfirmList k flag occupants
      = ((s.confirmList k oi (flag = 1) (occupants.map occupantOf)).closeEvent, okEmpty) := by
  simp [State.requestConfirmList, he, hk, hu, Nat.not_lt.mpr hflag, hl]

theorem State.requestConfirmList_refused {flag : Nat} {occupants : List Byte} (hflag : flag ≤ 1)
    (hl : s.listRefused k oi (flag = 1) (occupants.map occupantOf) = true) :
    s.requestConfirmList k flag occupants = (s, .arg 0) := by
  simp [State.requestConfirmList, he, hk, hu, Nat.not_lt.mpr hflag, hl]

end

/-! ## The pallets that moved (R19) -/

theorem optionList_eq_toList (o : Option Nat) : optionList o = o.toList := by
  cases o <;> rfl

theorem standing_pallets (n : Nat) (l : List (Option Nat)) :
    (standing (numberFrom n l)).map (·.2) = l.filterMap fun o => o := by
  induction l generalizing n with
  | nil => rfl
  | cons o rest ih => cases o <;> simp [numberFrom, standing, ih]

/-- The changed nests, from the nest after the first `m`. -/
theorem changed_pallets (before after : List (Option Nat)) (m : Nat)
    (h : after.length = (before.drop m).length) :
    ((standing (numberFrom (m + 1) after)).filter fun p => ((before[p.1 - 1]?).getD none) ≠ some p.2).map (·.2)
      = ((after.zip (before.drop m)).filter fun q => q.1 ≠ q.2).filterMap fun q => q.1 := by
  induction after generalizing m with
  | nil => rfl
  | cons o rest ih =>
    have hm : m < before.length := by
      simp only [List.length_cons, List.length_drop] at h
      omega
    have hdrop : before.drop m = before[m] :: before.drop (m + 1) := List.drop_eq_getElem_cons hm
    have hrest := ih (m + 1) (by
      rw [hdrop, List.length_cons, List.length_cons] at h
      exact Nat.succ.inj h)
    rw [hdrop, List.zip_cons_cons]
    cases o with
    | none =>
      rw [numberFrom, standing, hrest]
      by_cases hb : none = before[m] <;> simp [hb]
    | some id =>
      have hget : (before[m]?).getD none = before[m] := by simp [hm]
      rw [numberFrom, standing]
      by_cases hb : some id = before[m]
      · simpa [hget, ← hb] using hrest
      · simpa [hget, hb, Ne.symm hb] using hrest

theorem changedNests_pallets {before after : List (Option Nat)} (h : after.length = before.length) :
    (changedNests before after).map (·.2)
      = ((after.zip before).filter fun q => q.1 ≠ q.2).filterMap fun q => q.1 :=
  changed_pallets before after 0 h

/-! ## Counters (R19) -/

theorem State.pallet_modPallet_same {s : State} {id : Nat} {p : Pallet} (hp : s.pallet id = some p)
    (f : Pallet → Pallet) : (s.modPallet id f).pallet id = some (f p) := by
  rw [State.pallet, State.modPallet, tableGet_modify_same]
  exact congrArg (Option.map f) hp

theorem State.pallet_modPallet_other {s : State} {id i : Nat} (h : i ≠ id) (f : Pallet → Pallet) :
    (s.modPallet id f).pallet i = s.pallet i := by
  rw [State.pallet, State.modPallet, tableGet_modify_other h]
  rfl

/-- Each time a pallet moves its index count rises by one, to 65535 at the most. -/
theorem countIndex_pallet {id : Nat} (moved : List Nat) {s : State} {p : Pallet} (hp : s.pallet id = some p) :
    ∃ p', (forEach (fun i x => x.countIndex i) moved s).pallet id = some p'
      ∧ p'.indexCount = (if id ∈ moved then min 65535 (p.indexCount + moved.count id) else p.indexCount)
      ∧ p'.laps = p.laps := by
  induction moved generalizing s p with
  | nil => exact ⟨p, hp, rfl, rfl⟩
  | cons a rest ih =>
    by_cases ha : a = id
    · subst ha
      obtain ⟨p', hp', hcount, hlaps⟩ := ih (State.pallet_modPallet_same hp Pallet.countIndex)
      refine ⟨p', hp', hcount.trans ?_, hlaps⟩
      have hzero : a ∉ rest → rest.count a = 0 := List.count_eq_zero.mpr
      simp only [Pallet.countIndex, List.mem_cons, true_or, if_true, List.count_cons_self]
      split
      · omega
      · next hmem => rw [hzero hmem]
    · obtain ⟨p', hp', hcount, hlaps⟩ := ih
        ((State.pallet_modPallet_other (Ne.symm ha) Pallet.countIndex).trans hp)
      refine ⟨p', hp', ?_, hlaps⟩
      simpa [List.mem_cons, Ne.symm ha, List.count_cons, ha] using hcount

theorem State.pallet_syncPlacements {s : State} {id : Nat} {p : Pallet} (hp : s.pallet id = some p) :
    s.syncPlacements.pallet id = some { p with placement := s.placementInMap id } := by
  have hmap (l : List (Nat × Pallet)) :
      tableGet id (l.map fun p => (p.1, { p.2 with placement := s.placementInMap p.1 }))
        = (tableGet id l).map fun p => { p with placement := s.placementInMap id } := by
    induction l with
    | nil => rfl
    | cons q rest ih =>
      obtain ⟨j, v⟩ := q
      by_cases h : j = id
      · subst h; simp [tableGet]
      · simp [tableGet, h, ih]
  exact (hmap s.trk.pallets).trans (congrArg (Option.map _) hp)

theorem State.entryLap_pallet {s : State} {k id : Nat} {oi : OpenIndex} {p : Pallet} (hp : s.pallet id = some p) :
    ∃ p', (s.entryLap k oi).pallet id = some p' ∧ p'.indexCount = p.indexCount
      ∧ p'.laps = if k = 1 ∧ oi.entry = some id then min 255 (p.laps + 1) else p.laps := by
  unfold State.entryLap
  split
  · next e he =>
    by_cases hk : k = 1
    · by_cases hid : e = id
      · subst hid
        exact ⟨p.countLap, by rw [if_pos hk]; exact State.pallet_modPallet_same hp _, rfl,
          by rw [if_pos ⟨hk, he⟩]; rfl⟩
      · refine ⟨p, ?_, rfl, ?_⟩
        · rw [if_pos hk]; exact (State.pallet_modPallet_other (Ne.symm hid) _).trans hp
        · rw [if_neg fun h => hid (Option.some.inj (he.symm.trans h.2))]
    · exact ⟨p, by rw [if_neg hk]; exact hp, rfl, by rw [if_neg fun h => hk h.1]⟩
  · next he => exact ⟨p, hp, rfl, (if_neg fun h => Option.some_ne_none id (h.2.symm.trans he)).symm⟩

/-! ## The open index ended (R27) -/

/-- The map once the open index has ended: the edits of R27 before the conveyors and the consumers act. -/
def State.indexEnded (s : State) (k : Nat) (oi : OpenIndex) (joins : Bool) (nests : List (Option Nat))
    (moved : List Nat) : State :=
  (((if joins then s.exitJoins k oi else s).entryLeaves k oi).entryLap k oi).endIndex k nests moved

/-- The tables that the flow of segments goes by. -/
def State.flowTables (s : State) : List (Nat × Segment) × Ada × Cvt := (s.sc, s.ada, s.cvt)

section
variable (s : State) (k : Nat) (oi : OpenIndex)

theorem State.exitJoins_segs : (s.exitJoins k oi).trk.segs = s.trk.segs := by
  unfold State.exitJoins
  split <;> rfl

theorem State.exitJoins_pallet (id : Nat) : (s.exitJoins k oi).pallet id = s.pallet id := by
  unfold State.exitJoins
  split <;> rfl

theorem State.exitJoins_sc : (s.exitJoins k oi).sc = s.sc := by
  unfold State.exitJoins
  split <;> rfl

theorem State.exitJoins_ada : (s.exitJoins k oi).ada = s.ada := by
  unfold State.exitJoins
  split <;> rfl

theorem State.exitJoins_requests (c : ConvId) : ((s.exitJoins k oi).conv c).requests = (s.conv c).requests := by
  unfold State.exitJoins
  split
  · next id d _ _ =>
    obtain h | ⟨-, h⟩ := (s.joinTail d id).conv_modConv d c fun v =>
      { v with reservations := dropReservation (.segment k) v.reservations }
    · exact (congrArg Conveyor.requests h :)
    · exact (congrArg Conveyor.requests h :)
  · rfl

theorem State.removeReservation_reservations (c : ConvId) (h : Holder) :
    ∀ r ∈ ((s.removeReservation c h).conv c).reservations, r.holder ≠ h := by
  intro r hr
  have hfresh (v : Conveyor) (hv : r ∈ dropReservation h v.reservations) : r.holder ≠ h :=
    of_decide_eq_true (List.mem_filter.mp hv).2
  simp only [State.removeReservation, State.conv, State.modConv, tableGet_modify_same] at hr
  cases hv : tableGet c s.cvt.convs with
  | none => rw [hv] at hr; cases hr
  | some v => rw [hv] at hr; exact hfresh v hr

/-- The reservation on the destination becomes the entry there (R27 step 1). -/
theorem State.exitJoins_reservations (h : oi.dest.isSome = true → oi.exit.isSome = true) {c : ConvId}
    (hc : oi.dest = some c) : ∀ r ∈ ((s.exitJoins k oi).conv c).reservations, r.holder ≠ .segment k := by
  obtain ⟨id, hid⟩ := Option.isSome_iff_exists.mp (h (by rw [hc]; rfl))
  simp only [State.exitJoins, hid, hc]
  exact (s.joinTail c id).removeReservation_reservations c (.segment k)

theorem State.entryLeaves_segs : (s.entryLeaves k oi).trk.segs = s.trk.segs := by
  unfold State.entryLeaves
  split <;> rfl

theorem State.entryLeaves_pallet (id : Nat) : (s.entryLeaves k oi).pallet id = s.pallet id := by
  unfold State.entryLeaves
  split <;> rfl

theorem State.entryLeaves_flowTables : (s.entryLeaves k oi).flowTables = s.flowTables := by
  unfold State.entryLeaves
  split <;> rfl

theorem State.entryLap_segs : (s.entryLap k oi).trk.segs = s.trk.segs := by
  unfold State.entryLap
  (repeat' split) <;> rfl

theorem State.entryLap_lists : (s.entryLap k oi).trk.lists = s.trk.lists := by
  unfold State.entryLap
  (repeat' split) <;> rfl

theorem State.entryLap_flowTables : (s.entryLap k oi).flowTables = s.flowTables := by
  unfold State.entryLap
  (repeat' split) <;> rfl

/-- The map with the segment's new nests, before the counters and the placements. -/
def State.newNests (s : State) (k : Nat) (nests : List (Option Nat)) : State :=
  s.modSegMap k fun _ => { nests := nests, certainty := .certain, openIndex := none }

variable (nests : List (Option Nat)) (moved : List Nat)

theorem State.endIndex_segs : (s.endIndex k nests moved).trk.segs = (s.newNests k nests).trk.segs := by
  have hcount := forEach_view (fun x : State => x.trk.segs) (f := fun id x => x.countIndex id)
    (fun _ _ => rfl) moved (s.newNests k nests)
  simp only [State.endIndex]
  split <;> exact hcount

theorem State.endIndex_lists : (s.endIndex k nests moved).trk.lists = s.trk.lists := by
  have hcount := forEach_view (fun x : State => x.trk.lists) (f := fun id x => x.countIndex id)
    (fun _ _ => rfl) moved (s.newNests k nests)
  simp only [State.endIndex]
  split <;> exact hcount

theorem State.endIndex_flowTables : (s.endIndex k nests moved).flowTables = s.flowTables := by
  have hcount := forEach_view State.flowTables (f := fun id x => x.countIndex id)
    (fun _ _ => rfl) moved (s.newNests k nests)
  simp only [State.endIndex]
  split <;> exact hcount

theorem State.endIndex_pallet {id : Nat} {p : Pallet} (hp : s.pallet id = some p) :
    ∃ p', (s.endIndex k nests moved).pallet id = some p'
      ∧ p'.indexCount = (if id ∈ moved then min 65535 (p.indexCount + moved.count id) else p.indexCount)
      ∧ p'.laps = p.laps := by
  obtain ⟨p', hp', hcount, hlaps⟩ := countIndex_pallet moved (s := s.newNests k nests) hp
  have hsync := State.pallet_syncPlacements hp'
  refine ⟨{ p' with
    placement := (forEach (fun i x => x.countIndex i) moved (s.newNests k nests)).placementInMap id },
    ?_, hcount, hlaps⟩
  simp only [State.endIndex]
  split <;> exact hsync

/-! ## What the end of the open index leaves -/

variable (joins : Bool)

theorem State.indexEnded_segs :
    (s.indexEnded k oi joins nests moved).trk.segs = (s.newNests k nests).trk.segs := by
  have hjoined : (if joins then s.exitJoins k oi else s).trk.segs = s.trk.segs := by
    split
    · exact s.exitJoins_segs k oi
    · rfl
  rw [State.indexEnded, State.endIndex_segs]
  simp only [State.newNests, State.modSegMap, State.entryLap_segs, State.entryLeaves_segs, hjoined]

theorem State.indexEnded_lists : (s.indexEnded k oi joins nests moved).trk.lists
    = ((if joins then s.exitJoins k oi else s).entryLeaves k oi).trk.lists := by
  rw [State.indexEnded, State.endIndex_lists, State.entryLap_lists]

theorem State.indexEnded_flowTables : (s.indexEnded k oi joins nests moved).flowTables
    = (if joins then s.exitJoins k oi else s).flowTables := by
  rw [State.indexEnded, State.endIndex_flowTables, State.entryLap_flowTables, State.entryLeaves_flowTables]

/-- The segment whose certainty is not CERTAIN stands in the table. -/
theorem State.mem_segs_of_certain {s : State} {k : Nat} (hc : s.certain k = false) :
    ∃ m, tableGet k s.trk.segs = some m := by
  cases hm : tableGet k s.trk.segs with
  | some m => exact ⟨m, rfl⟩
  | none => simp [State.certain, State.segMap, hm] at hc

theorem State.indexEnded_segMap_of_mem {s : State} {m : SegMap} (hm : tableGet k s.trk.segs = some m) :
    (s.indexEnded k oi joins nests moved).segMap k
      = { nests := nests, certainty := .certain, openIndex := none } := by
  simp [State.segMap, State.indexEnded_segs, State.newNests, State.modSegMap, tableGet_modify_same, hm]

theorem State.indexEnded_segMap {s : State} (hc : s.certain k = false) :
    (s.indexEnded k oi joins nests moved).segMap k
      = { nests := nests, certainty := .certain, openIndex := none } := by
  obtain ⟨m, hm⟩ := State.mem_segs_of_certain hc
  exact State.indexEnded_segMap_of_mem k oi nests moved joins hm

theorem State.indexEnded_nests_other {j : Nat} (hj : j ≠ k) :
    (s.indexEnded k oi joins nests moved).nests j = s.nests j := by
  simp only [State.nests, State.segMap, State.indexEnded_segs, State.newNests, State.modSegMap,
    tableGet_modify_other hj]

theorem State.indexEnded_pallet {id : Nat} {p : Pallet} (hp : s.pallet id = some p) :
    ∃ p', (s.indexEnded k oi joins nests moved).pallet id = some p'
      ∧ p'.indexCount = (if id ∈ moved then min 65535 (p.indexCount + moved.count id) else p.indexCount)
      ∧ p'.laps = if k = 1 ∧ oi.entry = some id then min 255 (p.laps + 1) else p.laps := by
  have hjoined : (if joins then s.exitJoins k oi else s).pallet id = some p := by
    split
    · exact (s.exitJoins_pallet k oi id).trans hp
    · exact hp
  obtain ⟨p1, hp1, hcount1, hlaps1⟩ := State.entryLap_pallet (k := k) (oi := oi)
    ((State.entryLeaves_pallet _ k oi id).trans hjoined)
  obtain ⟨p2, hp2, hcount2, hlaps2⟩ := State.endIndex_pallet _ k nests moved hp1
  exact ⟨p2, hp2, by rw [hcount2, hcount1], hlaps2.trans hlaps1⟩

end

/-! ## The segment stays quiet -/

theorem State.mem_segNumbers_of_fault {s : State} {k : Nat} (hf : (s.seg k).state = .fault) : k ∈ s.segNumbers := by
  cases hg : tableGet k s.sc with
  | some g => exact List.mem_map.mpr ⟨(k, g), mem_of_tableGet hg, rfl⟩
  | none => simp [State.seg, hg, Segment.fresh] at hf

/-- An open index of a sound map has a destination exactly for an exit pallet (R26). -/
theorem State.MapSound.dest_isSome {s : State} (hs : s.MapSound) {k : Nat} {oi : OpenIndex}
    (hf : (s.seg k).state = .fault) (ho : (s.segMap k).openIndex = some oi) : oi.dest.isSome = oi.exit.isSome :=
  ((hs.segments k (State.mem_segNumbers_of_fault hf)).contents oi ho).2.1

/-- Segment k has no room and waits for no admission and no room. -/
def State.seeksNothing (s : State) (k : Nat) : Prop :=
  (s.seg k).room = .none ∧ (∀ q ∈ s.ada.queue, q.segment ≠ k) ∧ ∀ c, .segment k ∉ (s.conv c).requests

/-- In a sound map a segment in FAULT waits for no admission and no room (R76, R106). -/
theorem State.MapSound.seeks_nothing {s : State} (hs : s.MapSound) {k : Nat} (hf : (s.seg k).state = .fault) :
    s.seeksNothing k := by
  have hseg := hs.segments k (State.mem_segNumbers_of_fault hf)
  have hroom : (s.seg k).room = .none := by
    by_contra hne
    rcases hseg.room hne with h | h <;> simp [hf] at h
  refine ⟨hroom, fun q hq hqk => ?_, fun c hreq => ?_⟩
  · have hqueued := hseg.queued.2.mpr (List.mem_map.mpr ⟨q, hq, hqk⟩)
    simp [hf] at hqueued
  · cases hv : tableGet c s.cvt.convs with
    | none => simp [State.conv, hv, Conveyor.fresh] at hreq
    | some v =>
      have hwaits := (hs.conveyors c (List.mem_map.mpr ⟨(c, v), mem_of_tableGet hv, rfl⟩)).requests _ hreq
      simp [hroom] at hwaits

section
variable {s : State} {k : Nat} {oi : OpenIndex} (hf : (s.seg k).state = .fault) (hc : s.certain k = false)
  (hseeks : s.seeksNothing k)
include hf hc hseeks

theorem State.indexEnded_quiet (joins : Bool) (nests : List (Option Nat)) (moved : List Nat)
    (hjoins : joins = true → oi.dest.isSome = true → oi.exit.isSome = true) :
    (s.indexEnded k oi joins nests moved).Quiet k (if joins then oi.dest else none) := by
  obtain ⟨hroom, hqueue, hreq⟩ := hseeks
  have htables := s.indexEnded_flowTables k oi nests moved joins
  have hindex := State.indexEnded_segMap k oi nests moved joins hc
  cases joins with
  | false =>
    obtain ⟨hsc, hada, hcvt⟩ : (s.indexEnded k oi false nests moved).sc = s.sc
        ∧ (s.indexEnded k oi false nests moved).ada = s.ada
        ∧ (s.indexEnded k oi false nests moved).cvt = s.cvt := by
      simpa [State.flowTables] using htables
    refine ⟨?_, ?_, hada ▸ hqueue, fun c => ?_, by rw [hindex], fun c h => nomatch h⟩
    · simpa only [State.seg, hsc] using hf
    · simpa only [State.seg, hsc] using hroom
    · simpa only [State.conv, hcvt] using hreq c
  | true =>
    obtain ⟨hsc, hada, hcvt⟩ : (s.indexEnded k oi true nests moved).sc = (s.exitJoins k oi).sc
        ∧ (s.indexEnded k oi true nests moved).ada = (s.exitJoins k oi).ada
        ∧ (s.indexEnded k oi true nests moved).cvt = (s.exitJoins k oi).cvt := by
      simpa [State.flowTables] using htables
    rw [State.exitJoins_sc] at hsc
    rw [State.exitJoins_ada] at hada
    have hconv (c : ConvId) : (s.indexEnded k oi true nests moved).conv c = (s.exitJoins k oi).conv c := by
      simp only [State.conv, hcvt]
    refine ⟨?_, ?_, hada ▸ hqueue, fun c => ?_, by rw [hindex], fun c h => ?_⟩
    · simpa only [State.seg, hsc] using hf
    · simpa only [State.seg, hsc] using hroom
    · rw [hconv, State.exitJoins_requests]
      exact hreq c
    · rw [hconv]
      exact s.exitJoins_reservations k oi (hjoins rfl) h

end

/-- With the entry joined, or the reservation released, no reservation is left on the destination. -/
theorem State.Quiet.destinationSettled {s : State} {k : Nat} {oi : OpenIndex} {joined : Bool}
    (h : s.Quiet k (if joined then oi.dest else none)) : (s.destinationSettled k oi joined).Quiet k oi.dest := by
  unfold State.destinationSettled
  split
  · next hd =>
    exact ⟨h.fault, h.room, h.queue, h.requests, h.index, fun c hc => nomatch hd.symm.trans hc⟩
  · next c hd =>
    cases joined with
    | true => exact State.Quiet.expectMore h c
    | false =>
      have hr := State.Quiet.removeReservation h c (.segment k)
      refine State.Quiet.grantPass ⟨hr.fault, hr.room, hr.queue, hr.requests, hr.index, fun c' hc' => ?_⟩ c
      obtain rfl : c = c' := Option.some.inj (hd.symm.trans hc')
      exact s.removeReservation_reservations c (.segment k)

/-- In a line that is not STOPPING the end of an event only takes the notices. -/
theorem State.Quiet.closeEvent {s : State} {k : Nat} {d : Option ConvId} (h : s.Quiet k d)
    (hc : s.lsv.lineState ≠ .config) (hs : s.lsv.lineState ≠ .stopping) : s.closeEvent.Quiet k d := by
  rw [State.closeEvent_notices hc hs]
  exact h.takeNotices

/-! ## AFTER and LIST (R44, R45) -/

/-- The open index settled with the given nests, and in RUN the notices of the pallets that `l` lists. -/
def State.confirmedBy (s : State) (k : Nat) (oi : OpenIndex) (joins : Bool) (nests : List (Option Nat))
    (moved : List Nat) (l : List (Nat × Nat)) (opens : Bool) : State :=
  let s1 := ((s.indexEnded k oi joins nests moved).destinationSettled k oi joins).upstreamSettled k oi
  if s.lsv.lineState = .run then s1.indexNotices k l opens else s1

theorem State.confirmAfter_eq (s : State) (k : Nat) (oi : OpenIndex) :
    s.confirmAfter k oi = s.confirmedBy k oi true (shiftNests oi.entry (s.nests k))
      ((standing (numberFrom 1 (shiftNests oi.entry (s.nests k)))).map (·.2) ++ optionList oi.exit)
      (standing (numberFrom 1 ((s.shift k oi).nests k))) (k = 1) := rfl

/-- The open index with the entry pallet left out where the list does not name it (R45). -/
def OpenIndex.named (oi : OpenIndex) (nests : List (Option Nat)) : OpenIndex :=
  { oi with entry := if (match oi.entry with
      | some id => nests.contains (some id)
      | none => false) then oi.entry else none }

theorem State.confirmList_eq (s : State) (k : Nat) (oi : OpenIndex) (flag : Bool) (nests : List (Option Nat)) :
    s.confirmList k oi flag nests = s.confirmedBy k (oi.named nests) flag nests
      ((changedNests (s.nests k) nests).map (·.2) ++ (if flag then optionList oi.exit else []))
      (changedNests (s.nests k) nests) (k = 1 && (nests.head?.getD none) ≠ s.occupant 1 1) := rfl

/-- The notices change the map in the tag check alone (R39). -/
theorem State.indexNotices_map (s : State) (k : Nat) (l : List (Nat × Nat)) (opens : Bool) :
    ∃ tag, mapView.view (s.indexNotices k l opens) = mapView.view (s.setTag tag) := by
  cases opens with
  | true => exact ⟨s.openTag.trk.tag, mapView.giveNotices s.openTag k _⟩
  | false => exact ⟨s.trk.tag, mapView.giveNotices s k l⟩

theorem mapView_setTag {s u : State} (h : mapView.view u = mapView.view s) (tag : TagCheck) :
    mapView.view (u.setTag tag) = mapView.view (s.setTag tag) :=
  congrArg (fun x : Trk => { x with tag := tag }) h

section
variable (s : State) (k : Nat) (oi : OpenIndex) (joins : Bool) (nests : List (Option Nat)) (moved : List Nat)
  (l : List (Nat × Nat)) (opens : Bool)

theorem State.confirmedBy_map : ∃ tag, mapView.view (s.confirmedBy k oi joins nests moved l opens)
    = mapView.view ((s.indexEnded k oi joins nests moved).setTag tag) := by
  have hsettled : mapView.view
      (((s.indexEnded k oi joins nests moved).destinationSettled k oi joins).upstreamSettled k oi)
      = mapView.view (s.indexEnded k oi joins nests moved) := by simp
  simp only [State.confirmedBy]
  split
  · obtain ⟨tag, htag⟩ := State.indexNotices_map
      (((s.indexEnded k oi joins nests moved).destinationSettled k oi joins).upstreamSettled k oi) k l opens
    exact ⟨tag, htag.trans (mapView_setTag hsettled tag)⟩
  · exact ⟨(s.indexEnded k oi joins nests moved).trk.tag, hsettled⟩

theorem State.confirmedBy_nests (hc : s.certain k = false) :
    (s.confirmedBy k oi joins nests moved l opens).nests k = nests
      ∧ (s.confirmedBy k oi joins nests moved l opens).certain k = true
      ∧ (∀ j, j ≠ k → (s.confirmedBy k oi joins nests moved l opens).nests j = s.nests j)
      ∧ (s.confirmedBy k oi joins nests moved l opens).trk.lists
        = ((if joins then s.exitJoins k oi else s).entryLeaves k oi).trk.lists := by
  obtain ⟨tag, hmap⟩ := s.confirmedBy_map k oi joins nests moved l opens
  have hseg := State.indexEnded_segMap k oi nests moved joins hc
  refine ⟨(nests_of_map hmap k).trans (congrArg SegMap.nests hseg), ?_, fun j hj => ?_, ?_⟩
  · refine (certain_of_map hmap k).trans ?_
    exact decide_eq_true (congrArg SegMap.certainty hseg)
  · exact (nests_of_map hmap j).trans (s.indexEnded_nests_other k oi nests moved joins hj)
  · exact (lists_of_map hmap).trans (s.indexEnded_lists k oi nests moved joins)

theorem State.confirmedBy_pallet {id : Nat} {p : Pallet} (hp : s.pallet id = some p) :
    ∃ p', (s.confirmedBy k oi joins nests moved l opens).pallet id = some p'
      ∧ p'.indexCount = (if id ∈ moved then min 65535 (p.indexCount + moved.count id) else p.indexCount)
      ∧ p'.laps = if k = 1 ∧ oi.entry = some id then min 255 (p.laps + 1) else p.laps := by
  obtain ⟨tag, hmap⟩ := s.confirmedBy_map k oi joins nests moved l opens
  obtain ⟨p1, hp1, hcount1, hlaps1⟩ := s.indexEnded_pallet k oi nests moved joins hp
  obtain ⟨p2, hp2, hcount2, hlaps2⟩ := pallet_of_map hmap (id := id) hp1
  exact ⟨p2, hp2, hcount2.trans hcount1, hlaps2.trans hlaps1⟩

theorem State.confirmedBy_quiet {s : State} {k : Nat} {oi : OpenIndex} (hseeks : s.seeksNothing k)
    (hf : (s.seg k).state = .fault) (hc : s.certain k = false)
    (hjoins : joins = true → oi.dest.isSome = true → oi.exit.isSome = true) :
    (s.confirmedBy k oi joins nests moved l opens).Quiet k oi.dest := by
  have hquiet := (State.indexEnded_quiet hf hc hseeks joins nests moved hjoins).destinationSettled
  simp only [State.confirmedBy]
  split
  · exact (hquiet.upstreamSettled k oi).indexNotices k l opens
  · exact hquiet.upstreamSettled k oi

end

/-! ## BEFORE (R43) -/

theorem tableModify_modify {κ α : Type} [DecidableEq κ] (k : κ) (f g : α → α) (l : List (κ × α)) :
    tableModify k f (tableModify k g l) = tableModify k (fun v => f (g v)) l := by
  induction l with
  | nil => rfl
  | cons p rest ih =>
    obtain ⟨j, v⟩ := p
    by_cases h : j = k <;> simp [tableModify, h, ih]

/-- The open index ended as not having moved: the segment CERTAIN, and the last segment's postponement note gone
(R43, R138). -/
def State.unmoved (s : State) (k : Nat) : State :=
  let s1 := s.modSegMap k fun m => { m with certainty := .certain, openIndex := none }
  if k = s.nseg then s1.modRtu fun r => { r with note := none } else s1

theorem State.settleBefore_eq (s : State) (k : Nat) (oi : OpenIndex) :
    s.settleBefore k oi = (s.unmoved k).destinationSettled k oi false := rfl

theorem State.unmoved_trk (s : State) (k : Nat) : (s.unmoved k).trk
    = (s.modSegMap k fun m => { m with certainty := .certain, openIndex := none }).trk := by
  simp only [State.unmoved]
  split <;> rfl

theorem State.unmoved_segMap {s : State} {k : Nat} (hc : s.certain k = false) :
    (s.unmoved k).segMap k = { nests := s.nests k, certainty := .certain, openIndex := none } := by
  obtain ⟨m, hm⟩ := State.mem_segs_of_certain hc
  simp [State.segMap, State.nests, State.unmoved_trk, State.modSegMap, tableGet_modify_same, hm]

theorem State.unmoved_flowTables (s : State) (k : Nat) : (s.unmoved k).flowTables = s.flowTables := by
  simp only [State.unmoved]
  split <;> rfl

theorem State.unmoved_quiet {s : State} {k : Nat} (hseeks : s.seeksNothing k) (hf : (s.seg k).state = .fault)
    (hc : s.certain k = false) : (s.unmoved k).Quiet k none := by
  obtain ⟨hroom, hqueue, hreq⟩ := hseeks
  obtain ⟨hsc, hada, hcvt⟩ :
      (s.unmoved k).sc = s.sc ∧ (s.unmoved k).ada = s.ada ∧ (s.unmoved k).cvt = s.cvt := by
    simpa [State.flowTables] using s.unmoved_flowTables k
  refine ⟨?_, ?_, hada ▸ hqueue, fun c => ?_, by rw [State.unmoved_segMap hc], fun c h => nomatch h⟩
  · simpa only [State.seg, hsc] using hf
  · simpa only [State.seg, hsc] using hroom
  · simpa only [State.conv, hcvt] using hreq c

/-- What `still` keeps, BEFORE leaves but for the segment's certainty. -/
theorem State.unmoved_still (s : State) (k : Nat) :
    (s.unmoved k).still = (s.modSegMap k fun m => { m with certainty := .certain }).still := by
  have hboth : (s.modSegMap k fun m => { m with certainty := .certain, openIndex := none })
      = (s.modSegMap k fun m => { m with certainty := .certain }).modSegMap k fun m =>
          { m with openIndex := none } := by
    simp only [State.modSegMap, tableModify_modify]
  simp only [State.unmoved, hboth]
  split <;> simp

theorem State.destinationSettled_still (s : State) (k : Nat) (oi : OpenIndex) :
    (s.destinationSettled k oi false).still = s.still := by
  unfold State.destinationSettled
  split <;> simp

theorem State.settleBefore_map (s : State) (k : Nat) (oi : OpenIndex) :
    mapView.view (s.settleBefore k oi) = mapView.view (s.unmoved k) := by
  rw [State.settleBefore_eq]
  simp

theorem OpenIndex.named_entry (oi : OpenIndex) (nests : List (Option Nat)) :
    (oi.named nests).entry = if oi.entry.isSome ∧ oi.entry ∈ nests then oi.entry else none := by
  cases h : oi.entry <;> simp [OpenIndex.named, h]

/-- A list that is not refused has the segment's length, and with the flag the index has an exit pallet (R45). -/
theorem State.length_of_listRefused {s : State} {k : Nat} {oi : OpenIndex} {flag : Bool}
    {nests : List (Option Nat)} (h : s.listRefused k oi flag nests = false) :
    nests.length = (s.nests k).length ∧ (flag = true → oi.exit.isSome = true) := by
  simp only [State.listRefused, Bool.or_eq_false_iff, decide_eq_false_iff_not, not_not] at h
  obtain ⟨⟨⟨⟨hlength, -⟩, -⟩, hexit⟩, -⟩ := h
  refine ⟨hlength, fun hflag => ?_⟩
  rw [hflag, Bool.true_and] at hexit
  exact Option.isSome_iff_ne_none.mpr fun hn => by simp [hn] at hexit

/-! ## The obligation -/

theorem State.closeEvent_certain (s : State) (k : Nat) : s.closeEvent.certain k = s.certain k := by
  simp only [State.certain, State.closeEvent_segMap]

theorem State.closeEvent_pallet (s : State) (id : Nat) : s.closeEvent.pallet id = s.pallet id := by
  simp only [State.pallet, State.closeEvent_trk]

/-- At the end of the event a quiet segment still has no open index and no reservation on its destination. -/
theorem State.Quiet.closed {s w : State} {k : Nat} {d : Option ConvId} (h : w.Quiet k d)
    (hl : s.lsv.lineState = .idle ∨ s.lsv.lineState = .halt ∨ s.lsv.lineState = .run)
    (hw : w.lsv.lineState = s.lsv.lineState) :
    (w.closeEvent.segMap k).openIndex = none
      ∧ ∀ c, d = some c → ∀ r ∈ (w.closeEvent.conv c).reservations, r.holder ≠ .segment k := by
  have hclosed : w.closeEvent.Quiet k d := by
    refine h.closeEvent ?_ ?_ <;> rw [hw] <;> rcases hl with hl | hl | hl <;> simp [hl]
  exact ⟨hclosed.index, hclosed.reservations⟩

section
variable {s : State} {k : Nat} {oi : OpenIndex}
  (hl : s.lsv.lineState = .idle ∨ s.lsv.lineState = .halt ∨ s.lsv.lineState = .run)
  (hf : (s.seg k).state = .fault) (hc : s.certain k = false)
include hl hf hc

/-- BEFORE with the end of its event. -/
theorem State.settleBefore_closed :
    (s.settleBefore k oi).closeEvent.certain k = true
      ∧ (s.seeksNothing k → ((s.settleBefore k oi).closeEvent.segMap k).openIndex = none
        ∧ ∀ c, oi.dest = some c →
          ∀ r ∈ ((s.settleBefore k oi).closeEvent.conv c).reservations, r.holder ≠ .segment k)
      ∧ (∀ id p, s.pallet id = some p → ∃ p', (s.settleBefore k oi).closeEvent.pallet id = some p'
        ∧ p'.indexCount = p.indexCount ∧ p'.laps = p.laps)
      ∧ (s.settleBefore k oi).closeEvent.nests k = s.nests k
      ∧ (s.settleBefore k oi).closeEvent.trk.lists = s.trk.lists := by
  have hmap := s.settleBefore_map k oi
  have hseg := State.unmoved_segMap (s := s) hc
  refine ⟨?_, fun hseeks => ?_, fun id p hp => ?_, ?_, ?_⟩
  · simp only [State.certain, State.closeEvent_segMap, (segMap_of_map hmap k).2, hseg, decide_true]
  · exact State.Quiet.closed (State.unmoved_quiet hseeks hf hc).destinationSettled hl
      (lineState_of_fixed (State.settleBefore_fixed s k oi))
  · obtain ⟨p', hp', hcounters⟩ := pallet_of_map hmap (id := id) (p := p) (by
      rw [State.pallet, State.unmoved_trk]
      exact hp)
    exact ⟨p', (State.closeEvent_pallet _ id).trans hp', hcounters⟩
  · rw [State.closeEvent_nests, nests_of_map hmap, State.nests, hseg]
  · rw [State.closeEvent_trk, lists_of_map hmap, State.unmoved_trk]
    rfl

/-- AFTER and LIST with the end of their event. -/
theorem State.confirmedBy_closed {w : State} {joins opens : Bool} {nests : List (Option Nat)} {moved : List Nat}
    {l : List (Nat × Nat)} (hw : w = s.confirmedBy k oi joins nests moved l opens) (hfixed : w.fixed = s.fixed) :
    w.closeEvent.certain k = true
      ∧ (s.seeksNothing k → (joins = true → oi.dest.isSome = true → oi.exit.isSome = true) →
        (w.closeEvent.segMap k).openIndex = none
        ∧ ∀ c, oi.dest = some c → ∀ r ∈ (w.closeEvent.conv c).reservations, r.holder ≠ .segment k)
      ∧ (∀ id p, s.pallet id = some p → ∃ p', w.closeEvent.pallet id = some p'
        ∧ p'.indexCount = (if id ∈ moved then min 65535 (p.indexCount + moved.count id) else p.indexCount)
        ∧ p'.laps = if k = 1 ∧ oi.entry = some id then min 255 (p.laps + 1) else p.laps)
      ∧ w.closeEvent.nests k = nests
      ∧ (∀ j, j ≠ k → w.closeEvent.nests j = s.nests j)
      ∧ w.closeEvent.trk.lists = ((if joins then s.exitJoins k oi else s).entryLeaves k oi).trk.lists := by
  obtain ⟨hnests, hcertain, hothers, hlists⟩ := s.confirmedBy_nests k oi joins nests moved l opens hc
  rw [← hw] at hnests hcertain hothers hlists
  refine ⟨?_, fun hseeks hjoins => ?_, fun id p hp => ?_, ?_, fun j hj => ?_, ?_⟩
  · exact (State.closeEvent_certain _ k).trans hcertain
  · exact State.Quiet.closed (hw ▸ State.confirmedBy_quiet joins nests moved l opens hseeks hf hc hjoins) hl
      (lineState_of_fixed hfixed)
  · obtain ⟨p', hp', hcounters⟩ := s.confirmedBy_pallet k oi joins nests moved l opens hp
    exact ⟨p', (State.closeEvent_pallet _ id).trans (hw ▸ hp'), hcounters⟩
  · exact (State.closeEvent_nests _ k).trans hnests
  · exact (State.closeEvent_nests _ j).trans (hothers j hj)
  · rw [State.closeEvent_trk, hlists]

end

/-- Settles O41. -/
theorem confirmSegmentSettlesTheOpenIndex : Obligations.ConfirmSegmentSettlesTheOpenIndex := by
  intro t tag b flag occupants s hr hl h1 h2 hlen x k named settled counted
  have he : x.editOpen = true := State.editOpen_of (s := x) hl
  have hk : segmentNumberBad x k = false := segmentNumberBad_false (s := x) h1 h2
  have hbefore := exec_confirmSegmentBefore hr (t := t) (tag := tag) b
  have hafter := exec_confirmSegmentAfter hr (t := t) (tag := tag) b
  have hlist := exec_confirmSegmentList hr (t := t) (tag := tag) b flag occupants (hlen.trans (by decide))
  refine ⟨fun hsettled => ?_, fun hf hc oi hoi => ⟨?_, ?_, ?_, ?_⟩⟩
  · obtain ⟨hb, ha, hli⟩ := State.requestConfirm_certain (s := x) he hk (State.unsettled_none (s := x) hsettled)
      flag.toNat occupants
    refine ⟨?_, ?_, ?_⟩
    · rw [hbefore, hb]
    · rw [hafter, ha]
    · rw [hlist, hli]
  · have hu := State.unsettled_some (s := x) hf hc hoi
    obtain ⟨hcertain, hquiet, hcounters, hnests, hlists⟩ := State.settleBefore_closed (s := x) (oi := oi) hl hf hc
    rw [hbefore, State.requestConfirmBefore_settles (s := x) he hk hu]
    refine ⟨(x.settleBefore k oi).closeEvent, rfl, ⟨hcertain, fun hs => hquiet (hs.seeks_nothing hf)⟩,
      fun id p hp => ?_, hnests, hcertain, hlists, flowsTo_closeEvent ?_⟩
    · obtain ⟨p', hp', hcount, hlaps⟩ := hcounters id p hp
      exact ⟨p', hp', by rw [hcount, if_neg List.not_mem_nil], by rw [hlaps, if_neg fun h => nomatch h.2]⟩
    · rw [State.settleBefore_eq, State.destinationSettled_still, State.unmoved_still]
      simp
  · have hu := State.unsettled_some (s := x) hf hc hoi
    have hfixed := State.confirmAfter_fixed x k oi
    obtain ⟨hcertain, hquiet, hcounters, hnests, hothers, hlists⟩ :=
      State.confirmedBy_closed (s := x) hl hf hc (x.confirmAfter_eq k oi) hfixed
    rw [hafter, State.requestConfirmAfter_settles (s := x) he hk hu]
    refine ⟨(x.confirmAfter k oi).closeEvent, rfl, ⟨hcertain, fun hs => hquiet (hs.seeks_nothing hf) fun _ hdest =>
      (hs.dest_isSome hf hoi).symm.trans hdest⟩, ?_, hnests, hcertain, hothers, hlists, worksTo_closeEvent hfixed⟩
    rw [standing_pallets, optionList_eq_toList] at hcounters
    exact hcounters
  · intro hflag hkept entry
    have hu := State.unsettled_some (s := x) hf hc hoi
    have hfixed := State.confirmList_fixed x k oi (flag.toNat = 1) named
    have hentry : (oi.named named).entry = entry := oi.named_entry named
    have hone : flag.toNat = 1 ↔ flag = 1 := ⟨fun h => BitVec.eq_of_toNat_eq h, fun h => h ▸ rfl⟩
    obtain ⟨hlength, hexit⟩ := State.length_of_listRefused hkept
    obtain ⟨hcertain, hquiet, hcounters, hnests, hothers, hlists⟩ :=
      State.confirmedBy_closed (s := x) hl hf hc (x.confirmList_eq k oi (flag.toNat = 1) named) hfixed
    rw [hlist, State.requestConfirmList_settles (s := x) he hk hu hflag hkept]
    refine ⟨(x.confirmList k oi (flag.toNat = 1) named).closeEvent, rfl, ⟨hcertain, fun hs =>
      hquiet (hs.seeks_nothing hf) fun hjoins _ => hexit hjoins⟩, ?_, hnests, hcertain, hothers, ?_,
      worksTo_closeEvent hfixed⟩
    · generalize x.confirmList k oi (flag.toNat = 1) named = w at hcounters ⊢
      simp only [changedNests_pallets (before := x.nests k) hlength, optionList_eq_toList, decide_eq_true_eq, hone,
        hentry] at hcounters
      exact hcounters
    · have hnamed : oi.named named = { oi with entry := entry } := by rw [← hentry]; rfl
      generalize x.confirmList k oi (flag.toNat = 1) named = w at hlists ⊢
      simp only [decide_eq_true_eq, hone, hnamed] at hlists
      exact hlists
  · intro hrefused hflag
    have hu := State.unsettled_some (s := x) hf hc hoi
    rw [hlist, State.requestConfirmList_refused (s := x) he hk hu hflag hrefused]

end Sys2Proof.Machine
end

section
/-! PROOF. The Route Unit (O59): arrival notices, jobs, the divert choice, a good reply before its report, and the
verification check. -/

namespace Sys2Proof.Machine

/-! ## Verdicts and orders (R131, R133) -/

theorem Workpiece.rejected_iff (w : Workpiece) : w.rejected = true ↔ w.defects ≠ [] ∨ w.moreDefects = true := by
  simp [Workpiece.rejected]

theorem Workpiece.rejected_eq_false_iff (w : Workpiece) :
    w.rejected = false ↔ w.defects = [] ∧ w.moreDefects = false := by
  simp [Workpiece.rejected]

theorem dispositionOf_reject_iff (w : Workpiece) :
    dispositionOf w = .reject ↔ w.defects ≠ [] ∨ w.moreDefects = true := by
  rw [← w.rejected_iff]
  unfold dispositionOf
  (repeat' split) <;> simp_all

theorem dispositionOf_rework_iff (w : Workpiece) :
    dispositionOf w = .rework ↔ (w.defects = [] ∧ w.moreDefects = false) ∧ w.opsMissed ≠ [] := by
  rw [← w.rejected_eq_false_iff]
  unfold dispositionOf
  (repeat' split) <;> simp_all

theorem dispositionOf_good_iff (w : Workpiece) :
    dispositionOf w = .good ↔ (w.defects = [] ∧ w.moreDefects = false) ∧ w.opsMissed = [] := by
  rw [← w.rejected_eq_false_iff]
  unfold dispositionOf
  (repeat' split) <;> simp_all

section
variable {l : LineRecord} {n : Nat} {r : StationRecord} {st : StationState} {id : Nat} {p : Pallet}

theorem machineOrder_empty (h : p.workpiece = none) : machineOrder l n r st id p = .pass := by
  simp [machineOrder, h]

theorem machineOrder_pass {w : Workpiece} (h : p.workpiece = some w)
    (hpass : r.mask.getLsbD p.variant.code = false ∨ n ∈ w.opsDone
      ∨ ((w.defects ≠ [] ∨ w.moreDefects = true) ∧ l.skipRejects = true)) :
    machineOrder l n r st id p = .pass := by
  rw [← w.rejected_iff] at hpass
  simp only [machineOrder, h, maskHas]
  rcases hpass with hmask | hdone | ⟨hrejected, hskips⟩
  · simp [hmask]
  · simp [hdone]
  · simp [hrejected, hskips]

theorem machineOrder_works {w : Workpiece} (h : p.workpiece = some w)
    (hmask : r.mask.getLsbD p.variant.code = true) (hdone : n ∉ w.opsDone)
    (hkept : (w.defects = [] ∧ w.moreDefects = false) ∨ l.skipRejects = false) :
    machineOrder l n r st id p = if st = .skipped then .miss id
      else .work { kind := .machine, pallet := id, variant := p.variant, disposition := none } := by
  rw [← w.rejected_eq_false_iff] at hkept
  have hrejects : (w.rejected && l.skipRejects) = false := by
    rcases hkept with h | h <;> simp [h]
  simp [machineOrder, h, maskHas, hmask, hdone, hrejects]

end

/-! ## The divert choice (R137, R138) -/

section
variable {s : State} {id : Nat} {p : Pallet} (hp : s.pallet id = some p)
include hp

theorem State.divertDest_eq_vs_iff : s.divertDest id = .vs ↔ s.cfg.line.vLaps ≤ p.laps ∧ p.workpiece = none
    ∧ (s.conv .vs).state = .flowing
    ∧ (s.list .vs).length + (s.conv .vs).reservations.length < s.cfg.line.capVs := by
  have hopen : s.roomOpen .vs = true ↔ (s.conv .vs).state = .flowing
      ∧ (s.list .vs).length + (s.conv .vs).reservations.length < s.cfg.line.capVs := by
    rw [State.roomOpen, Bool.and_eq_true, decide_eq_true_iff, decide_eq_true_iff]
    rfl
  rw [← hopen]
  simp only [State.divertDest, hp]
  split
  · next h => simp [Nat.not_le.mpr h]
  · next h =>
    cases p.workpiece with
    | some w => simp
    | none => simp [Nat.not_lt.mp h]

theorem State.divertDest_vs_or_rc : s.divertDest id = .vs ∨ s.divertDest id = .rc := by
  simp only [State.divertDest, hp]
  (repeat' split) <;> simp

/-- The state in which the last segment asks for room, the postponement noted (R138). -/
theorem State.divertChoice_eq : s.divertChoice id
    = if s.cfg.line.vLaps ≤ p.laps ∧ s.divertDest id = .rc then
        if s.rtu.note = some id then s.modPallet id fun p => { p with overdue := true }
        else { (s.modPallet id fun p => { p with overdue := true }).post .verifyPostponed
            { kind := .segment, number := s.nseg } (some id) (.laps p.laps) with
          rtu := { s.rtu with note := some id } }
      else s := by
  have hpostponed : s.divertPostponed id = true ↔ s.cfg.line.vLaps ≤ p.laps ∧ s.divertDest id = .rc := by
    simp [State.divertPostponed, hp]
  have hlaps : ((s.pallet id).map (·.laps)).getD 0 = p.laps := by rw [hp]; rfl
  simp only [State.divertChoice, hlaps, hpostponed]
  rfl

end

theorem State.seekRoom_last (s : State) (id : Nat) : s.seekRoom s.nseg id
    = ((s.divertChoice id).modSeg s.nseg fun g => { g with room := .requested (s.divertDest id) }).requestRoom
        (s.divertDest id) (.segment s.nseg) := by
  simp only [State.seekRoom, Nat.lt_irrefl, if_false]

/-! ## Arrival notices at an index completion (R28, R39) -/

theorem tableGet_of_key {κ α : Type} [DecidableEq κ] {k : κ} {l : List (κ × α)} (h : k ∈ l.map (·.1)) :
    ∃ v, tableGet k l = some v := by
  induction l with
  | nil => cases h
  | cons p rest ih =>
    obtain ⟨j, v⟩ := p
    by_cases hj : j = k
    · exact ⟨v, by simp [tableGet, hj]⟩
    · obtain ⟨w, hw⟩ := ih ((List.mem_cons.mp h).resolve_left (Ne.symm hj))
      exact ⟨w, by simp [tableGet, hj, hw]⟩

section
variable (s : State) (k : Nat) (oi : OpenIndex)

/-- The shift with the conveyors' part apart (R27). -/
theorem State.shift_eq : s.shift k oi
    = ((s.indexEnded k oi true (shiftNests oi.entry (s.nests k))
        ((standing (numberFrom 1 (shiftNests oi.entry (s.nests k)))).map (·.2)
          ++ optionList oi.exit)).destinationSettled k oi true).upstreamSettled k oi := rfl

theorem State.shift_map : mapView.view (s.shift k oi)
    = mapView.view (s.indexEnded k oi true (shiftNests oi.entry (s.nests k))
        ((standing (numberFrom 1 (shiftNests oi.entry (s.nests k)))).map (·.2) ++ optionList oi.exit)) := by
  rw [State.shift_eq]
  simp

theorem State.shift_nests (hk : k ∈ s.trk.segs.map (·.1)) :
    (s.shift k oi).nests k = oi.entry :: (s.nests k).dropLast := by
  obtain ⟨m, hm⟩ := tableGet_of_key hk
  rw [nests_of_map (s.shift_map k oi), State.nests, State.indexEnded_segMap_of_mem k oi _ _ true hm]
  rfl

theorem State.exitJoins_readerImage : (s.exitJoins k oi).trk.readerImage = s.trk.readerImage := by
  unfold State.exitJoins
  split <;> rfl

theorem State.shift_readerImage : (s.shift k oi).trk.readerImage = s.trk.readerImage := by
  have hleaves (x : State) : (x.entryLeaves k oi).trk.readerImage = x.trk.readerImage := by
    unfold State.entryLeaves
    split <;> rfl
  have hlap (x : State) : (x.entryLap k oi).trk.readerImage = x.trk.readerImage := by
    unfold State.entryLap
    (repeat' split) <;> rfl
  have hend (x : State) (nests : List (Option Nat)) (moved : List Nat) :
      (x.endIndex k nests moved).trk.readerImage = x.trk.readerImage := by
    have hcount := forEach_view (fun x : State => x.trk.readerImage) (f := fun id x => x.countIndex id)
      (fun _ _ => rfl) moved (x.newNests k nests)
    simp only [State.endIndex]
    split <;> exact hcount
  rw [readerImage_of_map (s.shift_map k oi), State.indexEnded, hend, hlap, hleaves]
  exact s.exitJoins_readerImage k oi

theorem State.shift_clock : (s.shift k oi).clock = s.clock :=
  (congrArg (fun x : State => x.clock) (s.shift_fixed k oi) :)

end

theorem State.trkComplete_later {s : State} {k : Nat} {oi : OpenIndex} (ho : (s.segMap k).openIndex = some oi)
    (hk : k ∈ s.trk.segs.map (·.1)) (h1 : k ≠ 1) :
    s.trkComplete k
      = (standing (numberFrom 1 (oi.entry :: (s.nests k).dropLast))).foldl (fun x p => x.arrival k p.1 p.2)
          (s.shift k oi) := by
  simp only [State.trkComplete, ho, s.shift_nests k oi hk, State.indexNotices, decide_eq_true_eq, if_neg h1,
    State.giveNotices, forEach_eq_foldl]

/-- The tag check that an index of S1 opens (R39). -/
def State.tagOpening (s : State) (oi : OpenIndex) : TagOpening :=
  { occupant := oi.entry, image := s.trk.readerImage, openedAt := s.clock, noticeHeld := oi.entry.isSome }

theorem State.trkComplete_first {s : State} {oi : OpenIndex} (ho : (s.segMap 1).openIndex = some oi)
    (hk : 1 ∈ s.trk.segs.map (·.1)) :
    s.trkComplete 1
      = ((standing (numberFrom 1 (oi.entry :: (s.nests 1).dropLast))).filter fun p => p.1 ≠ 1).foldl
          (fun x p => x.arrival 1 p.1 p.2)
          (((s.shift 1 oi).setTag (.opened (s.tagOpening oi))).setTrackHold true) := by
  have hocc : (s.shift 1 oi).occupant 1 1 = oi.entry := by
    rw [State.occupant, s.shift_nests 1 oi hk]
    rfl
  simp only [State.trkComplete, ho, s.shift_nests 1 oi hk, State.indexNotices, decide_true, if_true,
    State.giveNotices, forEach_eq_foldl, State.openTag, hocc, s.shift_readerImage 1 oi,
    s.shift_clock 1 oi, State.tagOpening]

/-! ## Jobs (R49, R130 to R135) -/

section
variable {s : State} {k j id n : Nat} {r : StationRecord} {p : Pallet} (hp : s.pallet id = some p)

theorem State.arrival_nowhere (hat : stationAt k j s.cfg.stations = none) : s.arrival k j id = s := by
  simp [State.arrival, hat]

include hp
variable (hat : stationAt k j s.cfg.stations = some (n, r))
include hat

theorem State.arrival_machine (hr : r.kind = .machine) :
    s.arrival k j id = s.sqsJob n (machineOrder s.cfg.line n r (s.station n).state id p) := by
  simp [State.arrival, hat, hp, hr]

theorem State.arrival_unload (hr : r.kind = .unload) : s.arrival k j id = match p.workpiece with
    | none => s
    | some w => s.sqsJob n (.work { kind := .unload, pallet := id, variant := p.variant,
                                    disposition := some (dispositionOf w) }) := by
  simp only [State.arrival, hat, hp, hr, unloadOrder]
  cases p.workpiece <;> rfl

theorem State.arrival_load (hr : r.kind = .load) : s.arrival k j id
    = if p.workpiece.isSome then s.modPallet id fun p =>
        { p with workpiece := p.workpiece.map fun w => { w with holdOver := true } }
      else if p.service = .quarantined then s
      else if s.cfg.line.vLaps + s.cfg.line.vGrace ≤ p.laps then
        s.post .verifyOverdue { kind := .station, number := n } (some id) (.laps p.laps)
      else s.sqsJob n (.work { kind := .load, pallet := id, variant := p.variant, disposition := none }) := by
  simp only [State.arrival, hat, hp, hr]
  rfl

end

theorem State.sqsJob_released {s : State} {n : Nat} {r : StationRecord} (hr : s.stationCfg n = some r)
    (hst : (s.station n).state = .released) (j : Job) : s.sqsJob n (.work j)
      = ((s.modStation n fun g =>
        { g with state := .clamping, job := some j, outcomeGiven := false, startTime := none,
                 timer := some { purpose := .clamp, timer := { start := s.clock, limit := r.tClampMax } } }).postCmd
        r.node .clamp []).sqsAfter r.segment := by
  simp only [State.sqsJob, hst, hr]
  rfl

theorem State.sqsJob_missed {s : State} {n : Nat}
    (hst : (s.station n).state = .lockout ∨ (s.station n).state = .fault ∨ (s.station n).state = .skipped)
    (j : Job) : s.sqsJob n (.work j) = if j.kind = .machine then s.trkOpMissed n j.pallet else s := by
  rcases hst with h | h | h <;> simp only [State.sqsJob, h]

/-! ## A good reply before its report (R163, R164, R167) -/

/-- A change of the node table and the notice of the owner go either way round. -/
theorem State.noticed_modNode (x : State) (a : Nat) (n : Node) (f : Node → Node) :
    (x.modNode a f).noticed a n = (x.noticed a n).modNode a f := by
  unfold State.noticed
  cases n.state <;> cases n.role <;> rfl

theorem State.nodeAnswers_eq (s : State) (a : Nat) (n : Node) :
    s.nodeAnswers a n = (s.noticed a n).modNode a fun x => { x with state := .online, misses := 0 } := by
  rw [← State.noticed_modNode]
  rfl

theorem State.modNode_modNode (s : State) (a : Nat) (f g : Node → Node) :
    (s.modNode a f).modNode a g = s.modNode a fun x => g (f x) := by
  simp only [State.modNode, tableModify_modify]

/-- What the echo of a good reply leaves of the node's entry, and what the owner hears of it. -/
theorem State.nodeAnswers_nodeEchoes (s : State) (a : Nat) (n : Node) (e : Echo) :
    (s.nodeAnswers a n).nodeEchoes a n e
      = ((s.modNode a fun m => { m with state := .online, misses := 0, echo := some e, resync := false,
                                        pending := if (n.decided e).isSome then none else m.pending }).noticed a
          n).concluded n e := by
  rw [State.nodeAnswers_eq, State.noticed_modNode]
  unfold State.nodeEchoes State.concluded
  cases n.decided e with
  | none => exact State.modNode_modNode ..
  | some code =>
    simp only [State.modNode_modNode]
    rfl

/-- The report of a good reply comes to the owner in the state before the report (R164). -/
theorem State.replyHeard_hears {s : State} {chars : List BusChar} {a : Nat} {n : Node} {e : Echo} {rep : Report}
    (h : s.hears chars a n e rep) (t : LineTime) :
    (s.at t).replyHeard chars = (s.beforeReport t a n e rep).ownerReport n.role rep := by
  obtain ⟨⟨w, hw, rfl⟩, hnode, hjudged⟩ := h
  have hnode' : (s.at t).node w.address = some n := hnode
  simp only [State.replyHeard, State.at_sbm, hw, hnode', hjudged, State.goodReply, State.nodeAnswers_nodeEchoes]
  rfl

/-! ## The verification check (R139 to R143) -/

section
variable {s : State}

theorem State.vsHeadNotice_none (h : s.arrivedHead .vs = none) :
    s.vsHeadNotice = s.modRtu fun r => { r with check := .idle, checkPallet := none } := by
  simp [State.vsHeadNotice, h]

theorem State.vsHeadNotice_same {id : Nat} (h : s.arrivedHead .vs = some id) (hc : s.rtu.checkPallet = some id) :
    s.vsHeadNotice = s := by
  simp [State.vsHeadNotice, h, hc]

theorem State.vsHeadNotice_new {id : Nat} {p : Pallet} (h : s.arrivedHead .vs = some id)
    (hc : s.rtu.checkPallet ≠ some id) (hp : s.pallet id = some p) :
    s.vsHeadNotice = if p.service = .quarantined then
        (s.modRtu fun r => { r with check := .blocked, checkPallet := some id }).post .palletQuarantined
          { kind := .verify, number := 0 } (some id) .none
      else (s.modRtu fun r => { r with check := .waiting, checkPallet := some id }).tryCheck := by
  simp only [State.vsHeadNotice, h, if_neg hc, hp, Option.any_some, decide_eq_true_eq]
  rfl

theorem State.tryCheck_unless_waiting (h : s.rtu.check ≠ .waiting) : s.tryCheck = s := by
  simp only [State.tryCheck]
  split
  · next hw _ => exact absurd hw h
  · rfl

theorem State.tryCheck_waiting {id : Nat} {p : Pallet} (h : s.rtu.check = .waiting)
    (hc : s.rtu.checkPallet = some id) (hp : s.pallet id = some p) :
    s.tryCheck = if (s.lsv.lineState = .run ∨ s.lsv.lineState = .stopping) ∧ s.rtu.stale = false
        ∧ s.rtu.node = .online ∧ s.rtu.report.map (·.1) ≠ some .checking then
        (s.modRtu fun r => { r with check := .posted }).postCmd s.cfg.line.nodeVerify .check
          [byteOf id, byteOf p.variant.code]
      else s := by
  simp only [State.tryCheck, h, hc, hp, State.moving, Bool.and_eq_true, Bool.or_eq_true, decide_eq_true_eq,
    Bool.not_eq_true', and_assoc]
  rfl

theorem State.checkDelivered_posted (hs : s.rtu.stale = false) (hc : s.rtu.check = .posted) :
    s.checkDelivered = s.modRtu fun r => { r with check := .running, image := r.report.map (·.2) } := by
  simp [State.checkDelivered, hs, hc]

theorem State.checkDelivered_stale (hs : s.rtu.stale = true) :
    s.checkDelivered = s.modRtu fun r => { r with stale := false } := by
  simp [State.checkDelivered, hs]

theorem State.checkRefused_posted {id : Nat} (hs : s.rtu.stale = false) (hc : s.rtu.check = .posted)
    (hid : s.rtu.checkPallet = some id) :
    s.checkRefused = ((s.modPallet id fun p => { p with overdue := true }).post .verifyResult .verify (some id)
      (.verify .refused)).passCheck := by
  simp [State.checkRefused, hs, hc, hid]

theorem State.checkRefused_stale (hs : s.rtu.stale = true) :
    s.checkRefused = (s.modRtu fun r => { r with stale := false }).tryCheck := by
  simp [State.checkRefused, hs]

theorem State.verifyReport_unless_running (h : s.rtu.check ≠ .running) (st : VerifyState) (seq : Nat) :
    s.verifyReport st seq
      = (s.modRtu fun r => { r with report := some (st, seq), image := some seq }).tryCheck := by
  simp only [State.verifyReport]
  rfl

theorem State.verifyReport_noResult (h : s.rtu.check = .running) {st : VerifyState} {seq : Nat}
    (hn : s.rtu.image = some seq ∨ st = .idle ∨ st = .checking) :
    s.verifyReport st seq = s.modRtu fun r => { r with report := some (st, seq) } := by
  have hresult : s.rtu.isResult st seq = false := by
    rcases hn with h | h | h <;> simp [Rtu.isResult, h]
  simp [State.verifyReport, h, hresult]

theorem State.verifyReport_result (h : s.rtu.check = .running) {st : VerifyState} {seq id : Nat}
    (hn : s.rtu.image ≠ some seq) (hid : s.rtu.checkPallet = some id) (hst : st = .pass ∨ st = .fail) :
    s.verifyReport st seq
      = if st = .pass then (s.modRtu fun r => { r with report := some (st, seq), image := some seq }).verifyPass id
        else (s.modRtu fun r => { r with report := some (st, seq), image := some seq }).verifyFail id := by
  have hresult : s.rtu.isResult st seq = true := by
    rcases hst with h | h <;> simp [Rtu.isResult, h, hn]
  simp only [State.verifyReport, h, hresult, hid, if_true]
  rfl

end

/-- Settles O59. -/
theorem routeDecisionsFollowTheirTables : Obligations.RouteDecisionsFollowTheirTables := by
  refine ⟨?_, ?_, ?_, ?_, ?_, ?_, ?_, ?_, ?_⟩
  · intro l n r st id p
    refine ⟨machineOrder_empty, fun w hw => ⟨machineOrder_pass hw, fun hmask hdone hkept => ?_⟩⟩
    refine ⟨fun hst => ?_, fun hst => ?_⟩
    · rw [machineOrder_works hw hmask hdone hkept, if_pos hst]
    · rw [machineOrder_works hw hmask hdone hkept, if_neg hst]
  · exact fun w => ⟨dispositionOf_reject_iff w, dispositionOf_rework_iff w, dispositionOf_good_iff w⟩
  · intro s id p hp
    refine ⟨State.divertDest_eq_vs_iff hp, State.divertDest_vs_or_rc hp, ?_⟩
    intro postponed chosen
    rw [State.seekRoom_last, State.divertChoice_eq hp]
  · intro s k oi ho shifted nests opening
    refine ⟨fun h1 hk => State.trkComplete_later ho hk h1, fun h1 hk => ?_⟩
    subst h1
    exact State.trkComplete_first ho hk
  · intro s k j id n r p hp
    refine ⟨State.arrival_nowhere, fun hat => ?_⟩
    exact ⟨State.arrival_machine hp hat, State.arrival_unload hp hat, State.arrival_load hp hat⟩
  · intro s n id r j hr
    exact ⟨rfl, rfl, fun hst => State.sqsJob_released hr hst j, fun hst => State.sqsJob_missed hst j⟩
  · intro s n id p d hp workpiece
    refine ⟨fun hw => ?_, fun w hw => ?_⟩
    · simp only [State.loadDone, hp, hw]
      rfl
    · simp only [State.unloadDone, hp, hw]
      rfl
  · intro t chars a nd e st seq s hhears hrole
    have hheard := State.replyHeard_hears hhears t
    rw [hrole] at hheard
    exact congrArg (fun x : State => Host.Outcome.next x.closeEvent) hheard
  · intro s code st seq rtu result passes
    refine ⟨State.vsHeadNotice_none, fun id hhead => ⟨State.vsHeadNotice_same hhead, fun hc p =>
      State.vsHeadNotice_new hhead hc⟩, State.tryCheck_unless_waiting, fun id p => State.tryCheck_waiting,
      fun hs hc id hid => ?_, fun hs => ?_, fun h => State.verifyReport_unless_running h st seq,
      fun h => ⟨State.verifyReport_noResult h, ?_⟩⟩
    · exact ⟨State.checkDelivered_posted hs hc, State.checkRefused_posted hs hc hid⟩
    · exact ⟨State.checkDelivered_stale hs, State.checkRefused_stale hs⟩
    intro hn id hid y
    refine ⟨fun hst => ?_, fun hst => ?_⟩
    · rw [State.verifyReport_result h hn hid (.inl hst), if_pos hst]
      rfl
    · rw [State.verifyReport_result h hn hid (.inr hst), if_neg (by rw [hst]; decide)]
      rfl

end Sys2Proof.Machine
end

section
/-! PROOF. A timer that is not due (O50): each block's expiry leaves the state as it is (log entry 2). -/

namespace Sys2Proof.Machine

/-! ## The expiries of timers that are not due -/

section
variable {s : State}

theorem State.clampExpires_early {n : Nat} (h : s.stationTimerDue n .clamp = false) : s.clampExpires n = s := by
  simp [State.clampExpires, h]

theorem State.settleTimerExpires_early {n : Nat} (h : s.stationTimerDue n .settle = false) :
    s.settleTimerExpires n = s := by
  simp [State.settleTimerExpires, h]

theorem State.cycleExpires_early {n : Nat} (h : s.stationTimerDue n .cycle = false) : s.cycleExpires n = s := by
  simp [State.cycleExpires, h]

theorem State.unclampExpires_early {n : Nat} (h : s.stationTimerDue n .unclamp = false) :
    s.unclampExpires n = s := by
  simp [State.unclampExpires, h]

theorem State.stationClearExpires_early {n : Nat} (h : s.stationTimerDue n .clear = false) :
    s.stationClearExpires n = s := by
  simp [State.stationClearExpires, h]

theorem State.commonExpires_early {k : Nat} (h : ∀ m, s.stationTimerDue m .common = false) :
    s.commonExpires k = s := by
  simp [State.commonExpires, h]

theorem State.phaseExpires_early {k : Nat} (h : ∀ tm, (s.seg k).phase = .running tm → s.due tm = false) :
    s.phaseExpires k = s := by
  unfold State.phaseExpires
  split
  · next tm htm => simp [h tm htm]
  · rfl

theorem State.feedWaitExpires_early {k : Nat} (h : ∀ tm, (s.seg k).feedWait = some tm → s.due tm = false) :
    s.feedWaitExpires k = s := by
  unfold State.feedWaitExpires
  split
  · next tm htm => simp [h tm htm]
  · rfl

theorem State.segClearExpires_early {k : Nat} (h : ∀ tm, (s.seg k).clear = some tm → s.due tm = false) :
    s.segClearExpires k = s := by
  unfold State.segClearExpires
  split
  · next tm htm => simp [h tm htm]
  · rfl

theorem State.evaluationExpires_early (h : ∀ tm, s.ada.evalTimer = some tm → s.due tm = false) :
    s.evaluationExpires = s := by
  unfold State.evaluationExpires
  split
  · next tm htm => simp [h tm htm]
  · rfl

theorem State.urgencyExpires_early {k : Nat}
    (h : ∀ q ∈ s.ada.queue, q.segment = k → ∀ tm, q.urgency = some tm → s.due tm = false) :
    s.urgencyExpires k = s := by
  have hnone : s.ada.queue.find? (s.urgentDue k) = none := by
    refine List.find?_eq_none.mpr fun q hq hdue => ?_
    simp only [State.urgentDue, Bool.and_eq_true, decide_eq_true_eq] at hdue
    obtain ⟨hk, hdue⟩ := hdue
    split at hdue
    · next tm htm => simp [h q hq hk tm htm] at hdue
    · contradiction
  simp [State.urgencyExpires, hnone]

theorem State.staggerExpires_early
    (h : ∀ x, s.ada.lastAny = some x → s.due { start := x, limit := s.cfg.line.tStagger } = false) :
    s.staggerExpires = s := by
  unfold State.staggerExpires
  split
  · next x hx => simp [h x hx]
  · rfl

theorem State.periodExpires_early {k : Nat}
    (h : ∀ x, tableGet k s.ada.lastSeg = some x → s.due { start := x, limit := (s.segCfg k).tIndexMin } = false) :
    s.periodExpires k = s := by
  unfold State.periodExpires
  split
  · next x hx => simp [h x hx]
  · rfl

theorem State.travelExpires_early {c : ConvId} (h : ∀ tm, (s.conv c).travel = some tm → s.due tm = false) :
    s.travelExpires c = s := by
  unfold State.travelExpires
  split
  · next tm htm => simp [h tm htm]
  · rfl

theorem State.travelExpiresAt_early {number : Nat}
    (h : ∀ c tm, ConvId.ofNumber number = some c → (s.conv c).travel = some tm → s.due tm = false) :
    s.travelExpiresAt number = s := by
  unfold State.travelExpiresAt
  split
  · next c hc => exact State.travelExpires_early fun tm => h c tm hc
  · rfl

theorem State.gapExpires_early
    (h : ∀ bytes gap, s.clp.rx = .assembling bytes gap → s.due gap = false) : s.gapExpires = s := by
  unfold State.gapExpires
  split
  · rfl
  · next bytes gap hrx => simp [h bytes gap hrx]

theorem State.tagReadExpires_early
    (h : ∀ o, s.trk.tag = .opened o → s.due { start := o.openedAt, limit := s.cfg.line.tRead } = false) :
    s.tagReadExpires = s := by
  unfold State.tagReadExpires
  split
  · next o ho => simp [h o ho]
  · rfl

end

/-- Settles O50: each expiry keeps the state at the new line time, with the end of its event where it has one. -/
theorem timersThatAreNotDueDoNothing : Obligations.TimersThatAreNotDueDoNothing := by
  intro t n s
  have early {tm : Timer} (h : (t - tm.start).toNat < tm.limit) : (s.at t).due tm = false :=
    State.not_due_of_lt (s := s.at t) h
  have ended {u : State} (h : u = s.at t) :
      (.next u.closeEvent : Host.Outcome State Fault Refusal) = .next (s.at t).closeEvent := by rw [h]
  refine ⟨fun h => ended (State.clampExpires_early h), fun h => ended (State.settleTimerExpires_early h),
    fun h => ended (State.cycleExpires_early h), fun h => ended (State.unclampExpires_early h),
    fun h => ended (State.stationClearExpires_early h), fun h => ended (State.commonExpires_early h),
    fun h => ended (State.phaseExpires_early fun tm htm => early (h tm htm)),
    fun h => ended (State.feedWaitExpires_early fun tm htm => early (h tm htm)),
    fun h => ended (State.segClearExpires_early fun tm htm => early (h tm htm)),
    fun h => ended (State.evaluationExpires_early fun tm htm => early (h tm htm)),
    fun h => congrArg _ (State.urgencyExpires_early fun q hq hk tm htm => early (h q hq hk tm htm)),
    fun h => congrArg _ (State.staggerExpires_early fun x hx => early (tm := { start := x, limit := _ }) (h x hx)),
    fun h => congrArg _ (State.periodExpires_early fun x hx => early (tm := { start := x, limit := _ }) (h x hx)),
    fun h => ended (State.travelExpiresAt_early fun c tm hc htm => early (h c tm hc htm)),
    fun h => congrArg _ (State.gapExpires_early fun bytes gap hrx => early (h bytes gap hrx)),
    fun h => ended (State.tagReadExpires_early fun o ho => early (tm := { start := o.openedAt, limit := _ }) (h o ho))⟩

end Sys2Proof.Machine
end

section
/-! PROOF. The Station Sequencer's operations: what one reads of a station after a change, how a job's outcome is handed
on, and what a fault, RETRACT and UNCLAMP come to (R47, R49, R51, R61, R168). -/

namespace Sys2Proof.Machine

/-! ## Reading a station -/

theorem stations_of_still {s u : State} (h : u.still = s.still) : u.sqs.stations = s.sqs.stations :=
  show u.still.sqs.stations = s.still.sqs.stations from congrArg (fun x : State => x.sqs.stations) h

theorem State.sqsAfter_stations (s : State) (k : Nat) : (s.sqsAfter k).sqs.stations = s.sqs.stations :=
  stations_of_still (s.sqsAfter_still k)

theorem State.closeEvent_stations (s : State) : s.closeEvent.sqs.stations = s.sqs.stations :=
  stations_of_still (u := s.closeEvent)
    (s := { s with lsv := { s.lsv with lineState := s.closeEvent.lsv.lineState } }) s.closeEvent_still

theorem State.station_of_stations {s u : State} (h : u.sqs.stations = s.sqs.stations) (n : Nat) :
    u.station n = s.station n := by
  rw [State.station, h, State.station]

theorem State.station_of_get {s : State} {n : Nat} {st : Station} (h : tableGet n s.sqs.stations = some st) :
    s.station n = st := by
  rw [State.station, h]; rfl

theorem State.station_modStation_same {s : State} {n : Nat} {st : Station}
    (h : tableGet n s.sqs.stations = some st) (f : Station → Station) : (s.modStation n f).station n = f st :=
  State.station_of_get (by rw [State.modStation_sqs, tableGet_modify_same, h]; rfl)

theorem State.station_modStation_other {s : State} {n m : Nat} (h : m ≠ n) (f : Station → Station) :
    (s.modStation n f).station m = s.station m := by
  rw [State.station, State.modStation_sqs, tableGet_modify_other h, State.station]

/-- What a change keeps of a station's record is read as before, whether the station is configured or not. -/
theorem State.station_modStation_view {β : Type} (g : Station → β) {s : State} {n : Nat} {f : Station → Station}
    (h : ∀ st, g (f st) = g st) : g ((s.modStation n f).station n) = g (s.station n) := by
  rw [State.station, State.modStation_sqs, tableGet_modify_same, State.station]
  cases tableGet n s.sqs.stations with
  | none => rfl
  | some st => exact h st

theorem State.modStation_modStation (s : State) (n : Nat) (f g : Station → Station) :
    (s.modStation n f).modStation n g = s.modStation n fun st => g (f st) := by
  simp only [State.modStation, tableModify_modify]

theorem State.stationNode_of {s : State} {n : Nat} {r : StationRecord} (h : s.stationCfg n = some r) :
    s.stationNode n = r.node := by
  simp only [State.stationNode, h]

theorem State.stationPending_of {s : State} {n : Nat} {r : StationRecord} (h : s.stationCfg n = some r) :
    s.stationPending n = s.pendingAt r.node := by
  simp only [State.stationPending, h]

theorem State.stationSegment_of {s : State} {n : Nat} {r : StationRecord} (h : s.stationCfg n = some r) :
    s.stationSegment n = r.segment := by
  simp only [State.stationSegment, h, Option.map_some, Option.getD_some]

theorem State.stationUnclamp_of {s : State} {n : Nat} {r : StationRecord} (h : s.stationCfg n = some r)
    (limit : Nat) : s.stationUnclamp n limit = (s.postCmd r.node .unclamp []).modStation n fun st =>
      { st with state := .unclamping, cause := none, clearPending := false,
                timer := some { purpose := .unclamp, timer := { start := s.clock, limit := limit } } } := by
  simp only [State.stationUnclamp, State.stationNode_of h]
  rfl

/-! ## The outcome of a job (R47, R49) -/

@[simp] theorem State.handOn_nothing (s : State) (n : Nat) : s.handOn n .nothing = s := by
  unfold State.handOn
  split <;> simp_all

theorem State.handOn_settled {s : State} {n : Nat}
    (h : (s.station n).job = none ∨ (s.station n).outcomeGiven = true) (e : JobEnd) : s.handOn n e = s := by
  unfold State.handOn
  split <;> simp_all

section
variable {s : State} {n : Nat} {j : Job} (hj : (s.station n).job = some j)
  (ho : (s.station n).outcomeGiven = false)
include hj ho

theorem State.handOn_missed :
    s.handOn n .missed = (if j.kind = .machine then s.trkOpMissed n j.pallet else s).outcomeGiven n := by
  simp only [State.handOn, hj, ho]

theorem State.handOn_defect (cause : DefectCause) (ms : Nat) :
    s.handOn n (.defect cause ms) = (s.trkDefect n j.pallet cause ms).outcomeGiven n := by
  simp only [State.handOn, hj, ho]

end

/-- An outcome that has been given is not given again. -/
theorem State.handOn_outcomeGiven (s : State) (n : Nat) (e : JobEnd) :
    (s.outcomeGiven n).handOn n e = s.outcomeGiven n := by
  refine State.handOn_settled ?_ e
  cases h : tableGet n s.sqs.stations with
  | none =>
    refine .inl ?_
    rw [State.station, State.outcomeGiven, State.modStation_sqs, tableGet_modify_same, h]
    rfl
  | some st => exact .inr (congrArg Station.outcomeGiven (State.station_modStation_same h _))

theorem State.handOn_sbm (s : State) (n : Nat) (e : JobEnd) : (s.handOn n e).sbm = s.sbm := by
  unfold State.handOn
  (repeat' split) <;> rfl

theorem State.handOn_cfg (s : State) (n : Nat) (e : JobEnd) : (s.handOn n e).cfg = s.cfg :=
  (congrArg (fun x : State => x.cfg) (s.handOn_fixed n e) :)

/-! ## Entry into FAULT (R47) -/

/-- The record of a station that enters FAULT. -/
def Station.inFault (st : Station) (cause : StationCause) : Station :=
  { st with state := .fault, timer := none, cause := some cause }

/-- The station in FAULT with its cause and STATION_FAULT posted, the job's outcome still to be handed on. -/
def State.faultEntered (s : State) (n : Nat) (cause : StationCause) : State :=
  (s.modStation n fun st => st.inFault cause).post .stationFault (.station n)
    ((s.station n).job.map (·.pallet)) (.stationCause cause)

theorem State.stationFault_enters {s : State} {n : Nat} (h : (s.station n).state ≠ .fault) (cause : StationCause)
    (e : JobEnd) : s.stationFault n cause e = (s.faultEntered n cause).handOn n e :=
  if_neg h

theorem State.stationFault_again {s : State} {n : Nat} (h : (s.station n).state = .fault) (cause : StationCause)
    (e : JobEnd) : s.stationFault n cause e = s :=
  if_pos h

theorem State.faultEntered_job (s : State) (n : Nat) (cause : StationCause) :
    ((s.faultEntered n cause).station n).job = (s.station n).job :=
  State.station_modStation_view (s := s) (·.job) fun _ => rfl

theorem State.faultEntered_outcomeGiven (s : State) (n : Nat) (cause : StationCause) :
    ((s.faultEntered n cause).station n).outcomeGiven = (s.station n).outcomeGiven :=
  State.station_modStation_view (s := s) (·.outcomeGiven) fun _ => rfl

/-! ## RETRACT (R61, R168) -/

theorem State.stationRetract_eq (s : State) (n : Nat) : s.stationRetract n =
    if s.pendingAt (s.stationNode n) = some .retract then s
    else if s.pendingAt (s.stationNode n) = some .start then
      (s.postCmd (s.stationNode n) .retract []).handOn n .missed
    else s.postCmd (s.stationNode n) .retract [] := by
  simp only [State.stationRetract, State.replaceCmd, State.supersededBy]
  split <;> simp

theorem State.stationRetract_posts {s : State} {n : Nat}
    (h : s.pendingAt (s.stationNode n) ≠ some .start) :
    s.stationRetract n = s.replaceCmd (s.stationNode n) .retract := by
  rw [State.stationRetract_eq, if_neg h, State.replaceCmd]

/-- With the outcome given, RETRACT only replaces what is pending. -/
theorem State.stationRetract_outcomeGiven (s : State) (n : Nat) :
    (s.outcomeGiven n).stationRetract n = (s.outcomeGiven n).replaceCmd (s.stationNode n) .retract := by
  have hgiven (a : Nat) : ((s.outcomeGiven n).postCmd a .retract []).handOn n .missed
      = (s.outcomeGiven n).postCmd a .retract [] :=
    State.handOn_outcomeGiven (s.postCmd a .retract []) n .missed
  rw [State.stationRetract_eq, hgiven, ite_self]
  rfl

theorem State.replaceCmd_outcomeGiven (s : State) (n a : Nat) (code : CmdCode) :
    (s.outcomeGiven n).replaceCmd a code = (s.replaceCmd a code).outcomeGiven n := by
  by_cases h : s.pendingAt a = some code
  · rw [State.replaceCmd, if_pos (show (s.outcomeGiven n).pendingAt a = some code from h), State.replaceCmd, if_pos h]
  · rw [State.replaceCmd, if_neg (show ¬ (s.outcomeGiven n).pendingAt a = some code from h), State.replaceCmd, if_neg h]
    rfl

end Sys2Proof.Machine
end

section
/-! PROOF. The requests of a station: BYPASS (O33), ABORT CYCLE (O34) and CLEAR FAULT (O35), by R62 and R64 to R66. -/

namespace Sys2Proof.Machine

theorem stationNumberBad_false {n : Nat} (h1 : 1 ≤ n) (h32 : n ≤ 32) : stationNumberBad n = false := by
  simp [stationNumberBad]
  omega

theorem State.lineIn_idle_run {s : State} (h : s.lsv.lineState = .idle ∨ s.lsv.lineState = .run) :
    s.lineIn [.idle, .run] = true := by
  rcases h with h | h <;> simp [State.lineIn, h]

theorem NodeStatus.absent_eq_false {x : NodeStatus} (hl : x ≠ .lost) (hu : x ≠ .unseen) : x.absent = false := by
  cases x <;> simp_all [NodeStatus.absent]

theorem Station.reportsUnclamped_of_lockout {st : Station} (h : st.reportsLockout = true) :
    st.reportsUnclamped = false := by
  unfold Station.reportsLockout at h
  split at h
  · next hrep => simp [Station.reportsUnclamped, hrep]
  · contradiction

/-- What a request answers is what its command queues. -/
theorem answer_eq {q q' : State × Answer} (h : q = q') (type tag : Byte) :
    (.next (q.1.replied type tag q.2) : Host.Outcome State Fault Refusal) = .next (q'.1.replied type tag q'.2) := by
  rw [h]

/-! ## BYPASS and CLEAR FAULT, in IDLE and RUN -/

section
variable {s : State} {n : Nat} {r : StationRecord} {st : Station} (hl : s.lineIn [.idle, .run] = true)
  (hn : stationNumberBad n = false) (hr : s.stationCfg n = some r) (hst : s.station n = st)
include hl hn hr

theorem State.requestBypassOn_notMachine (h : r.kind ≠ .machine) : s.requestBypassOn n = (s, .state) := by
  simp [State.requestBypassOn, hl, hn, hr, h]

include hst

theorem State.requestBypassOn_skipped (hm : r.kind = .machine) (h : st.state = .skipped) :
    s.requestBypassOn n = (s, .ok []) := by
  simp [State.requestBypassOn, hl, hn, hr, hst, hm, h, okEmpty]

theorem State.requestBypassOn_skips (hm : r.kind = .machine)
    (h : st.state = .released
      ∨ (st.state = .fault ∧ st.reportsUnclamped = true ∧ s.stationPending n = none)) :
    s.requestBypassOn n = (((s.stationIdle n .skipped).sqsAfter r.segment).closeEvent, .ok []) := by
  rcases h with h | ⟨h, hrep, hpend⟩
  · simp [State.requestBypassOn, hl, hn, hr, hst, hm, h, okEmpty]
  · simp [State.requestBypassOn, hl, hn, hr, hst, hm, h, hrep, hpend, okEmpty]

theorem State.requestBypassOff_released (h : st.state = .released) : s.requestBypassOff n = (s, .ok []) := by
  simp [State.requestBypassOff, hl, hn, hr, hst, h, okEmpty]

theorem State.requestBypassOff_restores (h : st.state = .skipped) (hmove : (s.seg r.segment).state.inMotion = false)
    (hnode : st.node.absent = false) (hpend : s.stationPending n = none) :
    s.requestBypassOff n =
      if st.reportsUnclamped then (((s.stationIdle n .released).sqsAfter r.segment).closeEvent, .ok [])
      else if st.reportsLockout then (((s.stationIdle n .lockout).sqsAfter r.segment).closeEvent, .ok [])
      else (s, .state) := by
  simp [State.requestBypassOff, hl, hn, hr, hst, h, State.segmentMoving, hmove, hnode, hpend, okEmpty]

theorem State.requestClearStation_sound (h : st.state ≠ .fault) : s.requestClearStation n = (s, .state) := by
  simp [State.requestClearStation, hl, hn, hr, hst, h]

theorem State.requestClearStation_by (h : st.state = .fault) (hclear : st.clearPending = false)
    (hnode : st.node.absent = false) (hpend : s.stationPending n = none) {rep : StationReport} {code : Nat}
    (hrep : st.report = some (rep, code)) :
    s.requestClearStation n = if s.clearBlocked r rep then (s, .interlock)
      else ((s.clearStationBy n r rep).closeEvent, .ok []) := by
  simp [State.requestClearStation, hl, hn, hr, hst, h, hclear, hnode, hpend, hrep, okEmpty]

end

theorem State.clearBlocked_cycling (s : State) (r : StationRecord) : s.clearBlocked r .cycling = true := rfl

theorem State.clearBlocked_atRest {s : State} {r : StationRecord} {rep : StationReport} (hrep : rep ≠ .cycling)
    (h : (s.seg r.segment).state.inMotion = false ∨ rep = .unclamped ∨ rep = .lockout) :
    s.clearBlocked r rep = false := by
  rcases h with h | h | h <;> simp [State.clearBlocked, State.segmentMoving, hrep, h]

/-- Settles O33: each branch of BYPASS at a ready link, and then only the flow of segments. -/
theorem bypassSkipsAndRestoresAStation : Obligations.BypassSkipsAndRestoresAStation := by
  intro t tag b s r st hready hline h1 h32 hr hget x toState
  have hl : x.lineIn [.idle, .run] = true := State.lineIn_idle_run (s := x) hline
  have hn := stationNumberBad_false h1 h32
  have hst : x.station b.toNat = st := State.station_of_get (s := x) hget
  have hrx : x.stationCfg b.toNat = some r := hr
  have flows (target : StationState) :
      (toState target).flowsTo ((toState target).sqsAfter r.segment).closeEvent :=
    flowsTo_closeEvent (State.sqsAfter_still _ _)
  refine ⟨fun hm => ⟨fun h => ⟨?_, flows _⟩, fun h => ?_⟩, fun hm => ?_, fun h hmove hlost hunseen hpend => ?_,
    fun h => ?_⟩
  · exact (exec_bypassOn hready t tag b).trans
      (answer_eq (State.requestBypassOn_skips (s := x) hl hn hrx hst hm h) 0x30 tag)
  · exact (exec_bypassOn hready t tag b).trans
      (answer_eq (State.requestBypassOn_skipped (s := x) hl hn hrx hst hm h) 0x30 tag)
  · exact (exec_bypassOn hready t tag b).trans
      (answer_eq (State.requestBypassOn_notMachine (s := x) hl hn hrx hm) 0x30 tag)
  · have hoff := State.requestBypassOff_restores (s := x) hl hn hrx hst h hmove
      (NodeStatus.absent_eq_false hlost hunseen) hpend
    refine ⟨fun hrep => ⟨?_, flows _⟩, fun hrep => ⟨?_, flows _⟩⟩
    · exact (exec_bypassOff hready t tag b).trans (answer_eq (hoff.trans (if_pos hrep)) 0x30 tag)
    · have hnot : ¬ st.reportsUnclamped = true := by simp [Station.reportsUnclamped_of_lockout hrep]
      exact (exec_bypassOff hready t tag b).trans
        (answer_eq (hoff.trans ((if_neg hnot).trans (if_pos hrep))) 0x30 tag)
  · exact (exec_bypassOff hready t tag b).trans
      (answer_eq (State.requestBypassOff_released (s := x) hl hn hrx hst h) 0x30 tag)

/-! ## ABORT CYCLE, in RUN -/

section
variable {s : State} {n : Nat} {r : StationRecord} (hr : s.stationCfg n = some r)

section
variable {j : Job} (hj : (s.station n).job = some j) (ho : (s.station n).outcomeGiven = false)
include hr hj ho

theorem State.abortStation_cycle (h : (s.station n).state = .cycle) :
    s.abortStation n r = (((s.trkDefect n j.pallet .aborted (s.cycleElapsed n)).replaceCmd r.node .retract).modStation n
      fun st => { st with outcomeGiven := true, state := .unclamping, timer := none }).sqsAfter r.segment := by
  have hnode : (s.trkDefect n j.pallet .aborted (s.cycleElapsed n)).stationNode n = r.node :=
    State.stationNode_of (s := s.trkDefect n j.pallet .aborted (s.cycleElapsed n)) hr
  rw [State.abortStation, if_pos h, State.handOn_defect hj ho, State.stationRetract_outcomeGiven,
    State.replaceCmd_outcomeGiven, hnode, State.outcomeGiven, State.modStation_modStation]

theorem State.retract_missed : (s.stationRetract n).handOn n .missed
    = ((if j.kind = .machine then s.trkOpMissed n j.pallet else s).replaceCmd r.node .retract).outcomeGiven n := by
  have hmissed (a : Nat) : (s.postCmd a .retract []).handOn n .missed
      = ((if j.kind = .machine then s.trkOpMissed n j.pallet else s).postCmd a .retract []).outcomeGiven n := by
    rw [State.handOn_missed (s := s.postCmd a .retract []) hj ho]
    split <;> rfl
  have hgiven (y : State) : (y.outcomeGiven n).handOn n .missed = y.outcomeGiven n := y.handOn_outcomeGiven n .missed
  have hpending (a : Nat) :
      (if j.kind = .machine then s.trkOpMissed n j.pallet else s).pendingAt a = s.pendingAt a := by
    split <;> rfl
  rw [State.stationRetract_eq, State.stationNode_of hr, State.replaceCmd, hpending, hmissed]
  split
  · exact State.handOn_missed hj ho
  · split
    · exact hgiven _
    · exact hmissed _

theorem State.abortStation_clamped (h : (s.station n).state ≠ .cycle) :
    s.abortStation n r = (((if j.kind = .machine then s.trkOpMissed n j.pallet else s).replaceCmd r.node
      .retract).modStation n
      fun st => { st with outcomeGiven := true, state := .unclamping, timer := none }).sqsAfter r.segment := by
  rw [State.abortStation, if_neg h, State.retract_missed hr hj ho, State.outcomeGiven, State.modStation_modStation]

end

variable (hl : s.lsv.lineState = .run) (hn : stationNumberBad n = false)
include hr hl hn

theorem State.requestAbortCycle_aborts
    (h : (s.station n).state = .clamping ∨ (s.station n).state = .clamped ∨ (s.station n).state = .cycle) :
    s.requestAbortCycle n = ((s.abortStation n r).closeEvent, .ok []) := by
  rcases h with h | h | h <;> simp [State.requestAbortCycle, hl, hn, hr, h, okEmpty]

theorem State.requestAbortCycle_other (h1 : (s.station n).state ≠ .clamping) (h2 : (s.station n).state ≠ .clamped)
    (h3 : (s.station n).state ≠ .cycle) : s.requestAbortCycle n = (s, .state) := by
  cases h : (s.station n).state <;> simp_all [State.requestAbortCycle]

end

/-- Settles O34: RETRACT and the outcome go either way round, and the outcome is handed on once. -/
theorem abortCycleEndsTheJob : Obligations.AbortCycleEndsTheJob := by
  intro t tag b s r st hready hl h1 h32 hr hget x unclamps
  have hn := stationNumberBad_false h1 h32
  have hst : x.station b.toNat = st := State.station_of_get (s := x) hget
  have hrx : x.stationCfg b.toNat = some r := hr
  refine ⟨fun j hj ho => ⟨fun h => ⟨?_, flowsTo_closeEvent (State.sqsAfter_still _ _)⟩,
    fun h => ⟨?_, flowsTo_closeEvent (State.sqsAfter_still _ _)⟩⟩, fun h1 h2 h3 => ?_⟩
  · rw [← hst] at hj ho h
    have habort := State.abortStation_cycle hrx hj ho h
    have hspent : x.cycleElapsed b.toNat
        = match st.startTime with | some start => (t - start).toNat | none => 0 := by
      rw [State.cycleElapsed, hst]
      rfl
    rw [exec_abortCycle hready, State.requestAbortCycle_aborts (s := x) hrx hl hn (.inr (.inr h)), habort,
      hspent] <;> rfl
  · rw [← hst] at hj ho h
    have hcycle : (x.station b.toNat).state ≠ .cycle := by rcases h with h | h <;> simp [h]
    have habort := State.abortStation_clamped hrx hj ho hcycle
    rw [exec_abortCycle hready,
      State.requestAbortCycle_aborts (s := x) hrx hl hn (h.imp_right .inl), habort]
  · rw [← hst] at h1 h2 h3
    rw [exec_abortCycle hready, State.requestAbortCycle_other (s := x) hrx hl hn h1 h2 h3]

/-- Settles O35: past the guards of CLEAR FAULT the last report alone decides. -/
theorem clearFaultOfAStationFollowsItsReport : Obligations.ClearFaultOfAStationFollowsItsReport := by
  intro t tag b s r st hready hline h1 h32 hr hget x clearedTo unclamping resetting
  have hl : x.lineIn [.idle, .run] = true := State.lineIn_idle_run (s := x) hline
  have hn := stationNumberBad_false h1 h32
  have hst : x.station b.toNat = st := State.station_of_get (s := x) hget
  have hrx : x.stationCfg b.toNat = some r := hr
  have flows (y : State) : y.flowsTo (y.sqsAfter r.segment).closeEvent :=
    flowsTo_closeEvent (State.sqsAfter_still _ _)
  refine ⟨fun h hclear hlost hunseen hpend rep code hrep => ?_, fun h => ?_⟩
  · have hby := State.requestClearStation_by (s := x) hl hn hrx hst h hclear
      (NodeStatus.absent_eq_false hlost hunseen) hpend hrep
    have cleared (hcycling : rep ≠ .cycling)
        (hfree : (x.seg r.segment).state.inMotion = false ∨ rep = .unclamped ∨ rep = .lockout) :
        exec (.clearFaultStation t tag b) s
          = .next ((x.clearStationBy b.toNat r rep).closeEvent.replied 0x32 tag (.ok [])) := by
      rw [exec_clearFaultStation hready, hby, if_neg (by simp [State.clearBlocked_atRest hcycling hfree])]
    refine ⟨fun e => ⟨?_, flows _⟩, fun e => ⟨?_, flows _⟩, fun hmove e => ⟨?_, flows _⟩, fun hmove e => ?_,
      fun e => ?_⟩
    · exact (cleared (by simp [e]) (.inr (.inl e))).trans (by rw [e]; rfl)
    · exact (cleared (by simp [e]) (.inr (.inr e))).trans (by rw [e]; rfl)
    · have hunclamp : x.clearStationBy b.toNat r rep = unclamping.sqsAfter r.segment := by
        rcases e with e | e <;> rw [e] <;>
          exact congrArg (State.sqsAfter · r.segment) (State.stationUnclamp_of hrx r.tUnclampMax)
      rw [cleared (by rcases e with e | e <;> simp [e]) (.inl hmove), hunclamp]
    · have hnotices : resetting.closeEvent = resetting.takeNotices := by
        refine State.closeEvent_notices ?_ ?_ <;> rcases hline with h | h <;> simp [resetting, x, State.taking, h]
      rw [cleared (by simp [e]) (.inl hmove), ← hnotices, e]
      rfl
    · rw [exec_clearFaultStation hready, hby, e, if_pos (State.clearBlocked_cycling _ _)]
  · rw [exec_clearFaultStation hready, State.requestClearStation_sound (s := x) hl hn hrx hst h]

end Sys2Proof.Machine
end

section
/-! PROOF. The rows of R58's table, one lemma for each state of the station, with the end of a cycle and what the
outcome of a command does (R50 to R54, R56, R57, R59, R61, R63, R67). -/

namespace Sys2Proof.Machine

/-! ## Reports -/

theorem State.sqsReport_halt {s : State} (h : s.lsv.lineState = .halt) (n : Nat) (rep : StationReport) (code : Nat) :
    s.sqsReport n rep code = s.modStation n fun g => { g with report := some (rep, code) } := by
  simp only [State.sqsReport, h, if_true]
  split <;> rfl

theorem State.sqsReport_acts {s : State} {n : Nat} {r : StationRecord} (hr : s.stationCfg n = some r)
    (h : s.lsv.lineState ≠ .halt) (rep : StationReport) (code : Nat) :
    s.sqsReport n rep code
      = (s.modStation n fun g => { g with report := some (rep, code) }).actOnStationReport n r rep := by
  simp only [State.sqsReport, hr, if_neg h]

theorem StationReport.faultCause_eq (rep : StationReport) :
    rep.faultCause = if rep = .fault ∨ rep = .lockout then .nodeFault else .nodeState := by
  cases rep <;> rfl

section
variable {s : State} {n : Nat} {r : StationRecord} {rep : StationReport}

theorem State.actOnStationReport_skipped (h : (s.station n).state = .skipped) :
    s.actOnStationReport n r rep = s := by
  simp only [State.actOnStationReport, h]

theorem State.actOnStationReport_released (h : (s.station n).state = .released) :
    (rep = .unclamped → s.actOnStationReport n r rep = s)
    ∧ (rep = .lockout → s.actOnStationReport n r rep = (s.stationIdle n .lockout).sqsAfter r.segment)
    ∧ (rep ≠ .unclamped → rep ≠ .lockout →
      s.actOnStationReport n r rep = (s.stationFault n rep.faultCause .nothing).sqsAfter r.segment) := by
  have hrow : s.actOnStationReport n r rep = s.reportInReleased n r rep := by
    simp only [State.actOnStationReport, h]
  rw [hrow]
  refine ⟨fun e => by subst e; rfl, fun e => by subst e; rfl, fun h1 h2 => ?_⟩
  unfold State.reportInReleased
  split
  · contradiction
  · contradiction
  · rfl

theorem State.actOnStationReport_lockout (h : (s.station n).state = .lockout) :
    (rep = .unclamped → s.actOnStationReport n r rep = (s.stationIdle n .released).sqsAfter r.segment)
    ∧ (rep = .lockout → s.actOnStationReport n r rep = s)
    ∧ (rep ≠ .unclamped → rep ≠ .lockout →
      s.actOnStationReport n r rep = (s.stationFault n rep.faultCause .nothing).sqsAfter r.segment) := by
  have hrow : s.actOnStationReport n r rep = s.reportInLockout n r rep := by
    simp only [State.actOnStationReport, h]
  rw [hrow]
  refine ⟨fun e => by subst e; rfl, fun e => by subst e; rfl, fun h1 h2 => ?_⟩
  unfold State.reportInLockout
  split
  · contradiction
  · contradiction
  · rfl

theorem State.actOnStationReport_clamping (h : (s.station n).state = .clamping) :
    (rep = .unclamped ∨ (rep = .clamped ∧ s.stationPending n = some .clamp) → s.actOnStationReport n r rep = s)
    ∧ (rep = .clamped → s.stationPending n ≠ some .clamp → s.actOnStationReport n r rep = s.stationClamped n r)
    ∧ (rep ≠ .unclamped → rep ≠ .clamped → s.actOnStationReport n r rep =
      ((s.stationFault n rep.faultCause .missed).stationRetract n).sqsAfter r.segment) := by
  have hrow : s.actOnStationReport n r rep = s.reportInClamping n r rep := by
    simp only [State.actOnStationReport, h]
  rw [hrow]
  refine ⟨?_, ?_, fun h1 h2 => ?_⟩
  · rintro (rfl | ⟨rfl, hpend⟩)
    · rfl
    · exact if_pos hpend
  · rintro rfl hpend
    exact if_neg hpend
  · unfold State.reportInClamping
    split
    · contradiction
    · contradiction
    · rfl

theorem State.actOnStationReport_clamped (h : (s.station n).state = .clamped) :
    (rep = .clamped → s.actOnStationReport n r rep = s)
    ∧ (rep ≠ .clamped → s.actOnStationReport n r rep =
      ((s.stationFault n rep.faultCause .missed).stationRetract n).sqsAfter r.segment) := by
  have hrow : s.actOnStationReport n r rep = s.reportInClamped n r rep := by
    simp only [State.actOnStationReport, h]
  rw [hrow]
  refine ⟨fun e => by subst e; rfl, fun h1 => ?_⟩
  unfold State.reportInClamped
  split
  · contradiction
  · rfl

theorem State.actOnStationReport_cycle (h : (s.station n).state = .cycle) :
    (rep = .clamped ∨ rep = .cycling → s.actOnStationReport n r rep = s)
    ∧ (rep = .cycleDone → s.actOnStationReport n r rep = s.stationCycleDone n r)
    ∧ (rep = .unclamped ∨ rep = .fault ∨ rep = .lockout → s.actOnStationReport n r rep =
      ((s.stationFault n rep.faultCause (.defect .stationFault (s.cycleElapsed n))).stationRetract n).sqsAfter
        r.segment) := by
  have hrow : s.actOnStationReport n r rep = s.reportInCycle n r rep := by
    simp only [State.actOnStationReport, h]
  rw [hrow]
  refine ⟨?_, fun e => by subst e; rfl, ?_⟩
  · rintro (rfl | rfl) <;> rfl
  · rintro (rfl | rfl | rfl) <;> rfl

theorem State.actOnStationReport_doneHeld (h : (s.station n).state = .doneHeld) :
    (rep = .clamped ∨ rep = .cycling ∨ rep = .cycleDone → s.actOnStationReport n r rep = s)
    ∧ (rep = .fault ∨ rep = .lockout ∨ (rep = .unclamped ∧ s.common r.segment ≠ .requested) →
      s.actOnStationReport n r rep = (s.stationFault n rep.faultCause .nothing).sqsAfter r.segment)
    ∧ (rep = .unclamped → s.common r.segment = .requested →
      s.actOnStationReport n r rep = (s.stationIdle n .released).sqsAfter r.segment) := by
  have hrow : s.actOnStationReport n r rep = s.reportInDoneHeld n r rep := by
    simp only [State.actOnStationReport, h]
  rw [hrow]
  refine ⟨?_, ?_, ?_⟩
  · rintro (rfl | rfl | rfl) <;> rfl
  · rintro (rfl | rfl | ⟨rfl, hcommon⟩)
    · rfl
    · rfl
    · exact if_neg hcommon
  · rintro rfl hcommon
    exact if_pos hcommon

theorem State.actOnStationReport_unclamping (h : (s.station n).state = .unclamping) :
    (rep = .clamped ∨ rep = .cycling ∨ rep = .cycleDone ∨ (rep = .unclamped ∧ s.stationPending n ≠ none) →
      s.actOnStationReport n r rep = s)
    ∧ (rep = .fault ∨ rep = .lockout →
      s.actOnStationReport n r rep = (s.stationFault n rep.faultCause .nothing).sqsAfter r.segment)
    ∧ (rep = .unclamped → s.stationPending n = none →
      s.actOnStationReport n r rep = (s.stationIdle n .released).sqsAfter r.segment) := by
  have hrow : s.actOnStationReport n r rep = s.reportInUnclamping n r rep := by
    simp only [State.actOnStationReport, h]
  rw [hrow]
  refine ⟨?_, ?_, ?_⟩
  · rintro (rfl | rfl | rfl | ⟨rfl, hpend⟩)
    · rfl
    · rfl
    · rfl
    · exact if_pos (Option.isSome_iff_ne_none.mpr hpend)
  · rintro (rfl | rfl) <;> rfl
  · rintro rfl hpend
    exact if_neg (by simp [hpend])

theorem State.actOnStationReport_fault (h : (s.station n).state = .fault) :
    ((s.station n).clearPending = false ∨ s.stationPending n = some .resetFault ∨ rep = .fault ∨ rep = .cycling →
      s.actOnStationReport n r rep = s)
    ∧ ((s.station n).clearPending = true → s.stationPending n ≠ some .resetFault →
      (rep = .unclamped → s.actOnStationReport n r rep = (s.stationIdle n .released).sqsAfter r.segment)
      ∧ (rep = .lockout → s.actOnStationReport n r rep = (s.stationIdle n .lockout).sqsAfter r.segment)
      ∧ (rep = .clamped ∨ rep = .cycleDone →
        s.actOnStationReport n r rep = (s.stationUnclamp n r.tUnclampMax).sqsAfter r.segment)) := by
  have hact : s.actOnStationReport n r rep = s.stationClearReport n r rep := by
    simp only [State.actOnStationReport, h]
  rw [hact]
  refine ⟨fun hkeeps => ?_, fun hclear hpend => ?_⟩
  · rcases hkeeps with h | h | h | h <;> simp [State.stationClearReport, h]
  · cases rep <;> simp [State.stationClearReport, hclear, hpend]

end

/-! ## The end of a cycle (R53, R54) -/

/-- The results of a CYCLE_DONE after `ms`, short when below T_cycle_min: op done and the SHORT_CYCLE defect, with the
completion of a LOAD job before them and of an UNLOAD job after them (R49). -/
def State.cycleResults (s : State) (n : Nat) (r : StationRecord) (j : Job) (ms : Nat) : State :=
  let results := fun (y : State) =>
    if ms < r.tCycleMin then (y.trkOpDone n j.pallet).trkDefect n j.pallet .shortCycle ms
    else y.trkOpDone n j.pallet
  match j.kind with
  | .machine => results s
  | .load => results (s.loadDone j.pallet)
  | .unload => (results s).unloadDone n j.pallet (j.disposition.getD .good)

theorem State.handOnDone_eq {s : State} {n : Nat} {j : Job} (hj : (s.station n).job = some j) (r : StationRecord)
    (ms : Nat) : s.handOnDone n (if ms < r.tCycleMin then some ms else none)
      = (s.cycleResults n r j ms).outcomeGiven n := by
  by_cases hshort : ms < r.tCycleMin <;> cases hkind : j.kind <;>
    simp [State.handOnDone, State.cycleResults, hj, hshort, hkind]

theorem State.cycleResults_fixed (s : State) (n : Nat) (r : StationRecord) (j : Job) (ms : Nat) :
    (s.cycleResults n r j ms).fixed = s.fixed := by
  unfold State.cycleResults
  by_cases hshort : ms < r.tCycleMin <;> cases j.kind <;> simp [hshort]

theorem State.cycleResults_clock (s : State) (n : Nat) (r : StationRecord) (j : Job) (ms : Nat) :
    (s.cycleResults n r j ms).clock = s.clock :=
  (congrArg (fun x : State => x.clock) (s.cycleResults_fixed n r j ms) :)

theorem State.cycleResults_cfg (s : State) (n : Nat) (r : StationRecord) (j : Job) (ms : Nat) :
    (s.cycleResults n r j ms).cfg = s.cfg :=
  (congrArg (fun x : State => x.cfg) (s.cycleResults_fixed n r j ms) :)

/-- CYCLE_DONE of a job: its results, the outcome given, SHORT_CYCLE, and UNCLAMP or DONE_HELD. -/
theorem State.stationCycleDone_eq {s : State} {n : Nat} {r : StationRecord} (hr : s.stationCfg n = some r) {j : Job}
    (hj : (s.station n).job = some j) {ms : Nat} (hms : s.cycleElapsed n = ms) {z z' : State}
    (hz : z = ((s.modStation n fun st => { st with timer := none }).cycleResults n r j ms).outcomeGiven n)
    (hz' : z' = if ms < r.tCycleMin then z.modClp (·.postEvent
        { kind := .shortCycle, time := s.clock, subject := .station n, pallet := some j.pallet,
          detail := .duration ms })
      else z) :
    s.stationCycleDone n r =
      (if r.autoRelease then (z'.postCmd r.node .unclamp []).modStation n fun st =>
          { st with state := .unclamping, cause := none, clearPending := false,
                    timer := some { purpose := .unclamp, timer := { start := s.clock, limit := r.tUnclampMax } } }
        else z'.modStation n fun st => { st with state := .doneHeld }).sqsAfter r.segment := by
  have hjob : ((s.modStation n fun st => { st with timer := none }).station n).job = some j := by
    rw [← hj]
    exact State.station_modStation_view (·.job) fun _ => rfl
  have hclock : z.clock = s.clock := hz ▸ State.cycleResults_clock ..
  have hcfg : z.cfg = s.cfg := hz ▸ State.cycleResults_cfg ..
  have hclock' : z'.clock = s.clock := by
    rw [hz']
    split <;> exact hclock
  have hcfg' : z'.stationCfg n = some r := by
    have hkept : z'.cfg = s.cfg := by
      rw [hz']
      split <;> exact hcfg
    rw [State.stationCfg, hkept]
    exact hr
  have hposted : (if ms < r.tCycleMin then z.post .shortCycle (.station n) ((s.station n).job.map (·.pallet))
      (.duration ms) else z) = z' := by
    simp only [hz', State.post, hclock, hj, Option.map_some]
  simp only [State.stationCycleDone, hms, State.handOnDone_eq hjob, ← hz, hposted,
    State.stationUnclamp_of hcfg', hclock']

/-! ## Command outcomes -/

section
variable {s : State} {n : Nat} {r : StationRecord} (hr : s.stationCfg n = some r)
include hr

theorem State.sqsDelivered_start (h : (s.station n).state = .clamped) : s.sqsDelivered n .start =
    s.modStation n fun st => { st with state := .cycle, startTime := some s.clock,
                                       timer := some (s.stationTimer .cycle r.tCycleMax) } := by
  simp only [State.sqsDelivered, hr, h]

theorem State.sqsDelivered_retract (h : (s.station n).state = .unclamping) : s.sqsDelivered n .retract =
    if (s.station n).reportsUnclamped then (s.stationIdle n .released).sqsAfter r.segment
    else (s.stationUnclamp n r.tUnclampMax).sqsAfter r.segment := by
  simp only [State.sqsDelivered, hr, h]

theorem State.sqsDelivered_unclamp (h : (s.station n).state = .unclamping) : s.sqsDelivered n .unclamp =
    if (s.station n).reportsUnclamped then (s.stationIdle n .released).sqsAfter r.segment else s := by
  simp only [State.sqsDelivered, hr, h]

theorem State.sqsRefused_missed {c : CmdCode} (hc : c = .clamp ∨ c = .start) :
    s.sqsRefused n c = (s.stationFault n .refused .missed).sqsAfter r.segment := by
  rcases hc with hc | hc <;> simp only [State.sqsRefused, hr, hc]

theorem State.sqsRefused_ended {c : CmdCode} (hc : c = .retract ∨ c = .unclamp) :
    s.sqsRefused n c = (s.stationFault n .refused .nothing).sqsAfter r.segment := by
  rcases hc with hc | hc <;> simp only [State.sqsRefused, hr, hc]

theorem State.sqsRefused_clears (h : (s.station n).clearPending = true) :
    s.sqsRefused n .resetFault = s.stationClearFails n .refused := by
  simp only [State.sqsRefused, hr, h, if_true]

end

end Sys2Proof.Machine
end

section
/-! PROOF. The timers of a station (R50, R51, R55 to R57, R67) and the common release of a segment (R57). -/

namespace Sys2Proof.Machine

/-! ## The station's own timers -/

theorem State.stationTimerDue_of {s : State} {n : Nat} {purpose : TimerPurpose} {tm : Timer}
    (h : (s.station n).timer = some { purpose := purpose, timer := tm }) (hdue : s.due tm = true) :
    s.stationTimerDue n purpose = true := by
  simp [State.stationTimerDue, h, hdue]

section
variable {s : State} {n : Nat} {r : StationRecord} (hr : s.stationCfg n = some r)

theorem State.stationClearExpires_due (hdue : s.stationTimerDue n .clear = true) :
    s.stationClearExpires n = s.stationClearFails n .nodeFault :=
  if_pos hdue

include hr

/-- A due unclamp timer (R56). -/
theorem State.unclampExpires_due (hdue : s.stationTimerDue n .unclamp = true) (h : (s.station n).state ≠ .fault) :
    s.unclampExpires n = (s.faultEntered n .unclampTimeout).sqsAfter r.segment := by
  rw [State.unclampExpires, if_pos hdue, State.stationFault_enters h, State.handOn_nothing, State.stationSegment_of hr]

section
variable {j : Job} (hj : (s.station n).job = some j) (ho : (s.station n).outcomeGiven = false)
include hj ho

/-- A due clamp timer (R50): the job is missed, and RETRACT replaces a CLAMP that is still pending. -/
theorem State.clampExpires_due (hdue : s.stationTimerDue n .clamp = true) (h : (s.station n).state ≠ .fault)
    {y : State} (hy : y = (if j.kind = .machine then (s.faultEntered n .clampTimeout).trkOpMissed n j.pallet
      else s.faultEntered n .clampTimeout).outcomeGiven n) :
    s.clampExpires n
      = (if s.stationPending n = some .clamp then y.replaceCmd r.node .retract else y).sqsAfter r.segment := by
  have hmissed : (s.faultEntered n .clampTimeout).handOn n .missed = y :=
    (State.handOn_missed ((s.faultEntered_job n _).trans hj) ((s.faultEntered_outcomeGiven n _).trans ho)).trans hy.symm
  have hcfg : y.stationCfg n = some r := by
    rw [State.stationCfg, ← hmissed, State.handOn_cfg]
    exact hr
  have hpending : y.pendingAt r.node = s.stationPending n := by
    rw [State.stationPending_of hr, State.pendingAt, State.node, ← hmissed, State.handOn_sbm]
    rfl
  rw [State.clampExpires, if_pos hdue, State.stationFault_enters h, hmissed, State.stationSegment_of hr]
  dsimp only
  split
  · next hclamp =>
    rw [State.stationRetract_posts (by rw [State.stationNode_of hcfg, hpending, hclamp]; simp),
      State.stationNode_of hcfg]
  · rfl

/-- A due cycle timer (R55): a CYCLE_TIMEOUT defect and RETRACT. -/
theorem State.cycleExpires_due (hdue : s.stationTimerDue n .cycle = true) (h : (s.station n).state ≠ .fault) :
    s.cycleExpires n
      = ((((s.faultEntered n .cycleTimeout).trkDefect n j.pallet .cycleTimeout r.tCycleMax).outcomeGiven n).replaceCmd
          r.node .retract).sqsAfter r.segment := by
  have hnode :
      ((s.faultEntered n .cycleTimeout).trkDefect n j.pallet .cycleTimeout r.tCycleMax).stationNode n = r.node :=
    State.stationNode_of
      (s := (s.faultEntered n .cycleTimeout).trkDefect n j.pallet .cycleTimeout r.tCycleMax) hr
  rw [State.cycleExpires, if_pos hdue]
  simp only [hr, Option.map_some, Option.getD_some]
  rw [State.stationFault_enters h,
    State.handOn_defect ((s.faultEntered_job n _).trans hj) ((s.faultEntered_outcomeGiven n _).trans ho),
    State.stationRetract_outcomeGiven, hnode, State.stationSegment_of hr]

/-- A due settle timer (R51): START while the pallet suits the job, else the job is missed and the station unclamps. -/
theorem State.settleTimerExpires_due (hdue : s.stationTimerDue n .settle = true) :
    s.settleTimerExpires n = if s.settleCheck r j then
        (s.modStation n fun st => { st with timer := none }).postCmd r.node .start j.startArgs
      else (((if j.kind = .machine then s.trkOpMissed n j.pallet else s).outcomeGiven n).stationUnclamp n
        r.tUnclampMax).sqsAfter r.segment := by
  rw [State.settleTimerExpires, if_pos hdue]
  simp only [State.settleExpires, hr, hj, State.handOn_missed hj ho]

end
end

/-! ## Faults and changes of several stations -/

theorem State.stationFault_stations {s : State} {n : Nat} (h : (s.station n).state ≠ .fault) (cause : StationCause) :
    (s.stationFault n cause .nothing).sqs.stations
      = tableModify n (Station.inFault · cause) s.sqs.stations := by
  rw [State.stationFault_enters h, State.handOn_nothing]
  rfl

theorem State.station_stationFault_other {s : State} {n m : Nat} (h : m ≠ n) (cause : StationCause) :
    (s.stationFault n cause .nothing).station m = s.station m := by
  by_cases hf : (s.station n).state = .fault
  · rw [State.stationFault_again hf]
  · rw [State.stationFault_enters hf, State.handOn_nothing]
    exact State.station_modStation_other (s := s) h _

theorem tableModify_eq_map {κ α : Type} [DecidableEq κ] (k : κ) (f : α → α) (l : List (κ × α)) :
    tableModify k f l = l.map fun p => if p.1 = k then (p.1, f p.2) else p := by
  induction l with
  | nil => rfl
  | cons p rest ih => simp only [tableModify, ih, List.map_cons]

/-- A change at each of several stations in turn is one change of the table, where each turn makes it of a station
that stands as at the start. -/
theorem State.foldl_stations {f : Station → Station} {op : State → Nat × Station → State} (sel : List (Nat × Station))
    {s : State} (hsel : (sel.map (·.1)).Nodup)
    (hop : ∀ y, ∀ p ∈ sel, y.station p.1 = s.station p.1 →
      (op y p).sqs.stations = tableModify p.1 f y.sqs.stations) :
    (sel.foldl op s).sqs.stations
      = s.sqs.stations.map fun q => if q.1 ∈ sel.map (·.1) then (q.1, f q.2) else q := by
  induction sel generalizing s with
  | nil => simp
  | cons p rest ih =>
    rw [List.map_cons, List.nodup_cons] at hsel
    obtain ⟨hp, hrest⟩ := hsel
    have hfirst : (op s p).sqs.stations = tableModify p.1 f s.sqs.stations := hop s p List.mem_cons_self rfl
    have hothers : ∀ q ∈ rest, (op s p).station q.1 = s.station q.1 := fun q hq => by
      have hne : q.1 ≠ p.1 := fun e => hp (e ▸ List.mem_map_of_mem hq)
      rw [State.station, hfirst, tableGet_modify_other hne, State.station]
    rw [List.foldl_cons, ih hrest fun y q hq hy => hop y q (List.mem_cons_of_mem _ hq) (hy.trans (hothers q hq)),
      hfirst, tableModify_eq_map, List.map_map]
    refine List.map_congr_left fun q _ => ?_
    by_cases hq : q.1 = p.1
    · simp [hq, hp]
    · rw [Function.comp_apply, if_neg hq]
      simp only [List.map_cons, List.mem_cons, hq, false_or]

/-! ## The common release (R57) -/

/-- The stations of a segment in DONE_HELD, ascending. -/
def State.heldOn (s : State) (k : Nat) : List (Nat × Station) :=
  s.sqs.stations.filter fun p => s.stationSegment p.1 = k ∧ p.2.state = .doneHeld

/-- A station that a delivered RELEASE_ALL leaves to unclamp under the common timer. -/
def State.underCommonTimer (s : State) (k : Nat) (st : Station) : Station :=
  { st with state := .unclamping, timer := some (s.stationTimer .common (s.segCfg k).tReleaseCommon) }

theorem State.forEach_heldOn (s y : State) (k : Nat) (f : Nat × Station → State → State) :
    forEach (fun p x => if p.2.state = .doneHeld then f p x else x) (s.stationsOn k) y
      = (s.heldOn k).foldl (fun x p => f p x) y := by
  have hheld : s.heldOn k = (s.stationsOn k).filter fun p => p.2.state = .doneHeld := by
    simp only [State.heldOn, State.stationsOn, List.filter_filter, Bool.decide_and, Bool.and_comm]
  rw [hheld, List.foldl_filter, forEach_eq_foldl]
  simp only [decide_eq_true_eq]

theorem State.commonRefused_eq (s : State) (k : Nat) : s.commonRefused k = ((s.heldOn k).foldl
    (fun y p => y.stationFault p.1 .refused .nothing) (s.setCommon k .none)).sqsAfter k :=
  congrArg (State.sqsAfter · k) (State.forEach_heldOn (s.setCommon k .none) (s.setCommon k .none) k _)

section
variable {s : State} {k : Nat} (hn : (s.sqs.stations.map (·.1)).Nodup)
include hn

theorem State.station_of_heldOn {p : Nat × Station} (h : p ∈ s.heldOn k) :
    s.station p.1 = p.2 ∧ p.2.state = .doneHeld := by
  obtain ⟨hmem, hkept⟩ := List.mem_filter.mp h
  obtain ⟨-, hheld⟩ := of_decide_eq_true hkept
  exact ⟨State.station_of_get (tableGet_of_mem hn hmem), hheld⟩

theorem State.heldOn_keys_nodup : ((s.heldOn k).map (·.1)).Nodup :=
  hn.sublist (List.filter_sublist.map _)

/-- Over distinct stations a change at those in DONE_HELD is told by each entry itself. -/
theorem State.map_heldOn (f : Station → Station) :
    (s.sqs.stations.map fun q => if q.1 ∈ (s.heldOn k).map (·.1) then (q.1, f q.2) else q)
      = s.sqs.stations.map fun q =>
        if s.stationSegment q.1 = k ∧ q.2.state = .doneHeld then (q.1, f q.2) else q := by
  refine List.map_congr_left fun q hq => ?_
  have hiff : q.1 ∈ (s.heldOn k).map (·.1) ↔ s.stationSegment q.1 = k ∧ q.2.state = .doneHeld := by
    refine ⟨fun hmem => ?_, fun h => List.mem_map_of_mem (List.mem_filter.mpr ⟨hq, decide_eq_true h⟩)⟩
    obtain ⟨p, hp, heq⟩ := List.mem_map.mp hmem
    obtain rfl : p = q := List.inj_on_of_nodup_map hn (List.mem_filter.mp hp).1 hq heq
    exact of_decide_eq_true (List.mem_filter.mp hp).2
  simp only [hiff]

/-- RELEASE_ALL delivered: each DONE_HELD station of the segment unclamps under the common timer. -/
theorem State.commonDelivered_stations : (s.commonDelivered k).sqs.stations = s.sqs.stations.map fun p =>
    if s.stationSegment p.1 = k ∧ p.2.state = .doneHeld then (p.1, s.underCommonTimer k p.2) else p := by
  rw [← s.map_heldOn hn (s.underCommonTimer k), State.commonDelivered, State.sqsAfter_stations,
    State.forEach_heldOn (s.setCommon k .running) (s.setCommon k .running)]
  exact State.foldl_stations (f := s.underCommonTimer k) (s := s.setCommon k .running) (s.heldOn k)
    (State.heldOn_keys_nodup hn) fun _ _ _ _ => rfl

/-- RELEASE_ALL refused: each DONE_HELD station of the segment faults. -/
theorem State.commonRefused_stations : (s.commonRefused k).sqs.stations = s.sqs.stations.map fun p =>
    if s.stationSegment p.1 = k ∧ p.2.state = .doneHeld then (p.1, p.2.inFault .refused) else p := by
  rw [← s.map_heldOn hn (Station.inFault · .refused), State.commonRefused_eq, State.sqsAfter_stations]
  refine State.foldl_stations (s := s.setCommon k .none) (s.heldOn k) (State.heldOn_keys_nodup hn)
    fun y p hp hy => State.stationFault_stations ?_ _
  obtain ⟨hst, hheld⟩ := State.station_of_heldOn hn hp
  rw [hy.trans hst, hheld]
  decide

end

/-! ## The common timer (R57) -/

/-- The common timer of the station runs and is due. -/
def State.commonOver (s : State) (p : Nat × Station) : Bool := p.2.underCommon && s.stationTimerDue p.1 .common

theorem State.commonExpires_due {s : State} {k : Nat} (h : ∃ p ∈ s.stationsOn k, s.commonOver p = true) :
    s.commonExpires k = (forEach (fun p x =>
      if s.commonOver p then x.stationFault p.1 .unclampTimeout .nothing else x) (s.stationsOn k) s).sqsAfter k :=
  if_pos (List.any_eq_true.mpr h)

section
variable {c : Nat × Station → Bool} {cause : StationCause}

/-- A station that no turn names stays as it is. -/
theorem forEach_stationFault_other {l : List (Nat × Station)} {m : Nat} (h : ∀ p ∈ l, c p = true → p.1 ≠ m)
    (s : State) : (forEach (fun p x => if c p then x.stationFault p.1 cause .nothing else x) l s).station m
      = s.station m := by
  induction l generalizing s with
  | nil => rfl
  | cons p rest ih =>
    have hp : (if c p then s.stationFault p.1 cause .nothing else s).station m = s.station m := by
      split
      · next hc => exact State.station_stationFault_other (Ne.symm (h p List.mem_cons_self hc)) cause
      · rfl
    exact (ih (fun q hq => h q (List.mem_cons_of_mem _ hq)) _).trans hp

/-- A station in FAULT with the cause stays so, whichever stations the turns name. -/
theorem forEach_stationFault_keeps (l : List (Nat × Station)) {n : Nat} {s : State}
    (h : (s.station n).state = .fault ∧ (s.station n).cause = some cause) :
    ((forEach (fun p x => if c p then x.stationFault p.1 cause .nothing else x) l s).station n).state = .fault
      ∧ ((forEach (fun p x => if c p then x.stationFault p.1 cause .nothing else x) l s).station n).cause
        = some cause := by
  refine forEach_keeps (p := fun y : State => (y.station n).state = .fault ∧ (y.station n).cause = some cause)
    (fun p y hy => ?_) l h
  split
  · by_cases hpn : n = p.1
    · rw [← hpn, State.stationFault_again hy.1]
      exact hy
    · rw [State.station_stationFault_other hpn]
      exact hy
  · exact hy

/-- A station out of FAULT that a turn names comes to FAULT with the cause. -/
theorem forEach_stationFault_named {l : List (Nat × Station)} {n : Nat} {st : Station} {s : State}
    (hget : tableGet n s.sqs.stations = some st) (hst : st.state ≠ .fault) (h : ∃ p ∈ l, c p = true ∧ p.1 = n) :
    ((forEach (fun p x => if c p then x.stationFault p.1 cause .nothing else x) l s).station n).state = .fault
      ∧ ((forEach (fun p x => if c p then x.stationFault p.1 cause .nothing else x) l s).station n).cause
        = some cause := by
  induction l generalizing s with
  | nil => obtain ⟨p, hp, -⟩ := h; cases hp
  | cons p rest ih =>
    have hne : (s.station n).state ≠ .fault := by rwa [State.station_of_get hget]
    by_cases hp : c p = true ∧ p.1 = n
    · obtain ⟨hc, rfl⟩ := hp
      refine forEach_stationFault_keeps rest ?_
      simp only [if_pos hc]
      rw [State.stationFault_enters hne, State.handOn_nothing]
      have hin : (s.faultEntered p.1 cause).station p.1 = st.inFault cause :=
        State.station_modStation_same (s := s) hget _
      rw [hin]
      exact ⟨rfl, rfl⟩
    · have hrest : ∃ q ∈ rest, c q = true ∧ q.1 = n := by
        obtain ⟨q, hq, hcq⟩ := h
        rcases List.mem_cons.mp hq with rfl | hq
        · exact absurd hcq hp
        · exact ⟨q, hq, hcq⟩
      refine ih (s := if c p then s.stationFault p.1 cause .nothing else s) ?_ hrest
      split
      · next hc =>
        by_cases hf : (s.station p.1).state = .fault
        · rwa [State.stationFault_again hf]
        · rw [State.stationFault_stations hf, tableGet_modify_other fun e => hp ⟨hc, e.symm⟩, hget]
      · exact hget

end

/-- A station under a due common timer comes to FAULT with UNCLAMP_TIMEOUT, and no station but those of the segment
with a due common timer changes. -/
theorem State.commonExpires_faults {s : State} {n k : Nat} {st : Station}
    (hget : tableGet n s.sqs.stations = some st) (hseg : s.stationSegment n = k) (hcommon : st.underCommon = true)
    (hdue : s.stationTimerDue n .common = true) :
    ((s.commonExpires k).station n).state = .fault ∧ ((s.commonExpires k).station n).cause = some .unclampTimeout
    ∧ ∀ m, s.stationSegment m ≠ k ∨ s.stationTimerDue m .common = false →
      (s.commonExpires k).station m = s.station m := by
  have hover : s.commonOver (n, st) = true := by simp [State.commonOver, hcommon, hdue]
  have hmem : (n, st) ∈ s.stationsOn k := List.mem_filter.mpr ⟨mem_of_tableGet hget, decide_eq_true hseg⟩
  have hstate : st.state ≠ .fault := fun h => by simp [Station.underCommon, h] at hcommon
  have hafter (m : Nat) : (s.commonExpires k).station m = (forEach (fun p x =>
      if s.commonOver p then x.stationFault p.1 .unclampTimeout .nothing else x) (s.stationsOn k) s).station m := by
    rw [State.commonExpires_due ⟨_, hmem, hover⟩]
    exact State.station_of_stations (State.sqsAfter_stations ..) m
  obtain ⟨hfault, hcause⟩ := forEach_stationFault_named (c := s.commonOver) (cause := .unclampTimeout) hget hstate
    ⟨_, hmem, hover, rfl⟩
  refine ⟨by rw [hafter, hfault], by rw [hafter, hcause], fun m hm => ?_⟩
  rw [hafter]
  refine forEach_stationFault_other (fun p hp hp' e => ?_) s
  obtain ⟨-, hon⟩ := List.mem_filter.mp hp
  obtain ⟨-, hpdue⟩ := Bool.and_eq_true_iff.mp hp'
  rcases hm with hm | hm
  · exact hm (e ▸ of_decide_eq_true hon)
  · rw [e, hm] at hpdue
    cases hpdue

end Sys2Proof.Machine
end

section
/-! PROOF. A station's timers, reports and command outcomes (O51). -/

namespace Sys2Proof.Machine

/-- Settles O51: a due timer by what its expiry comes to, R58's table by the row of the station's state read after the
report is stored, and the common release by the change it makes of the whole table of stations. -/
theorem stationTimersEndTheirPhase : Obligations.StationTimersEndTheirPhase := by
  refine ⟨?timers, ?reply, ?table, ?outcomes, ?jobs, ?release⟩
  case timers =>
    intro t n s r st purpose tm hr hget htimer hover
    obtain rfl : (s.at t).station n = st := State.station_of_get (s := s.at t) hget
    intro x faulted told
    have hdue : (s.at t).stationTimerDue n purpose = true :=
      State.stationTimerDue_of htimer (State.due_of_le (s := s.at t) hover)
    have ended {u v : State} (h : u = v) :
        (.next u.closeEvent : Host.Outcome State Fault Refusal) = .next v.closeEvent := by rw [h]
    have flows (y : State) : y.flowsTo (y.sqsAfter r.segment).closeEvent :=
      flowsTo_closeEvent (State.sqsAfter_still y r.segment)
    refine ⟨fun j hj ho => ⟨?_, ?_, ?_, ?_⟩, ?_, ?_, ?_⟩
    · rintro rfl h y y'
      have hstate : ((s.at t).station n).state ≠ .fault := by rw [h]; decide
      exact ⟨ended (State.clampExpires_due (s := s.at t) hr hj ho hdue hstate (y := y) rfl), flows y'⟩
    · rintro rfl h y
      have hstate : ((s.at t).station n).state ≠ .fault := by rw [h]; decide
      exact ⟨ended (State.cycleExpires_due (s := s.at t) hr hj ho hdue hstate), flows y⟩
    · rintro rfl hcheck
      exact ended ((State.settleTimerExpires_due (s := s.at t) hr hj ho hdue).trans (if_pos hcheck))
    · rintro rfl hcheck y
      have hunclamp := State.stationUnclamp_of
        (s := told (if j.kind = .machine then x.trkOpMissed n j.pallet else x)) (n := n) (r := r)
        (by simp only [told]; split <;> exact hr) r.tUnclampMax
      refine ⟨ended ((State.settleTimerExpires_due (s := s.at t) hr hj ho hdue).trans
        ((if_neg (ne_true_of_eq_false hcheck)).trans
          (congrArg (State.sqsAfter · r.segment) (hunclamp.trans ?_)))), flows y⟩
      simp only [y, told]
      split <;> rfl
    · rintro rfl h
      have hstate : ((s.at t).station n).state ≠ .fault := by rw [h]; decide
      exact ⟨ended (State.unclampExpires_due (s := s.at t) hr hdue hstate), flows _⟩
    · rintro rfl
      exact ended (State.stationClearExpires_due (s := s.at t) hdue)
    · rintro rfl h
      have hcommon : ((s.at t).station n).underCommon = true := by simp [Station.underCommon, h, htimer]
      obtain ⟨hfault, hcause, hothers⟩ := State.commonExpires_faults (s := s.at t) hget
        (State.stationSegment_of (s := s.at t) hr) hcommon hdue
      have hafter (m : Nat) : (((s.at t).commonExpires r.segment).closeEvent).station m
          = ((s.at t).commonExpires r.segment).station m :=
        State.station_of_stations (State.closeEvent_stations _) m
      exact ⟨_, rfl, by rw [hafter, hfault], by rw [hafter, hcause], fun m hm => (hafter m).trans (hothers m hm),
        worksTo_closeEvent (State.commonExpires_fixed _ _)⟩
  case reply =>
    intro t chars a n nd e rep code s hhears hrole
    have hheard := State.replyHeard_hears hhears t
    rw [hrole] at hheard
    exact congrArg (fun x : State => Host.Outcome.next x.closeEvent) hheard
  case table =>
    intro s n r rep code hr x g v faults idle unclamps spent causeOf
    have hview {β : Type} (f : Station → β) (h : ∀ st c, f { st with report := c } = f st) :
        f (x.station n) = f g :=
      State.station_modStation_view f fun st => h st _
    have hstate : (x.station n).state = g.state := hview (·.state) fun _ _ => rfl
    have hclear : (x.station n).clearPending = g.clearPending := hview (·.clearPending) fun _ _ => rfl
    have hspent : x.cycleElapsed n = spent := by
      rw [State.cycleElapsed, hview (·.startTime) fun _ _ => rfl]
      rfl
    have hfaults (h : g.state ≠ .fault) (e : JobEnd) : faults causeOf e = x.stationFault n rep.faultCause e := by
      rw [State.stationFault_enters (hstate ▸ h), State.faultEntered, hview (·.job) fun _ _ => rfl,
        StationReport.faultCause_eq]
      rfl
    refine ⟨fun h => State.sqsReport_halt h n rep code, fun h => ?_⟩
    have hv : v = x.actOnStationReport n r rep := State.sqsReport_acts hr h rep code
    refine ⟨?_, ?_, ?_, ?_, ?_, ?_, ?_, ?_, ?_⟩
    · exact fun hg => hv.trans (State.actOnStationReport_skipped (hstate.trans hg))
    · rintro (hg | hg)
      · obtain ⟨hun, hlock, hother⟩ := State.actOnStationReport_released (r := r) (rep := rep) (hstate.trans hg)
        rw [hfaults (by rw [hg]; decide), hg]
        exact ⟨fun e => hv.trans (hun e), fun e => hv.trans (hlock e), fun h1 h2 => hv.trans (hother h1 h2)⟩
      · obtain ⟨hun, hlock, hother⟩ := State.actOnStationReport_lockout (r := r) (rep := rep) (hstate.trans hg)
        rw [hfaults (by rw [hg]; decide), hg]
        exact ⟨fun e => hv.trans (hun e), fun e => hv.trans (hlock e), fun h1 h2 => hv.trans (hother h1 h2)⟩
    · intro hg hun
      obtain ⟨-, hclamped, hother⟩ := State.actOnStationReport_clamping (r := r) (rep := rep) (hstate.trans hg)
      rw [hfaults (by rw [hg]; decide)]
      exact ⟨fun h1 => hv.trans (hother hun h1), fun e hpend => hv.trans (hclamped e hpend)⟩
    · exact fun hg hrep => hv.trans ((State.actOnStationReport_clamping (hstate.trans hg)).1 hrep)
    · intro hg
      obtain ⟨hkeeps, hother⟩ := State.actOnStationReport_clamped (r := r) (rep := rep) (hstate.trans hg)
      rw [hfaults (by rw [hg]; decide)]
      exact ⟨fun e => hv.trans (hkeeps e), fun h1 => hv.trans (hother h1)⟩
    · intro hg
      obtain ⟨hkeeps, hdone, hother⟩ := State.actOnStationReport_cycle (r := r) (rep := rep) (hstate.trans hg)
      rw [hspent] at hother
      rw [hfaults (by rw [hg]; decide)]
      refine ⟨fun e => hv.trans (hkeeps e), fun e => hv.trans (hother e), fun e => ?_⟩
      intro j hj results y z event z'
      have hz : z = (y.cycleResults n r j spent).outcomeGiven n := by
        simp only [z, State.cycleResults]
        cases j.kind <;> rfl
      exact hv.trans ((hdone e).trans (State.stationCycleDone_eq (s := x) hr
        ((hview (·.job) fun _ _ => rfl).trans hj) hspent hz (z' := z') rfl))
    · intro hg
      obtain ⟨hkeeps, hfault, hfree⟩ := State.actOnStationReport_doneHeld (r := r) (rep := rep) (hstate.trans hg)
      rw [hfaults (by rw [hg]; decide)]
      exact ⟨fun e => hv.trans (hkeeps e), fun e => hv.trans (hfault e), fun e hc => hv.trans (hfree e hc)⟩
    · intro hg
      obtain ⟨hkeeps, hfault, hfree⟩ := State.actOnStationReport_unclamping (r := r) (rep := rep) (hstate.trans hg)
      rw [hfaults (by rw [hg]; decide)]
      exact ⟨fun e => hv.trans (hkeeps e), fun e => hv.trans (hfault e), fun e hp => hv.trans (hfree e hp)⟩
    · intro hg
      obtain ⟨hkeeps, hclears⟩ := State.actOnStationReport_fault (r := r) (rep := rep) (hstate.trans hg)
      rw [hclear] at hkeeps hclears
      refine ⟨fun hk => hv.trans (hkeeps hk), fun hc hp => ?_⟩
      obtain ⟨hun, hlock, hunclamp⟩ := hclears hc hp
      rw [State.stationUnclamp_of (s := x) hr] at hunclamp
      exact ⟨fun e => hv.trans (hun e), fun e => hv.trans (hlock e), fun e => hv.trans (hunclamp e)⟩
  case outcomes =>
    intro s n r hr g faults released
    have hunclamp := State.stationUnclamp_of hr r.tUnclampMax
    refine ⟨State.sqsDelivered_start hr, fun hg => ?_, fun hg c => ⟨fun hc => ?_, fun hc => ?_⟩,
      State.sqsRefused_clears hr⟩
    · have hretract := State.sqsDelivered_retract hr hg
      have hdelivered := State.sqsDelivered_unclamp hr hg
      rw [hunclamp] at hretract
      refine ⟨fun hrep => ⟨hretract.trans (if_pos hrep), hdelivered.trans (if_pos hrep)⟩, fun hrep => ?_⟩
      have hnot := ne_true_of_eq_false hrep
      exact ⟨hdelivered.trans (if_neg hnot), hretract.trans (if_neg hnot)⟩
    · exact (State.sqsRefused_missed hr hc).trans
        (congrArg (State.sqsAfter · r.segment) (State.stationFault_enters hg .refused .missed))
    · have hfault : s.stationFault n .refused .nothing = faults :=
        (State.stationFault_enters hg .refused .nothing).trans (State.handOn_nothing _ n)
      exact (State.sqsRefused_ended hr hc).trans (congrArg (State.sqsAfter · r.segment) hfault)
  case jobs =>
    intro s n g given
    exact ⟨fun j hj ho => ⟨State.handOn_missed hj ho, State.handOn_defect hj ho⟩, State.handOn_settled,
      State.handOn_nothing s n, State.stationRetract_eq s n⟩
  case release =>
    intro s k hn
    exact ⟨State.commonDelivered_stations hn, State.commonRefused_stations hn, s.commonRefused_eq k⟩

end Sys2Proof.Machine
end

section
/-! PROOF. What an evaluation of the admission queue can do (R109, R110): one law for every property that the Arbiter's
bookkeeping and each admission keep. What the end of an event leaves of a segment's record (R94, R149). -/

namespace Sys2Proof.Machine

/-! ## Evaluations -/

/-- A property that the Admission Arbiter's bookkeeping keeps, which adds no request to the queue, and that the admission
of each queued request keeps. -/
structure KeptByAdmission (P : State → Prop) : Prop where
  books : ∀ (x : State) (f : Ada → Ada), (∀ j ∈ (f x.ada).queue.map (·.segment), j ∈ x.ada.queue.map (·.segment)) →
    P x → P (x.modAda f)
  admits : ∀ (x : State) (q : AdaRequest), q.segment ∈ x.ada.queue.map (·.segment) → P x → P (x.adaAdmit q)

section
variable {P : State → Prop} (h : KeptByAdmission P)
include h

theorem KeptByAdmission.adaRefresh {s : State} (hs : P s) : P s.adaRefresh :=
  h.books s _ (fun _ hj => s.adaRefresh_queue ▸ hj) hs

theorem KeptByAdmission.adaSettle {s : State} (hs : P s) : P s.adaSettle :=
  h.books s _ (fun _ hj => s.adaSettle_segments ▸ hj) hs

theorem KeptByAdmission.staggerPassed {s : State} (hs : P s) : P s.staggerPassed := by
  unfold State.staggerPassed
  split
  · exact h.books s _ (fun _ hj => hj) hs
  · exact hs

theorem KeptByAdmission.adaRounds (n : Nat) {s : State} (hs : P s) : P (State.adaRounds n s) := by
  induction n generalizing s with
  | zero => exact h.adaSettle (h.adaRefresh hs)
  | succ n ih =>
    simp only [State.adaRounds]
    split
    · next q hq =>
      have hqueued := List.mem_map_of_mem (f := (·.segment)) (State.scanQueue_admissible hq).2
      exact h.staggerPassed (ih (h.admits _ q hqueued (h.adaRefresh hs)))
    · exact h.adaSettle (h.adaRefresh hs)

theorem KeptByAdmission.adaEvaluate {s : State} (hs : P s) : P s.adaEvaluate := h.adaRounds _ hs

end

/-! ## An admission (R80) -/

/-- A view of a segment's record that the change keeps. -/
theorem State.seg_modSeg_view {β : Type} (v : Segment → β) (s : State) (j k : Nat) (f : Segment → Segment)
    (hf : ∀ g, v (f g) = v g) : v ((s.modSeg j f).seg k) = v (s.seg k) := by
  obtain h | ⟨-, h⟩ := s.seg_modSeg j k f
  · rw [h]
  · rw [h, hf]

theorem State.seg_needDrive (s : State) (j k : Nat) (code : CmdCode) :
    (s.needDrive j code).seg k = s.seg k
      ∨ (k = j ∧ (s.needDrive j code).seg k = { s.seg k with owed := (s.seg k).owed.set code true }) := by
  unfold State.needDrive
  split
  · exact s.seg_modSeg j k _
  · exact .inl rfl

/-- The record of a segment at its admission (R80). -/
def Segment.admitted (g : Segment) : Segment :=
  { g with queued := none, indexNumber := (g.indexNumber + 1) % 65536, room := .none,
           motion := .atRest, state := .lift, phase := .stopped }

theorem State.seg_cvtCarry (s : State) (j k : Nat) (dest : Option ConvId) : (s.cvtCarry j dest).seg k = s.seg k := by
  unfold State.cvtCarry
  split <;> rfl

/-- An admission changes the admitted segment's record, and of any other at most what it owes its drive. -/
theorem State.seg_scAdmitted (s : State) (j k : Nat) :
    (∃ owed, (s.scAdmitted j).seg k = { s.seg k with owed := owed })
      ∨ (k = j ∧ ∃ owed, (s.scAdmitted j).seg k = { (s.seg k).admitted with owed := owed }) := by
  let y := (s.modSegMap j fun m => { m with openIndex := some (s.indexToOpen j) }).cvtCarry j (s.indexToOpen j).dest
  have hy : y.seg k = s.seg k := State.seg_cvtCarry _ j k _
  have hadmitted := y.seg_modSeg j k Segment.admitted
  have hneeds := (y.modSeg j Segment.admitted).seg_needDrive j k .lift
  rw [hy] at hadmitted
  obtain hsame | ⟨hk, hnew⟩ := hadmitted
  · rw [hsame] at hneeds
    obtain h | ⟨-, h⟩ := hneeds
    · exact .inl ⟨_, h⟩
    · exact .inl ⟨_, h⟩
  · rw [hnew] at hneeds
    obtain h | ⟨-, h⟩ := hneeds
    · exact .inr ⟨hk, _, h⟩
    · exact .inr ⟨hk, _, h⟩

theorem State.seg_adaAdmit (s : State) (q : AdaRequest) (k : Nat) :
    (∃ owed, (s.adaAdmit q).seg k = { s.seg k with owed := owed })
      ∨ (k = q.segment ∧ ∃ owed, (s.adaAdmit q).seg k = { (s.seg k).admitted with owed := owed }) :=
  State.seg_scAdmitted (s.modAda _) q.segment k

theorem State.needDrive_clp (s : State) (k : Nat) (code : CmdCode) : (s.needDrive k code).clp = s.clp := by
  unfold State.needDrive
  split <;> rfl

theorem State.cvtCarry_clp (s : State) (k : Nat) (dest : Option ConvId) : (s.cvtCarry k dest).clp = s.clp := by
  unfold State.cvtCarry
  split <;> rfl

theorem State.scAdmitted_clp (s : State) (k : Nat) : (s.scAdmitted k).clp = s.clp := by
  simp only [State.scAdmitted, State.needDrive_clp, State.modSeg_clp, State.cvtCarry_clp, State.modSegMap_clp]

/-- An evaluation posts no event. -/
theorem State.adaEvaluate_clp (s : State) : s.adaEvaluate.clp = s.clp :=
  KeptByAdmission.adaEvaluate (P := fun x => x.clp = s.clp)
    ⟨fun _ _ _ h => h, fun _ q _ h => (State.scAdmitted_clp _ q.segment).trans h⟩ rfl

/-- An evaluation takes a QUEUED segment into LIFT or leaves it QUEUED. -/
theorem State.adaEvaluate_queued {s : State} {k : Nat} (h : (s.seg k).state = .queued) :
    (s.adaEvaluate.seg k).state = .queued ∨ (s.adaEvaluate.seg k).state = .lift := by
  refine KeptByAdmission.adaEvaluate (P := fun x => (x.seg k).state = .queued ∨ (x.seg k).state = .lift)
    ⟨fun _ _ _ hx => hx, fun x q _ hx => ?_⟩ (.inl h)
  obtain ⟨owed, hseg⟩ | ⟨-, owed, hseg⟩ := x.seg_adaAdmit q k
  · rw [hseg]; exact hx
  · rw [hseg]; exact .inr rfl

/-! ## The end of an event -/

theorem State.closeEvent_sc (s : State) :
    s.closeEvent.sc = s.sc ∨ s.closeEvent.sc = s.sc.map fun p => (p.1, p.2.rest) := by
  simp only [State.closeEvent]
  (repeat' split)
  · exact .inl rfl
  · exact .inr rfl
  · exact .inl rfl

/-- The end of an event leaves a segment's record, or takes it from WORK or READY to OFF (R94). -/
theorem State.seg_closeEvent (s : State) (k : Nat) :
    s.closeEvent.seg k = s.seg k ∨ s.closeEvent.seg k = (s.seg k).rest := by
  obtain h | h := s.closeEvent_sc
  · exact .inl (by simp only [State.seg, h])
  · refine .inr ?_
    simp only [State.seg, h, tableGet_mapValues Segment.rest]
    cases tableGet k s.sc <;> rfl

/-- A segment in neither WORK nor READY keeps its state at the end of the event. -/
theorem State.closeEvent_state {s : State} {k : Nat} (hw : (s.seg k).state ≠ .work) (hr : (s.seg k).state ≠ .ready) :
    (s.closeEvent.seg k).state = (s.seg k).state := by
  have hrest : (s.seg k).rest = s.seg k := by simp [Segment.rest, hw, hr]
  obtain h | h := s.seg_closeEvent k
  · rw [h]
  · rw [h, hrest]

/-- Only the end of STOPPING posts an event at the end of another (R146). -/
theorem State.closeEvent_clp {s : State} (h : s.lsv.lineState ≠ .stopping) : s.closeEvent.clp = s.clp := by
  simp only [State.closeEvent]
  split
  · rfl
  · rw [if_neg (by simp [State.takeNotices, h])]
    rfl

end Sys2Proof.Machine
end

section
/-! PROOF. The faults of a segment without room (R89), and the segment timers (O52). -/

namespace Sys2Proof.Machine

section
variable {s : State} {k : Nat}

/-- A segment whose record is not the one of COMMIT stands in the table. -/
theorem State.mem_segNumbers_of_ne (h : s.seg k ≠ .fresh) : k ∈ s.segNumbers := by
  cases hg : tableGet k s.sc with
  | some g => exact List.mem_map.mpr ⟨(k, g), mem_of_tableGet hg, rfl⟩
  | none => exact absurd (by simp only [State.seg, hg, Option.getD_none]) h

theorem State.seg_modSeg_same (hk : k ∈ s.segNumbers) (f : Segment → Segment) :
    (s.modSeg k f).seg k = f (s.seg k) := by
  obtain ⟨g, hg⟩ := tableGet_of_key hk
  simp only [State.seg, State.modSeg, tableGet_modify_same, hg, Option.map_some, Option.getD_some]

/-! ## Faults (R89) -/

theorem State.giveUpRoom_none (h : (s.seg k).room = .none) : s.giveUpRoom k = s := by
  simp only [State.giveUpRoom, h]

theorem faultCertainty_eq {motion : DrivePhase} {cause : SegCause} (h : cause ≠ .driveState) :
    faultCertainty motion cause = if motion = .atRest ∨ motion = .lifting ∨ motion = .lifted then .beforeKnown
      else .uncertain := by
  cases motion <;> simp [faultCertainty, h]

theorem CmdCode.stoppedByFault_iff (c : CmdCode) :
    c.stoppedByFault = true ↔ c = .lift ∨ c = .advance ∨ c = .lower ∨ c = .ret ∨ c = .resume := by
  cases c <;> simp [CmdCode.stoppedByFault]

/-- FEEDHOLD takes the place of a motion command that has not been delivered yet (R89). -/
def State.motionStopped (s : State) (k : Nat) : State :=
  if (s.drivePending k).any CmdCode.stoppedByFault then s.replaceCmd (s.segCfg k).nodeDrive .feedhold else s

/-- In FAULT a superseded motion command is dropped (R90). -/
theorem State.postFeedhold_inFault {c : CmdCode} (hc : s.drivePending k = some c) (hstop : c.stoppedByFault = true)
    (hf : (s.seg k).state = .fault) : s.postFeedhold k = s.replaceCmd (s.segCfg k).nodeDrive .feedhold := by
  have hpending : s.pendingAt (s.segCfg k).nodeDrive = some c := hc
  have hother : c ≠ .feedhold := by rintro rfl; cases hstop
  have hsuperseded : s.supersededBy (s.segCfg k).nodeDrive .feedhold = some c := by
    simp [State.supersededBy, hpending, hother]
  have hfault : ((s.replaceCmd (s.segCfg k).nodeDrive .feedhold).seg k).state = .fault := by
    unfold State.replaceCmd
    split <;> exact hf
  simp only [State.postFeedhold, hsuperseded]
  cases c with
  | releaseAll => cases hstop
  | _ => simp [State.driveSuperseded, hfault]

/-- What a fault in a motion phase takes: the permit, and certainty down to what the last motion report leaves (R89). -/
def State.motionLost (s : State) (k : Nat) (cause : SegCause) : State :=
  if (s.seg k).state.inMotion then
    (s.lowerCertainty k (faultCertainty (s.seg k).motion cause)).setPermit k false
  else s

theorem State.motionLost_inMotion (h : (s.seg k).state.inMotion = true) {cause : SegCause} :
    s.motionLost k cause = (s.lowerCertainty k (faultCertainty (s.seg k).motion cause)).setPermit k false :=
  if_pos h

theorem State.motionLost_atRest (h : (s.seg k).state.inMotion = false) {cause : SegCause} :
    s.motionLost k cause = s :=
  if_neg (by rw [h]; decide)

theorem State.motionLost_seg (s : State) (k : Nat) (cause : SegCause) (j : Nat) :
    (s.motionLost k cause).seg j = s.seg j := by
  unfold State.motionLost
  split <;> rfl

theorem State.motionLost_segNumbers (s : State) (k : Nat) (cause : SegCause) :
    (s.motionLost k cause).segNumbers = s.segNumbers := by
  unfold State.motionLost
  split <;> rfl

/-- A segment with no room and no request enters FAULT (R89). -/
theorem State.scFault_noRoom (hk : k ∈ s.segNumbers) (hf : (s.seg k).state ≠ .fault) (hq : (s.seg k).state ≠ .queued)
    (hroom : (s.seg k).room = .none) {cause : SegCause} (hcause : cause ≠ .estop) :
    s.scFault k cause =
      (((s.motionLost k cause).modSeg k fun g => g.inFault cause).postMotionFault k cause).motionStopped k := by
  have hrecord : ((s.motionLost k cause).modSeg k fun g => g.inFault cause).seg k = (s.seg k).inFault cause := by
    rw [State.seg_modSeg_same (s.motionLost_segNumbers k cause ▸ hk), State.motionLost_seg]
  have hleaves : ((s.motionLost k cause).modSeg k fun g => g.inFault cause).leaveQueue k (s.seg k).state .fault
      = (s.motionLost k cause).modSeg k fun g => g.inFault cause := by
    rw [State.leaveQueue, if_neg hq, State.giveUpRoom_none (by rw [hrecord]; exact hroom)]
  simp only [State.scFault, if_neg hf]
  rw [show (if (s.seg k).state.inMotion then _ else s) = s.motionLost k cause from rfl, hleaves]
  simp only [State.motionStopped, ne_eq, hcause, not_false_eq_true, decide_true, Bool.true_and]
  split
  · next hany =>
    obtain ⟨c, hc, hstop⟩ := (Option.any_eq_true _ _).mp hany
    exact State.postFeedhold_inFault hc hstop (congrArg Segment.state hrecord :)
  · rfl

/-- MOTION_FAULT bears the certainty as it stands and the number of the segment's index (R89, R92). -/
theorem State.postMotionFault_eq {y : State} (hnumber : (y.seg k).indexNumber = (s.seg k).indexNumber)
    (cause : SegCause) :
    y.postMotionFault k cause = y.post .motionFault { kind := .segment, number := k } none
      (.motion cause (y.segMap k).certainty (s.seg k).indexNumber) := by
  rw [State.postMotionFault, hnumber]
  rfl

end

/-! ## The timers due -/

section
variable {s : State} {k : Nat} {tm : Timer} (hdue : s.due tm = true)
include hdue

theorem State.phaseExpires_due (h : (s.seg k).phase = .running tm) :
    s.phaseExpires k = s.scFault k .phaseTimeout := by
  simp only [State.phaseExpires, h, hdue, if_true]

theorem State.feedWaitExpires_due (h : (s.seg k).feedWait = some tm) :
    s.feedWaitExpires k
      = (s.post .feedGap (.segment k) none (.duration (s.segCfg k).tFeedWait)).scEnqueue k false := by
  simp only [State.feedWaitExpires, h, hdue, if_true]

theorem State.segClearExpires_due (h : (s.seg k).clear = some tm) :
    s.segClearExpires k = s.segClearFails k .phaseTimeout := by
  simp only [State.segClearExpires, h, hdue, if_true]

end

/-- An enqueue leaves the segment QUEUED, or takes it into LIFT at once (R78, R80). -/
theorem State.scEnqueue_state {s : State} {k : Nat} (hk : k ∈ s.segNumbers) (entryTaken : Bool) :
    ((s.scEnqueue k entryTaken).seg k).state = .queued ∨ ((s.scEnqueue k entryTaken).seg k).state = .lift := by
  refine State.adaEvaluate_queued ?_
  exact (congrArg Segment.state (State.seg_modSeg_same hk _) :)

theorem State.scEnqueue_clp (s : State) (k : Nat) (entryTaken : Bool) : (s.scEnqueue k entryTaken).clp = s.clp :=
  State.adaEvaluate_clp _

/-- Settles O52. -/
theorem segmentTimersEndTheirPhase : Obligations.SegmentTimersEndTheirPhase := by
  intro t k s tm hlimit x g inFault fell stopped faultEvent
  have hdue : x.due tm = true := State.due_of_le (s := x) hlimit
  have hstopped (y : State) (hsbm : y.sbm = s.sbm) (hcfg : y.cfg = s.cfg) : y.motionStopped k = stopped y := by
    have hpending : y.drivePending k = s.drivePending k := by
      simp only [State.drivePending, State.pendingAt, State.node, State.segCfg, hsbm, hcfg]
    simp only [stopped, State.motionStopped, hpending, Option.any_eq_true, CmdCode.stoppedByFault_iff,
      State.segCfg, hcfg]
  have hnumber (y : State) (hy : y.seg k = x.seg k) :
      ((inFault y).seg k).indexNumber = (x.seg k).indexNumber :=
    hy ▸ State.seg_modSeg_view Segment.indexNumber y k k _ fun _ => rfl
  have hfaults (y : State) (hy : y.seg k = x.seg k) (hsbm : y.sbm = s.sbm) (hcfg : y.cfg = s.cfg) :
      ((inFault y).postMotionFault k .phaseTimeout).motionStopped k = stopped (faultEvent (inFault y)) := by
    rw [State.postMotionFault_eq (hnumber y hy)]
    exact hstopped _ hsbm hcfg
  have hpresent (h : g.phase = .running tm) : k ∈ x.segNumbers :=
    State.mem_segNumbers_of_ne fun hfresh => nomatch (congrArg Segment.phase hfresh).symm.trans h
  have hphase (h : g.phase = .running tm) :
      exec (.phaseTimeout t k) s = .next (x.scFault k .phaseTimeout).closeEvent :=
    congrArg (fun u : State => Host.Outcome.next u.closeEvent) (State.phaseExpires_due hdue h)
  refine ⟨hphase, fun h hroom => ⟨fun hm => ?_, fun hw => ?_⟩, fun h => ?_, fun h => ?_⟩
  · have hmotion : (x.seg k).state.inMotion = true := by
      obtain hm | hm | hm := hm <;> rw [show (x.seg k).state = _ from hm] <;> rfl
    have hne {st : SegState} (hst : st.inMotion = false) : (x.seg k).state ≠ st := by
      rintro rfl
      rw [hmotion] at hst
      cases hst
    rw [hphase h, State.scFault_noRoom (hpresent h) (hne rfl) (hne rfl) hroom (by decide),
      State.motionLost_inMotion hmotion, faultCertainty_eq (by decide)]
    exact congrArg (fun u : State => Host.Outcome.next u.closeEvent) (hfaults _ rfl rfl rfl)
  · have hrest : (x.seg k).state.inMotion = false ∧ (x.seg k).state ≠ .fault ∧ (x.seg k).state ≠ .queued := by
      obtain hw | hw := hw <;> rw [show (x.seg k).state = _ from hw] <;> decide
    obtain ⟨hmotion, hf, hq⟩ := hrest
    rw [hphase h, State.scFault_noRoom (hpresent h) hf hq hroom (by decide), State.motionLost_atRest hmotion]
    exact congrArg (fun u : State => Host.Outcome.next u.closeEvent) (hfaults _ rfl rfl rfl)
  · have hk : k ∈ x.segNumbers :=
      State.mem_segNumbers_of_ne fun hfresh => nomatch (congrArg Segment.feedWait hfresh).symm.trans h
    let y := (x.post .feedGap (.segment k) none (.duration (s.segCfg k).tFeedWait)).scEnqueue k false
    have hy : x.feedWaitExpires k = y := State.feedWaitExpires_due hdue h
    have hline : y.lsv.lineState = s.lsv.lineState :=
      lineState_of_still (s := x) (by simp [y])
    have hstate : (y.seg k).state = .queued ∨ (y.seg k).state = .lift :=
      State.scEnqueue_state (s := x.post .feedGap (.segment k) none (.duration (s.segCfg k).tFeedWait)) hk false
    refine ⟨y.closeEvent, congrArg (fun u : State => Host.Outcome.next u.closeEvent) hy, ?_, fun hs => ?_,
      flowsTo_closeEvent (by simp [y])⟩
    · rwa [State.closeEvent_state] <;> obtain hstate | hstate := hstate <;> rw [hstate] <;> decide
    · rw [State.closeEvent_clp (hline ▸ hs), State.scEnqueue_clp]
      rfl
  · have hfails : x.segClearFails k .phaseTimeout = faultEvent (x.modSeg k fun g => { g with clear := none }) :=
      State.postMotionFault_eq
        (State.seg_modSeg_view Segment.indexNumber x k k (fun g => { g with clear := none }) fun _ => rfl) _
    exact congrArg (fun u : State => Host.Outcome.next u.closeEvent) ((State.segClearExpires_due hdue h).trans hfails)

end Sys2Proof.Machine
end

section
/-! PROOF. The grant pass of the merge arbiter (R115 to R117, R125 to R127), and CLEAR FAULT of segments and conveyors
(O36). -/

namespace Sys2Proof.Machine

/-! ## Reading a conveyor -/

theorem State.conv_modConv_same {s : State} {c : ConvId} (hc : c ∈ s.cvt.convs.map (·.1)) (f : Conveyor → Conveyor) :
    (s.modConv c f).conv c = f (s.conv c) := by
  obtain ⟨v, hv⟩ := tableGet_of_key hc
  simp only [State.conv, State.modConv, tableGet_modify_same, hv, Option.map_some, Option.getD_some]

/-- A conveyor whose record is not the one of COMMIT stands in the table. -/
theorem State.mem_convs_of_ne {s : State} {c : ConvId} (h : s.conv c ≠ .fresh) : c ∈ s.cvt.convs.map (·.1) := by
  cases hv : tableGet c s.cvt.convs with
  | some v => exact List.mem_map.mpr ⟨(c, v), mem_of_tableGet hv, rfl⟩
  | none => exact absurd (by simp only [State.conv, hv, Option.getD_none]) h

/-- A conveyor's record with what the flow of segments changes blanked. -/
def Conveyor.unreserved (v : Conveyor) : Conveyor := { v with reservations := [], requests := [] }

theorem conv_of_still {s u : State} (h : u.still = s.still) (c : ConvId) :
    (u.conv c).unreserved = (s.conv c).unreserved := by
  have hget (x : State) : (x.conv c).unreserved = (tableGet c x.still.cvt.convs).getD .fresh := by
    refine Eq.trans ?_ (congrArg (·.getD Conveyor.fresh) (tableGet_mapValues Conveyor.unreserved c x.cvt.convs).symm)
    simp only [State.conv]
    cases tableGet c x.cvt.convs <;> rfl
  rw [hget, hget, h]

theorem State.closeEvent_cvt (s : State) : s.closeEvent.cvt = s.cvt := by
  simp only [State.closeEvent]
  (repeat' split) <;> rfl

theorem State.closeEvent_conv (s : State) (c : ConvId) : s.closeEvent.conv c = s.conv c := by
  simp only [State.conv, State.closeEvent_cvt]

theorem State.needDrive_cvt (s : State) (k : Nat) (code : CmdCode) : (s.needDrive k code).cvt = s.cvt := by
  unfold State.needDrive
  split <;> rfl

theorem State.conv_cvtCarry (s : State) (k : Nat) (dest : Option ConvId) (c : ConvId) :
    (s.cvtCarry k dest).conv c = s.conv c
      ∨ (dest = some c ∧ (s.cvtCarry k dest).conv c
        = { s.conv c with reservations := carryReservation k (s.conv c).reservations }) := by
  unfold State.cvtCarry
  split
  · next d =>
    obtain h | ⟨rfl, h⟩ := s.conv_modConv d c fun v => { v with reservations := carryReservation k v.reservations }
    · exact .inl h
    · exact .inr ⟨rfl, h⟩
  · exact .inl rfl

theorem State.indexToOpen_dest {s : State} {k : Nat} {c : ConvId} (h : (s.indexToOpen k).dest = some c) :
    (s.seg k).room.heldDest = some c := by
  obtain ⟨-, -, hroom⟩ := Option.bind_eq_some_iff.mp h
  exact hroom

/-- At an admission CVT marks the reservation on the destination CARRIED, and does nothing else (R80, R117). -/
theorem State.conv_adaAdmit (s : State) (q : AdaRequest) (c : ConvId) :
    (s.adaAdmit q).conv c = s.conv c
      ∨ ((s.seg q.segment).room.heldDest = some c
        ∧ (s.adaAdmit q).conv c
          = { s.conv c with reservations := carryReservation q.segment (s.conv c).reservations }) := by
  let y := s.modAda fun a =>
    { a with r := a.r - q.demand, h := a.h ++ [s.clock], lastAny := some s.clock,
             lastSeg := tableInsert q.segment s.clock a.lastSeg, queue := dropRequest q.segment a.queue }
  let oi := y.indexToOpen q.segment
  let z := y.modSegMap q.segment fun m => { m with openIndex := some oi }
  have hcvt : (s.adaAdmit q).cvt = (z.cvtCarry q.segment oi.dest).cvt := State.needDrive_cvt _ _ _
  have hconv : (s.adaAdmit q).conv c = (z.cvtCarry q.segment oi.dest).conv c := by simp only [State.conv, hcvt]
  rw [hconv]
  obtain h | ⟨hdest, h⟩ := z.conv_cvtCarry q.segment oi.dest c
  · exact .inl h
  · exact .inr ⟨State.indexToOpen_dest (s := y) hdest, h⟩

/-! ## The feed of one segment (R77, R78) -/

/-- A property that the feed of segment k keeps: the Arbiter's bookkeeping with a request of k, the admission of a
queued request, and a change of k's own record. -/
structure KeptByFeed (k : Nat) (P : State → Prop) : Prop where
  books : ∀ (x : State) (f : Ada → Ada),
    (∀ j ∈ (f x.ada).queue.map (·.segment), j ∈ x.ada.queue.map (·.segment) ∨ j = k) → P x → P (x.modAda f)
  admits : ∀ (x : State) (q : AdaRequest), q.segment ∈ x.ada.queue.map (·.segment) → P x → P (x.adaAdmit q)
  record : ∀ (x : State) (f : Segment → Segment), P x → P (x.modSeg k f)

section
variable {k : Nat} {P : State → Prop} (h : KeptByFeed k P)
include h

theorem KeptByFeed.toAdmission : KeptByAdmission P :=
  ⟨fun x f hf => h.books x f fun j hj => .inl (hf j hj), h.admits⟩

theorem KeptByFeed.scEnqueue {s : State} (hs : P s) (entryTaken : Bool) : P (s.scEnqueue k entryTaken) := by
  refine h.toAdmission.adaEvaluate (h.books _ _ (fun j hj => ?_) (h.record s _ hs))
  rw [List.map_append] at hj
  exact (List.mem_append.mp hj).imp_right List.mem_singleton.mp

theorem KeptByFeed.scFeed {s : State} (hs : P s) : P (s.scFeed k) := by
  unfold State.scFeed
  (repeat' split)
  · exact h.scEnqueue hs true
  · exact h.scEnqueue hs false
  · exact h.record s _ hs
  · exact hs

theorem KeptByFeed.scRoomGranted {s : State} (hs : P s) (c : ConvId) : P (s.scRoomGranted k c) := by
  simp only [State.scRoomGranted]
  split
  · exact h.scFeed (h.record s _ hs)
  · exact h.record s _ hs

end

/-! ## Grants (R116, R127) -/

/-- A segment told of its room leaves every conveyor's requests as they are. -/
theorem State.scRoomGranted_requests (s : State) (k : Nat) (c d : ConvId) :
    ((s.scRoomGranted k c).conv d).requests = (s.conv d).requests := by
  refine KeptByFeed.scRoomGranted (P := fun x => (x.conv d).requests = (s.conv d).requests)
    ⟨fun _ _ _ hx => hx, fun x q _ hx => ?_, fun _ _ hx => hx⟩ rfl c
  obtain h | ⟨-, h⟩ := x.conv_adaAdmit q d
  · rw [h]; exact hx
  · rw [h]; exact hx

section
variable {s : State} {c : ConvId}

theorem State.mem_convs_of_request {h : Holder} (hr : h ∈ (s.conv c).requests) : c ∈ s.cvt.convs.map (·.1) :=
  State.mem_convs_of_ne fun hfresh => nomatch (congrArg Conveyor.requests hfresh : (s.conv c).requests = []) ▸ hr

theorem State.grantSegment_requests {k : Nat} (h : .segment k ∈ (s.conv c).requests) :
    ((s.grantSegment c k).conv c).requests = (s.conv c).requests.erase (.segment k) := by
  rw [State.grantSegment, State.scRoomGranted_requests, State.addReservation,
    State.conv_modConv_same (State.mem_convs_of_request h)]

theorem State.grantSpur_requests (h : .spur ∈ (s.conv .rc).requests) :
    (s.grantSpur.conv .rc).requests = (s.conv .rc).requests.erase .spur :=
  (congrArg Conveyor.requests (State.conv_modConv_same (State.mem_convs_of_request h) _) :)

/-! ## Grant passes over a buffer or VS (R115, R116) -/

theorem State.roomOpen_iff : s.roomOpen c = true ↔ (s.conv c).state = .flowing
    ∧ (s.list c).length + (s.conv c).reservations.length < s.cfg.line.capacity c := by
  simp only [State.roomOpen, Bool.and_eq_true, decide_eq_true_eq]
  rfl

theorem State.grantPass_rc : s.grantPass .rc = State.mergeRounds (s.conv .rc).requests.length s := if_pos rfl

theorem State.grantPass_buffer (hc : c ≠ .rc) :
    s.grantPass c = State.grantRounds c (s.conv c).requests.length s := if_neg hc

theorem grantRounds_closed (h : s.roomOpen c = false) (n : Nat) : State.grantRounds c n s = s := by
  cases n with
  | zero => rfl
  | succ n =>
    simp only [State.grantRounds, h]
    split <;> rfl

theorem mergeRounds_closed (h : s.roomOpen .rc = false) (n : Nat) : State.mergeRounds n s = s := by
  cases n with
  | zero => rfl
  | succ n =>
    simp only [State.mergeRounds, h]
    rfl

/-- Without room, or without a request, a pass changes nothing. -/
theorem State.grantPass_idle (h : s.roomOpen c = false ∨ (s.conv c).requests = []) : s.grantPass c = s := by
  by_cases hc : c = .rc
  · subst hc
    rw [State.grantPass_rc]
    obtain h | h := h
    · exact mergeRounds_closed h _
    · rw [h]; rfl
  · rw [State.grantPass_buffer hc]
    obtain h | h := h
    · exact grantRounds_closed h _
    · rw [h]; rfl

theorem State.grantPass_segment {k : Nat} {rest : List Holder} (hc : c ≠ .rc) (hopen : s.roomOpen c = true)
    (hreq : (s.conv c).requests = .segment k :: rest) : s.grantPass c = (s.grantSegment c k).grantPass c := by
  have hleft : ((s.grantSegment c k).conv c).requests = rest := by
    rw [State.grantSegment_requests (by simp [hreq]), hreq, List.erase_cons_head]
  rw [State.grantPass_buffer hc, State.grantPass_buffer hc, hleft, hreq]
  simp only [List.length_cons, State.grantRounds, hreq, hopen, if_true]

/-! ## Passes of the merge arbiter (R125, R126) -/

/-- A round that grants one of the waiting requests is followed by the pass over the others. -/
theorem State.grantPass_merge {u : State} {h : Holder} (hmem : h ∈ (s.conv .rc).requests)
    (hleft : (u.conv .rc).requests = (s.conv .rc).requests.erase h)
    (hround : ∀ n, State.mergeRounds (n + 1) s = State.mergeRounds n u) : s.grantPass .rc = u.grantPass .rc := by
  have hcount : (s.conv .rc).requests.length = (u.conv .rc).requests.length + 1 := by
    rw [hleft, List.length_erase_of_mem hmem, Nat.sub_one_add_one (List.length_pos_of_mem hmem).ne']
  rw [State.grantPass_rc, State.grantPass_rc, hcount, hround]

theorem State.spurEligible_iff : s.spurEligible = true ↔ .spur ∈ (s.conv .rc).requests
    ∧ (s.lsv.lineState = .run ∨ s.lsv.lineState = .stopping) ∧ s.cvt.staleRelease = false := by
  simp only [State.spurEligible, State.moving, Bool.and_eq_true, Bool.or_eq_true, decide_eq_true_eq,
    Bool.not_eq_true', List.contains_iff_mem, and_assoc]

section
variable (hopen : s.roomOpen .rc = true)
include hopen

theorem State.grantPass_lineAlone {k : Nat} (hline : lineRequest (s.conv .rc).requests = some k)
    (hspur : s.spurEligible = false) : s.grantPass .rc = (s.grantSegment .rc k).grantPass .rc := by
  have hmem := mem_of_lineRequest hline
  refine State.grantPass_merge hmem (State.grantSegment_requests hmem) fun n => ?_
  simp only [State.mergeRounds, hopen, if_true, hline, hspur]

theorem State.grantPass_lineFirst {k : Nat} (hline : lineRequest (s.conv .rc).requests = some k)
    (hspur : s.spurEligible = true) (hturn : s.cvt.passOver < s.cfg.line.m) :
    s.grantPass .rc = ((s.setPassOver (s.cvt.passOver + 1)).grantSegment .rc k).grantPass .rc := by
  have hmem := mem_of_lineRequest hline
  refine State.grantPass_merge hmem (State.grantSegment_requests (s := s.setPassOver _) hmem) fun n => ?_
  simp only [State.mergeRounds, hopen, if_true, hline, hspur, hturn]

theorem State.grantPass_spurFirst (hspur : s.spurEligible = true)
    (hturn : lineRequest (s.conv .rc).requests = none ∨ s.cfg.line.m ≤ s.cvt.passOver) :
    s.grantPass .rc = ((s.setPassOver 0).grantSpur).grantPass .rc := by
  have hmem := (State.spurEligible_iff.mp hspur).1
  refine State.grantPass_merge hmem (State.grantSpur_requests (s := s.setPassOver 0) hmem) fun n => ?_
  cases hline : lineRequest (s.conv .rc).requests with
  | none => simp only [State.mergeRounds, hopen, if_true, hline, hspur]
  | some k =>
    have hover : ¬ s.cvt.passOver < s.cfg.line.m := Nat.not_lt.mpr (hturn.resolve_left (by simp [hline]))
    simp only [State.mergeRounds, hopen, if_true, hline, hspur, hover, if_false]

theorem State.grantPass_nobody (hline : lineRequest (s.conv .rc).requests = none)
    (hspur : s.spurEligible = false) : s.grantPass .rc = s := by
  rw [State.grantPass_rc]
  cases (s.conv .rc).requests.length with
  | zero => rfl
  | succ n => simp only [State.mergeRounds, hopen, if_true, hline, hspur]

end

end

/-! ## The reservation of a granted segment (R116, R117) -/

/-- Only one segment's exit pallet may go to a conveyor (R76). -/
theorem State.mayReach_unique {s : State} {j k : Nat} {c : ConvId} (hj : s.mayReach j c) (hk : s.mayReach k c) :
    j = k := by
  unfold State.mayReach at hj hk
  obtain ⟨hj, hj3, hcj⟩ | ⟨hj, hcj⟩ := hj <;> obtain ⟨hk, hk3, hck⟩ | ⟨hk, hck⟩ := hk
  · exact hcj.symm.trans hck
  · rcases hck with rfl | rfl <;> simp only [ConvId.number] at hcj <;> omega
  · rcases hcj with rfl | rfl <;> simp only [ConvId.number] at hck <;> omega
  · exact hj.trans hk.symm

/-- Marking twice is marking once. -/
theorem carryReservation_idem (k : Nat) (l : List Reservation) :
    carryReservation k (carryReservation k l) = carryReservation k l := by
  simp only [carryReservation, List.map_map]
  refine List.map_congr_left fun r _ => ?_
  simp only [Function.comp]
  split <;> simp_all

theorem Room.conveyor_of_heldDest {r : Room} {c : ConvId} (h : r.heldDest = some c) : r.conveyor = some c := by
  cases r with
  | held d => exact h
  | none => cases h
  | requested d => cases h

/-- No other queued segment than k holds room on the conveyor c, whose reservations are `l`, with k's marked CARRIED
or not. -/
structure State.ReservesFor (s : State) (k : Nat) (c : ConvId) (l : List Reservation) : Prop where
  others : ∀ j ∈ s.ada.queue.map (·.segment), j ≠ k → (s.seg j).room.heldDest ≠ some c
  reservations : (s.conv c).reservations = l ∨ (s.conv c).reservations = carryReservation k l

/-- The feed of k marks at most k's own reservation CARRIED. -/
theorem State.ReservesFor.kept (k : Nat) (c : ConvId) (l : List Reservation) :
    KeptByFeed k fun x => x.ReservesFor k c l where
  books x f hf hx := ⟨fun j hj hne => hx.others j ((hf j hj).resolve_right hne) hne, hx.reservations⟩
  record x f hx := by
    refine ⟨fun j hj hne => ?_, hx.reservations⟩
    obtain h | ⟨hk, -⟩ := x.seg_modSeg k j f
    · rw [h]; exact hx.others j hj hne
    · exact absurd hk hne
  admits x q hq hx := by
    refine ⟨fun j hj hne => ?_, ?_⟩
    · have hqueued : j ∈ x.ada.queue.map (·.segment) := by
        rw [State.adaAdmit, State.scAdmitted_ada] at hj
        obtain ⟨r, hr, rfl⟩ := List.mem_map.mp hj
        exact List.mem_map_of_mem (List.mem_of_mem_filter hr)
      obtain ⟨owed, h⟩ | ⟨-, owed, h⟩ := x.seg_adaAdmit q j
      · rw [h]; exact hx.others j hqueued hne
      · rw [h]; exact nofun
    · obtain h | ⟨hdest, h⟩ := x.conv_adaAdmit q c
      · rw [h]; exact hx.reservations
      · have hk : q.segment = k := by
          by_contra hne
          exact hx.others _ hq hne hdest
        rw [h, hk]
        refine .inr ?_
        obtain hl | hl := hx.reservations
        · rw [hl]
        · rw [hl, carryReservation_idem]

theorem State.grantSegment_reservations {s : State} {c : ConvId} {k : Nat} (hs : s.MapSound)
    (hreq : .segment k ∈ (s.conv c).requests) (hc : c ∈ s.cvt.convs.map (·.1)) (hk : k ∈ s.segNumbers) :
    (s.grantSegment c k).ReservesFor k c
      ((s.conv c).reservations ++ [{ holder := .segment k, status := .held }]) := by
  have hroom : (s.seg k).room = .requested c := (hs.conveyors c hc).requests _ hreq
  have hreach : s.mayReach k c := (hs.segments k hk).own.1 c (by rw [hroom]; rfl)
  refine (State.ReservesFor.kept k c _).scRoomGranted ⟨fun j hj hne hdest => hne ?_, .inl ?_⟩ c
  · obtain ⟨q, hq, rfl⟩ := List.mem_map.mp hj
    have hother := (hs.segments _ (hs.queue.2 q hq)).own.1 c (Room.conveyor_of_heldDest hdest)
    exact State.mayReach_unique hother hreach
  · rw [State.addReservation, State.conv_modConv_same hc]

/-! ## Clears (R91, R124) -/

theorem NodeStatus.absent_of {x : NodeStatus} (h : x = .lost ∨ x = .unseen) : x.absent = true := by
  rcases h with rfl | rfl <;> rfl

theorem headAgrees_iff (head : Bool) (l : List Entry) : headAgrees head l = true ↔
    (head = true ∧ ∃ e rest, l = e :: rest ∧ e.state = .arrived)
      ∨ (head = false ∧ ∀ e rest, l = e :: rest → e.state = .inTransit) := by
  cases l with
  | nil => cases head <;> simp [headAgrees]
  | cons e rest => cases head <;> cases h : e.state <;> simp [headAgrees, h]

section
variable {s : State} (hl : s.lsv.lineState = .idle ∨ s.lsv.lineState = .run)
include hl

theorem State.closeEvent_idle_run : s.closeEvent = s.takeNotices := by
  refine State.closeEvent_notices ?_ ?_ <;> rcases hl with h | h <;> simp [h]

section
variable {k : Nat} (h1 : 1 ≤ k) (h4 : k ≤ 4) (hn : k ≤ s.nseg) (hf : (s.seg k).state = .fault)
  (hclear : (s.seg k).clear = none)
include h1 h4 hn hf hclear

/-- A segment in FAULT with no clear pending, past the checks of its number and the line state (R91). -/
theorem State.requestClearSegment_eq : s.requestClearSegment k =
    if !s.certain k || (s.seg k).node.absent || (s.drivePending k).isSome then (s, .interlock)
    else (((s.postDrive k .resetFault).modSeg k fun g =>
      { g with clear := some (s.timerFor (s.segCfg k).tReturnMax) }).closeEvent, okEmpty) := by
  have hnumber : (k = 0 || 4 < k : Bool) = false := by
    simp only [Bool.or_eq_false_iff, decide_eq_false_iff_not]
    omega
  have hconfig : s.lsv.lineState ≠ .config := by rcases hl with h | h <;> rw [h] <;> decide
  rw [State.requestClearSegment]
  simp only [hnumber, hconfig, Nat.not_lt.mpr hn, State.lineIn_idle_run hl, hf, hclear, Bool.false_eq_true, if_false,
    Bool.not_true, ne_eq, not_true_eq_false, Option.isSome_none]

theorem State.requestClearSegment_posts (hnode : (s.seg k).node.absent = false) (hpend : s.drivePending k = none)
    (hc : s.certain k = true) : s.requestClearSegment k =
      (((s.postDrive k .resetFault).modSeg k fun g =>
        { g with clear := some (s.timerFor (s.segCfg k).tReturnMax) }).takeNotices, okEmpty) := by
  rw [State.requestClearSegment_eq hl h1 h4 hn hf hclear, State.closeEvent_idle_run (by exact hl)]
  simp [hnode, hpend, hc]

theorem State.requestClearSegment_refused
    (h : (s.seg k).node.absent = true ∨ s.drivePending k ≠ none ∨ s.certain k = false) :
    s.requestClearSegment k = (s, .interlock) := by
  rw [State.requestClearSegment_eq hl h1 h4 hn hf hclear, if_pos]
  rcases h with h | h | h
  · simp [h]
  · simp [Option.isSome_iff_ne_none.mpr h]
  · simp [h]

end

variable {n : Nat} {c : ConvId} (hnumber : ConvId.ofNumber n = some c) (hc : c ∈ convsInService s.nseg)
include hnumber hc

theorem State.requestClearConveyor_flowing (h : (s.conv c).state = .flowing) :
    s.requestClearConveyor n = (s, .state) := by
  simp [State.requestClearConveyor, State.lineIn_idle_run hl, hnumber, hc, h]

theorem State.requestClearConveyor_refused (h : (s.conv c).state = .jammed)
    (hkept : (s.conv c).node.absent = true ∨ s.clearAgrees c = false) :
    s.requestClearConveyor n = (s, .interlock) := by
  rcases hkept with hkept | hkept <;>
    simp [State.requestClearConveyor, State.lineIn_idle_run hl, hnumber, hc, h, hkept]

theorem State.requestClearConveyor_clears (h : (s.conv c).state = .jammed) (hnode : (s.conv c).node.absent = false)
    (hagrees : s.clearAgrees c = true) :
    s.requestClearConveyor n = ((s.clearConveyor c).closeEvent, okEmpty) := by
  simp [State.requestClearConveyor, State.lineIn_idle_run hl, hnumber, hc, h, hnode, hagrees]

end

/-- The IN_TRANSIT entries all bear the instant as entry time after a restamp (R124). -/
theorem oldestInTransit_restamp {t : LineTime} {l : List Entry} {e : Entry}
    (h : oldestInTransit (restampInTransit t l) = some e) : e.entryTime = t := by
  induction l with
  | nil => cases h
  | cons a rest ih =>
    by_cases ha : a.state = .inTransit
    · simp only [restampInTransit, List.map_cons, oldestInTransit, ha, if_true, Option.some.injEq] at h
      rw [← h]
    · simp only [restampInTransit, List.map_cons, oldestInTransit, ha, if_false] at h
      exact ih h

theorem State.list_setList_restamp (s : State) (c : ConvId) (t : LineTime) :
    (s.setList c (restampInTransit t (s.list c))).list c = restampInTransit t (s.list c) := by
  simp only [State.list, State.setList, tableGet_modify_same]
  cases tableGet c s.trk.lists <;> rfl

/-- The conveyor FLOWING again, its list restamped and its travel timer set from the instant (R124). -/
def State.unjammed (s : State) (c : ConvId) : State :=
  (s.setList c (restampInTransit s.clock (s.list c))).modConv c fun v =>
    { v with state := .flowing, cause := none,
             travel := (oldestInTransit (restampInTransit s.clock (s.list c))).map fun _ =>
               { start := s.clock, limit := s.cfg.line.travel c } }

theorem State.clearConveyor_eq {s : State} {c : ConvId} (hc : c ∈ s.cvt.convs.map (·.1))
    (hl : s.lsv.lineState ≠ .halt) : s.clearConveyor c = (s.unjammed c).grantPass c := by
  let y := (s.modConv c fun v => { v with state := .flowing, cause := none }).setList c
    (restampInTransit s.clock (s.list c))
  have hflowing : (y.conv c).state = .flowing :=
    (congrArg Conveyor.state (State.conv_modConv_same hc fun v => { v with state := .flowing, cause := none }) :)
  have hlist : y.list c = restampInTransit s.clock (s.list c) := s.list_setList_restamp c s.clock
  have htravel : y.travelFor c = (oldestInTransit (restampInTransit s.clock (s.list c))).map fun _ =>
      { start := s.clock, limit := s.cfg.line.travel c } := by
    rw [State.travelFor, hflowing, hlist, if_pos (by simp [show y.lsv.lineState ≠ .halt from hl])]
    cases he : oldestInTransit (restampInTransit s.clock (s.list c)) with
    | none => rfl
    | some e => simp only [Option.map_some, oldestInTransit_restamp he]; rfl
  have hset : y.setTravel c = s.unjammed c := by
    rw [State.setTravel, htravel]
    simp only [State.modConv, State.unjammed, y, State.setList, tableModify_modify]
  exact congrArg (State.grantPass · c) hset

/-- Settles O36. -/
theorem clearFaultOfSegmentsAndConveyors : Obligations.ClearFaultOfSegmentsAndConveyors := by
  refine ⟨fun t tag b s hready hline => ?_, fun l head => headAgrees_iff head l, fun s c => State.roomOpen_iff,
    fun s c => State.grantPass_idle, fun s c k rest => State.grantPass_segment, fun s hopen => ?_,
    fun s c k hs hreq hc hk => (State.grantSegment_reservations hs hreq hc hk).reservations, fun s => rfl⟩
  · intro x k
    have hl : x.lsv.lineState = .idle ∨ x.lsv.lineState = .run := hline
    have hsegment := exec_clearFaultSegment hready t tag b
    have hconveyor := exec_clearFaultConveyor hready t tag b
    refine ⟨fun h1 h4 hn hf hclear => ⟨fun hlost hunseen hpend => ⟨fun hc => ?_, fun hc => ?_⟩, fun h => ?_⟩,
      fun c hnumber hc => ⟨fun hjam hlost hunseen count head hrep hhead => ?_, fun hjam h => ?_, fun hflow => ?_⟩⟩
    · rw [hsegment, State.requestClearSegment_posts (s := x) hl h1 h4 hn hf hclear
        (NodeStatus.absent_eq_false hlost hunseen) hpend hc]
      rfl
    · rw [hsegment, State.requestClearSegment_refused (s := x) hl h1 h4 hn hf hclear (.inr (.inr hc))]
    · rw [hsegment, State.requestClearSegment_refused (s := x) hl h1 h4 hn hf hclear]
      rcases h with h | h | h | h
      · exact .inl (NodeStatus.absent_of (.inl h))
      · exact .inl (NodeStatus.absent_of (.inr h))
      · exact .inr (.inl h)
      · exact .inr (.inr h)
    · intro l y u
      have hpresent : c ∈ x.cvt.convs.map (·.1) :=
        State.mem_convs_of_ne fun hfresh => nomatch (congrArg Conveyor.state hfresh).symm.trans hjam
      have hhalt : x.lsv.lineState ≠ .halt := by rcases hl with hl | hl <;> rw [hl] <;> decide
      have hagrees : x.clearAgrees c = true := by
        simp only [State.clearAgrees, show (x.conv c).report = _ from hrep, Bool.not_false, Bool.true_and]
        exact hhead
      have hclears : x.clearConveyor c = y.grantPass c := State.clearConveyor_eq hpresent hhalt
      have hrecord : (u.conv c).unreserved = (y.conv c).unreserved := by
        rw [State.closeEvent_conv]
        exact conv_of_still (State.grantPass_still y c) c
      have hy : y.conv c = _ := State.conv_modConv_same (s := x.setList c l) hpresent _
      refine ⟨?_, ?_, ?_, ?_, worksTo_closeEvent (by simp [y])⟩
      · rw [hconveyor, State.requestClearConveyor_clears (s := x) hl hnumber hc hjam
          (NodeStatus.absent_eq_false hlost hunseen) hagrees, hclears]
        rfl
      · rw [State.closeEvent_trk, lists_of_map (WorkView.grantPass mapView y c)]
        rfl
      · exact (congrArg Conveyor.state hrecord).trans (congrArg Conveyor.state hy)
      · exact (congrArg Conveyor.cause hrecord).trans (congrArg Conveyor.cause hy)
    · rw [hconveyor, State.requestClearConveyor_refused (s := x) hl hnumber hc hjam]
      rcases h with h | h | h | ⟨count, jam, head, hrep, h⟩
      · exact .inl (NodeStatus.absent_of (.inl h))
      · exact .inl (NodeStatus.absent_of (.inr h))
      · exact .inr (by simp only [State.clearAgrees, show (x.conv c).report = none from h])
      · refine .inr ?_
        simp only [State.clearAgrees, show (x.conv c).report = _ from hrep]
        rcases h with h | h
        · rw [h]; rfl
        · rw [show headAgrees head (x.list c) = false from h, Bool.and_false]
    · rw [hconveyor, State.requestClearConveyor_flowing (s := x) hl hnumber hc hflow]
  · intro waits count
    have hwaits : waits ↔ s.spurEligible = true := State.spurEligible_iff.symm
    refine ⟨fun k hline => ⟨fun hw => ?_, fun hw => ?_, fun hw => ?_⟩, fun hline => ⟨fun hw => ?_, fun hw => ?_⟩⟩
    · exact State.grantPass_lineFirst hopen hline (hwaits.mp hw)
    · exact fun hover => State.grantPass_spurFirst hopen (hwaits.mp hw) (.inr hover)
    · exact State.grantPass_lineAlone hopen hline (by rwa [← Bool.not_eq_true, ← hwaits])
    · exact State.grantPass_spurFirst hopen (hwaits.mp hw) (.inl hline)
    · exact State.grantPass_nobody hopen hline (by rwa [← Bool.not_eq_true, ← hwaits])

end Sys2Proof.Machine
end

section
/-! PROOF. What the work of other segments, and of a segment's own way to its admission, keeps of one segment: its feed
hold (R83, R84), its motion, and a FEEDHOLD that is pending at its drive (R168). One law for each operation, for every
property that the updates it is made of keep. -/

namespace Sys2Proof.Machine

/-- What HOLD and CONTINUE decide on in a segment's record (R83, R84). -/
def Segment.holdPart (g : Segment) : Bool × HoldStatus × Bool × Bool := (g.held, g.hold, g.resumeWanted, g.owed.resume)

/-- An address at which the flow posts for another block than a Segment Controller. -/
def State.postsBeside (s : State) (a : Nat) : Prop :=
  a = s.cfg.line.nodeVs ∨ ∃ n r, s.stationCfg n = some r ∧ r.node = a

/-- A property of segment k that the flow keeps: every update beside the segment records, the bus and the
configuration; every change of another segment's record; of k's own record every change that leaves its hold part and
leaves or starts its motion, and, unless the property holds in motion only, every change that leaves its hold part; the
commands that the flow puts to the drives; and those it posts elsewhere. -/
structure KeptByFlow (k : Nat) (P : State → Prop) : Prop where
  beside : ∀ x u : State, u.sc = x.sc → u.sbm = x.sbm → u.cfg = x.cfg → P x → P u
  other : ∀ (x : State) (j : Nat) (f : Segment → Segment), j ≠ k → P x → P (x.modSeg j f)
  moves : ∀ (x : State) (f : Segment → Segment),
    (∀ g, (f g).holdPart = g.holdPart ∧ ((f g).state = g.state ∨ (f g).state.inMotion = true)) → P x → P (x.modSeg k f)
  own : (∀ (x : State) (f : Segment → Segment), (∀ g, (f g).holdPart = g.holdPart) → P x → P (x.modSeg k f))
    ∨ ∀ x : State, P x → (x.seg k).state.inMotion = true
  drive : ∀ (x : State) (j : Nat) (code : CmdCode), (j = k → code = .lift ∨ code = .releaseAll) → P x →
    P (x.needDrive j code)
  command : ∀ (x : State) (a : Nat) (code : CmdCode) (args : List Byte), x.postsBeside a → P x →
    P (x.postCmd a code args)
  feedhold : ∀ (x : State) (a : Nat), P x → P (x.replaceCmd a .feedhold)

/-- A segment whose record the flow may change freely but for its hold part. -/
def MayChange (k : Nat) (P : State → Prop) (j : Nat) : Prop :=
  j ≠ k ∨ ∀ (x : State) (f : Segment → Segment), (∀ g, (f g).holdPart = g.holdPart) → P x → P (x.modSeg k f)

section
variable {k : Nat} {P : State → Prop} (h : KeptByFlow k P)
include h

theorem KeptByFlow.past {s u : State} (hs : P s) (hsc : u.sc = s.sc) (hsbm : u.sbm = s.sbm) (hcfg : u.cfg = s.cfg) :
    P u := h.beside s u hsc hsbm hcfg hs

/-! ## A segment's record -/

theorem KeptByFlow.modSeg {s : State} (hs : P s) (j : Nat) (f : Segment → Segment)
    (hf : ∀ g, (f g).holdPart = g.holdPart ∧ ((f g).state = g.state ∨ (f g).state.inMotion = true)) :
    P (s.modSeg j f) := by
  by_cases hj : j = k
  · exact hj ▸ h.moves s f hf hs
  · exact h.other s j f hj hs

theorem KeptByFlow.modSeg_free {s : State} (hs : P s) {j : Nat} (hj : MayChange k P j) (f : Segment → Segment)
    (hf : ∀ g, (f g).holdPart = g.holdPart) : P (s.modSeg j f) := by
  by_cases hjk : j = k
  · subst hjk
    exact (hj.resolve_left (fun hne => hne rfl)) s f hf hs
  · exact h.other s j f hjk hs

/-- A segment at rest may change: a property that holds in motion only is not of it. -/
theorem KeptByFlow.mayChange {s : State} (hs : P s) {j : Nat} {st : SegState} (hst : (s.seg j).state = st)
    (hrest : st.inMotion = false) : MayChange k P j := by
  by_cases hj : j = k
  · subst hj
    refine .inr (h.own.resolve_right fun hmotion => ?_)
    rw [← hst, hmotion s hs] at hrest
    cases hrest
  · exact .inl hj

/-! ## Admission and feed -/

theorem KeptByFlow.cvtCarry {s : State} (hs : P s) (j : Nat) (dest : Option ConvId) : P (s.cvtCarry j dest) := by
  unfold State.cvtCarry
  split
  · exact h.past hs rfl rfl rfl
  · exact hs

theorem KeptByFlow.scAdmitted {s : State} (hs : P s) (j : Nat) : P (s.scAdmitted j) := by
  let y := s.modSegMap j fun m => { m with openIndex := some (s.indexToOpen j) }
  have hcarried : P (y.cvtCarry j (s.indexToOpen j).dest) := h.cvtCarry (h.past (u := y) hs rfl rfl rfl) j _
  exact h.drive _ j .lift (fun _ => .inl rfl) (h.modSeg hcarried j Segment.admitted fun _ => ⟨rfl, .inr rfl⟩)

theorem KeptByFlow.toAdmission : KeptByAdmission P :=
  ⟨fun _ _ _ hx => h.past hx rfl rfl rfl, fun x q _ hx =>
    h.scAdmitted (h.past (u := (x.modAda _)) hx rfl rfl rfl) q.segment⟩

theorem KeptByFlow.adaEvaluate {s : State} (hs : P s) : P s.adaEvaluate := h.toAdmission.adaEvaluate hs

theorem KeptByFlow.adaWithdraw {s : State} (hs : P s) (j : Nat) : P (s.adaWithdraw j) :=
  h.adaEvaluate (h.past hs rfl rfl rfl)

theorem KeptByFlow.scEnqueue {s : State} (hs : P s) {j : Nat} (hj : MayChange k P j) (entryTaken : Bool) :
    P (s.scEnqueue j entryTaken) := by
  have hqueued : P (s.modSeg j fun g => { g with
      state := .queued, feedWait := none,
      queued := some {
        entryTaken := entryTaken,
        n := occupied (s.nests j) - (if (s.exitPallet j).isSome then 1 else 0) + (if entryTaken then 1 else 0),
        enqueued := s.clock } }) := h.modSeg_free hs hj _ fun _ => rfl
  exact h.adaEvaluate (h.past hqueued rfl rfl rfl)

theorem KeptByFlow.scFeed {s : State} (hs : P s) {j : Nat} (hj : MayChange k P j) : P (s.scFeed j) := by
  unfold State.scFeed
  (repeat' split)
  · exact h.scEnqueue hs hj true
  · exact h.scEnqueue hs hj false
  · exact h.modSeg hs j _ fun _ => ⟨rfl, .inl rfl⟩
  · exact hs

theorem KeptByFlow.stopFeed {s : State} (hs : P s) (j : Nat) : P (s.stopFeed j) :=
  h.modSeg hs j _ fun _ => ⟨rfl, .inl rfl⟩

/-! ## Room -/

theorem KeptByFlow.grantSegment {s : State} (hs : P s) (c : ConvId) (j : Nat) : P (s.grantSegment c j) := by
  have hadded : P (s.addReservation c (.segment j) .held) := h.past hs rfl rfl rfl
  have hheld := h.modSeg hadded j (fun g => { g with room := .held c }) fun _ => ⟨rfl, .inl rfl⟩
  simp only [State.grantSegment, State.scRoomGranted]
  split
  · next hready =>
    have hstate := of_decide_eq_true (Bool.and_eq_true_iff.mp hready).2
    exact h.scFeed hheld (h.mayChange hadded hstate rfl)
  · exact hheld

theorem KeptByFlow.grantSpur {s : State} (hs : P s) : P s.grantSpur :=
  h.command (s.addReservation .rc .spur .releasing) _ .release [] (.inl rfl) (h.past hs rfl rfl rfl)

theorem KeptByFlow.grantRounds {s : State} (hs : P s) (c : ConvId) (n : Nat) : P (State.grantRounds c n s) := by
  induction n generalizing s with
  | zero => exact hs
  | succ n ih =>
    simp only [State.grantRounds]
    (repeat' split)
    · exact ih (h.grantSegment hs c _)
    · exact hs
    · exact hs

theorem KeptByFlow.mergeRounds {s : State} (hs : P s) (n : Nat) : P (State.mergeRounds n s) := by
  induction n generalizing s with
  | zero => exact hs
  | succ n ih =>
    have hpass (m : Nat) : P (s.setPassOver m) := h.past hs rfl rfl rfl
    simp only [State.mergeRounds]
    (repeat' split)
    · exact ih (h.grantSegment (hpass _) .rc _)
    · exact ih (h.grantSpur (hpass 0))
    · exact ih (h.grantSpur (hpass 0))
    · exact ih (h.grantSegment hs .rc _)
    · exact hs
    · exact hs

theorem KeptByFlow.grantPass {s : State} (hs : P s) (c : ConvId) : P (s.grantPass c) := by
  unfold State.grantPass
  split
  · exact h.mergeRounds hs _
  · exact h.grantRounds hs c _

theorem KeptByFlow.releaseRoom {s : State} (hs : P s) (c : ConvId) (holder : Holder) : P (s.releaseRoom c holder) :=
  h.grantPass (h.past (u := s.removeReservation c holder) hs rfl rfl rfl) c

theorem KeptByFlow.requestRoom {s : State} (hs : P s) (c : ConvId) (holder : Holder) : P (s.requestRoom c holder) :=
  h.grantPass (h.past (u := s.modConv c fun v => { v with requests := v.requests ++ [holder] }) hs rfl rfl rfl) c

theorem KeptByFlow.giveUpRoom {s : State} (hs : P s) (j : Nat) : P (s.giveUpRoom j) := by
  have hleft := h.modSeg hs j (fun g => { g with room := .none }) fun _ => ⟨rfl, .inl rfl⟩
  simp only [State.giveUpRoom]
  split
  · exact hs
  · exact h.past hleft rfl rfl rfl
  · exact h.releaseRoom hleft _ _

theorem KeptByFlow.divertChoice {s : State} (hs : P s) (id : Nat) : P (s.divertChoice id) := by
  simp only [State.divertChoice, State.postpone]
  (repeat' split)
  · exact h.past hs rfl rfl rfl
  · exact h.past hs rfl rfl rfl
  · exact hs

theorem KeptByFlow.seekRoom {s : State} (hs : P s) (j id : Nat) : P (s.seekRoom j id) := by
  simp only [State.seekRoom]
  have hchosen : P (if j < s.nseg then s else s.divertChoice id) := by
    split
    · exact hs
    · exact h.divertChoice hs id
  have hseeks := h.modSeg hchosen j (fun g => { g with
    room := .requested (if j < s.nseg then bufferId j else s.divertDest id) }) fun _ => ⟨rfl, .inl rfl⟩
  exact h.requestRoom hseeks _ _

/-! ## Tests and withdrawals -/

theorem KeptByFlow.scTest {s : State} (hs : P s) (j : Nat) : P (s.scTest j) := by
  unfold State.scTest
  split
  · next hready =>
    have hj := h.mayChange hs (of_decide_eq_true (Bool.and_eq_true_iff.mp hready).2) rfl
    (repeat' split)
    · exact h.scFeed (h.giveUpRoom hs j) hj
    · exact h.seekRoom (h.stopFeed hs j) j _
    · exact h.stopFeed hs j
    · exact h.scFeed hs hj
    · exact h.stopFeed (h.giveUpRoom hs j) j
  · exact hs

theorem KeptByFlow.scMaybeReady {s : State} (hs : P s) (j : Nat) : P (s.scMaybeReady j) := by
  unfold State.scMaybeReady
  split
  · next hwork =>
    simp only [Bool.and_eq_true, decide_eq_true_eq] at hwork
    obtain ⟨⟨⟨-, hstate⟩, -⟩, -⟩ := hwork
    exact h.scTest (h.modSeg_free hs (h.mayChange hs hstate rfl) (fun g => { g with state := .ready }) fun _ => rfl) j
  · exact hs

theorem KeptByFlow.scWithdraw {s : State} (hs : P s) {j : Nat} (hj : MayChange k P j) (target : SegState)
    (releaseIt : Bool) : P (s.scWithdraw j target releaseIt) := by
  have hleft := h.adaWithdraw (h.modSeg_free hs hj
    (fun g => { g with state := target, queued := none, room := .none }) fun _ => rfl) j
  simp only [State.scWithdraw]
  (repeat' split)
  · exact h.releaseRoom hleft _ _
  · exact hleft
  · exact hleft

theorem KeptByFlow.scStationsFree {s : State} (hs : P s) (j : Nat) (free : Bool) : P (s.scStationsFree j free) := by
  have htold := h.modSeg hs j (fun g => { g with stationsFree := free }) fun _ => ⟨rfl, .inl rfl⟩
  simp only [State.scStationsFree]
  split
  · exact h.scMaybeReady htold j
  · split
    · next hstate =>
      have hworks := h.modSeg_free htold (h.mayChange hs hstate rfl) (fun g => { g with state := .work })
        fun _ => rfl
      exact h.stopFeed (h.giveUpRoom hworks j) j
    · next hstate => exact h.scWithdraw htold (h.mayChange hs hstate rfl) _ _
    · exact htold

/-! ## The stations' part -/

theorem KeptByFlow.sqsAfter {s : State} (hs : P s) (j : Nat) : P (s.sqsAfter j) := by
  have hended : P (if s.common j = .running && !((s.stationsOn j).any fun p => p.2.underCommon) then
      s.setCommon j .none else s) := by
    split
    · exact h.past hs rfl rfl rfl
    · exact hs
  have hdue (y : State) (hy : P y) :
      P (if y.commonDue j then (y.setCommon j .requested).scReleaseAllDue j else y) := by
    split
    · exact h.drive _ j .releaseAll (fun _ => .inr rfl) (h.past (u := (y.setCommon j .requested)) hy rfl rfl rfl)
    · exact hy
  have htold (y : State) (hy : P y) :
      P (if (y.seg j).stationsFree ≠ y.allFree j then y.scStationsFree j (y.allFree j) else y) := by
    split
    · exact h.scStationsFree hy j _
    · exact hy
  exact htold _ (hdue _ hended)

theorem KeptByFlow.sqsJob {s : State} (hs : P s) (n : Nat) (o : JobOrder) : P (s.sqsJob n o) := by
  have hmissed (id : Nat) : P (s.trkOpMissed n id) := h.past hs rfl rfl rfl
  cases o with
  | pass => exact hs
  | miss id => exact hmissed id
  | work j =>
    have hkept : P (if j.kind = .machine then s.trkOpMissed n j.pallet else s) := by
      split
      · exact hmissed j.pallet
      · exact hs
    simp only [State.sqsJob]
    split
    · next r _ hr =>
      exact h.sqsAfter (h.command (s.modStation n fun st =>
        { st with state := .clamping, job := some j, outcomeGiven := false, startTime := none,
                  timer := some (s.stationTimer .clamp r.tClampMax) })
        r.node .clamp [] (.inr ⟨n, r, hr, rfl⟩) (h.past hs rfl rfl rfl)) r.segment
    · exact hkept
    · exact hkept
    · exact hkept
    · exact hs

theorem KeptByFlow.loadDecision {s : State} (hs : P s) (n id : Nat) (p : Pallet) : P (s.loadDecision n id p) := by
  unfold State.loadDecision
  (repeat' split)
  · exact h.sqsJob (h.past (u := (s.modWorkpiece id fun w => { w with holdOver := true })) hs rfl rfl rfl) n .pass
  · exact h.sqsJob hs n .pass
  · exact h.sqsJob (h.past (u := (s.post .verifyOverdue (.station n) (some id) (.laps p.laps))) hs rfl rfl rfl) n .pass
  · exact h.sqsJob hs n _

theorem KeptByFlow.arrival {s : State} (hs : P s) (i j id : Nat) : P (s.arrival i j id) := by
  unfold State.arrival
  (repeat' split)
  · exact h.sqsJob hs _ _
  · exact h.loadDecision hs _ _ _
  · exact h.sqsJob hs _ _
  · exact hs

/-- The close of an edited tag check with its notice and the test of S1 (R40, R41). -/
theorem KeptByFlow.closeEdited {s : State} (hs : P s) : P s.closeEdited := by
  unfold State.closeEdited
  split
  · have hclosed : P ((s.setTag .none).setTrackHold false) :=
      h.modSeg (h.past (u := (s.setTag .none)) hs rfl rfl rfl) 1 _ fun _ => ⟨rfl, .inl rfl⟩
    refine h.scTest ?_ 1
    unfold State.noticeN1
    (repeat' split)
    · exact h.arrival hclosed 1 1 _
    · exact hclosed
    · exact hclosed
  · exact hs

/-! ## HOLD and CONTINUE at a segment (R83, R84) -/

omit h in
/-- A phase command that becomes owed leaves the owed RESUME as it is. -/
theorem owed_set_phase {c : CmdCode} (hphase : c.isPhase = true) (o : Owed) :
    (o.set c true).resume = o.resume := by
  cases c with
  | resume => simp [CmdCode.isPhase] at hphase
  | _ => rfl

theorem KeptByFlow.driveSuperseded {s : State} (hs : P s) (j : Nat) (code : CmdCode) : P (s.driveSuperseded j code) := by
  unfold State.driveSuperseded
  split
  · exact h.sqsAfter (h.past (u := s.setCommon j .none) hs rfl rfl rfl) j
  · split
    · next hphase =>
      simp only [Bool.and_eq_true] at hphase
      exact h.modSeg hs j _ fun g => ⟨congrArg (g.held, g.hold, g.resumeWanted, ·) (owed_set_phase hphase.1.1 _), .inl rfl⟩
    · exact hs

/-- What follows the FEEDHOLD that has taken the place of another command. -/
theorem KeptByFlow.postFeedhold {s : State} (j : Nat) (hs : P (s.replaceCmd (s.segCfg j).nodeDrive .feedhold)) :
    P (s.postFeedhold j) := by
  simp only [State.postFeedhold]
  split
  · exact h.driveSuperseded hs j _
  · exact hs

/-- What HOLD does at a segment after its feed hold: room and request are given up (R83). -/
theorem KeptByFlow.holdSegment_after {s : State} {j : Nat} (hj : MayChange k P j)
    (hs : P ((s.modSeg j fun g => { g with held := true }).feedHold j)) : P (s.holdSegment j) := by
  simp only [State.holdSegment]
  split
  · exact h.stopFeed (h.giveUpRoom hs j) j
  · exact h.scWithdraw hs hj _ _
  · exact hs

theorem KeptByFlow.holdSegment_other {s : State} (hs : P s) {j : Nat} (hj : j ≠ k) : P (s.holdSegment j) := by
  refine h.holdSegment_after (.inl hj) ?_
  have hheld := h.other s j (fun g => { g with held := true }) hj hs
  simp only [State.feedHold]
  (repeat' split)
  · exact h.postFeedhold j (h.feedhold _ _ (h.other _ j _ hj hheld))
  · exact hheld
  · exact h.other _ j _ hj hheld
  · exact hheld
  · exact h.postFeedhold j (h.feedhold _ _ (h.other _ j _ hj hheld))

/-- What CONTINUE does at a segment after its feed hold: the readiness test, and the close of an edited check (R83). -/
theorem KeptByFlow.continueSegment_after {s : State} {j : Nat}
    (hs : P ((s.modSeg j fun g => { g with held := false }).feedContinue j)) : P (s.continueSegment j) := by
  simp only [State.continueSegment]
  split
  · exact h.closeEdited (h.scTest hs j)
  · exact h.scTest hs j

theorem KeptByFlow.continueSegment_other {s : State} (hs : P s) {j : Nat} (hj : j ≠ k) : P (s.continueSegment j) := by
  refine h.continueSegment_after ?_
  have hfree := h.other s j (fun g => { g with held := false }) hj hs
  simp only [State.feedContinue]
  split
  · exact h.other _ j _ hj hfree
  · exact h.drive _ j .resume (fun hjk => absurd hjk hj) (h.other _ j _ hj hfree)
  · exact hfree

end

end Sys2Proof.Machine
end

section
/-! PROOF. The segment masks, and what STEP GRANT, HOLD and CONTINUE make of the segments they name (O30). -/

namespace Sys2Proof.Machine

/-! ## Masks (R187) -/

theorem mem_maskSegments {mask : Byte} {k : Nat} :
    k ∈ maskSegments mask ↔ 1 ≤ k ∧ k ≤ 4 ∧ mask.getLsbD (k - 1) = true := by
  rw [maskSegments, List.mem_filter, mem_upTo, and_assoc]

theorem maskSegments_nodup (mask : Byte) : (maskSegments mask).Nodup :=
  List.Nodup.filter _ List.nodup_range'

/-- A mask of the four segment bits that names no segment is empty. -/
theorem mask_eq_zero_of_unnamed {mask : Byte} (hbits : mask.toNat < 16) (hnone : maskSegments mask = []) :
    mask = 0 := by
  refine BitVec.eq_of_getLsbD_eq fun i _ => ?_
  change mask.getLsbD i = (0#8).getLsbD i
  rw [BitVec.getLsbD_zero]
  by_cases hi : i < 4
  · have hunnamed : i + 1 ∉ maskSegments mask := hnone ▸ List.not_mem_nil
    exact Bool.eq_false_iff.mpr fun hbit => hunnamed (mem_maskSegments.mpr ⟨by omega, by omega, hbit⟩)
  · have hhigh : mask.toNat < 2 ^ i :=
      hbits.trans_le ((by decide : 16 = 2 ^ 4) ▸ Nat.pow_le_pow_right (by decide) (by omega))
    exact Nat.testBit_lt_two_pow hhigh

theorem maskSegments_eq_nil_iff {mask : Byte} (hbits : mask.toNat < 16) : maskSegments mask = [] ↔ mask = 0 := by
  refine ⟨mask_eq_zero_of_unnamed hbits, ?_⟩
  rintro rfl
  rfl

theorem maskRefused_iff (nseg : Nat) (mask : Byte) :
    maskRefused nseg mask = true ↔ 16 ≤ mask.toNat ∨ mask = 0
      ∨ ∃ k, 1 ≤ k ∧ k ≤ 4 ∧ mask.getLsbD (k - 1) = true ∧ nseg < k := by
  simp only [maskRefused, Bool.or_eq_true, decide_eq_true_eq, List.isEmpty_iff, List.any_eq_true, mem_maskSegments,
    and_assoc, or_assoc]
  by_cases hbits : 16 ≤ mask.toNat
  · simp only [hbits, true_or]
  · simp only [hbits, false_or, maskSegments_eq_nil_iff (Nat.lt_of_not_le hbits)]

/-! ## One segment of a mask among the others -/

theorem forEach_append {α σ : Type} (f : α → σ → σ) (l l' : List α) (s : σ) :
    forEach f (l ++ l') s = forEach f l' (forEach f l s) := by
  induction l generalizing s with
  | nil => rfl
  | cons a rest ih => exact ih (f a s)

/-- A property that every other round keeps is kept by the rounds of a list without the one. -/
theorem forEach_keeps_beside {α σ : Type} {p : σ → Prop} {f : α → σ → σ} {a : α}
    (h : ∀ b x, b ≠ a → p x → p (f b x)) {l : List α} (ha : a ∉ l) {s : σ} (hs : p s) : p (forEach f l s) := by
  induction l generalizing s with
  | nil => exact hs
  | cons b rest ih =>
    exact ih (fun hr => ha (List.mem_cons_of_mem b hr)) (h b s (fun hb => ha (hb ▸ List.mem_cons_self)) hs)

theorem exists_split_of_mem {α : Type} {l : List α} {a : α} (hl : l.Nodup) (ha : a ∈ l) :
    ∃ l1 l2, l = l1 ++ a :: l2 ∧ a ∉ l1 ∧ a ∉ l2 := by
  obtain ⟨l1, l2, rfl⟩ := List.append_of_mem ha
  obtain ⟨-, hcons, hdisjoint⟩ := List.nodup_append.mp hl
  exact ⟨l1, l2, rfl, fun h => hdisjoint a h a List.mem_cons_self rfl, (List.nodup_cons.mp hcons).1⟩

/-! ## STEP GRANT (R93) -/

theorem State.permits_of_still {s u : State} (h : u.still = s.still) : u.lsv.permits = s.lsv.permits :=
  have hview := congrArg (fun x : State => x.lsv.permits) h
  hview

theorem State.permit_setPermit (s : State) (j k : Nat) :
    (s.setPermit j true).permit k = true ↔ s.permit k = true ∨ k = j ∧ k ∈ s.lsv.permits.map (·.1) := by
  by_cases hk : k = j
  · subst hk
    simp only [State.permit, State.setPermit, State.modLsv, tableGet_modify_same, true_and]
    cases hg : tableGet k s.lsv.permits with
    | none =>
      have habsent : k ∉ s.lsv.permits.map (·.1) := fun hmem => by
        obtain ⟨v, hv⟩ := tableGet_of_key hmem
        rw [hg] at hv
        cases hv
      simp only [Option.map_none, Option.getD_none, habsent, or_false]
    | some v =>
      have hkey : k ∈ s.lsv.permits.map (·.1) := List.mem_map.mpr ⟨(k, v), mem_of_tableGet hg, rfl⟩
      simp only [Option.map_some, Option.getD_some, hkey, or_true]
  · simp only [State.permit, State.setPermit, State.modLsv, tableGet_modify_other hk, hk, false_and, or_false]

theorem State.permit_grantPermit (s : State) (j k : Nat) :
    (s.grantPermit j).permit k = true ↔ s.permit k = true ∨ k = j ∧ k ∈ s.lsv.permits.map (·.1) := by
  unfold State.grantPermit
  split
  · next hset =>
    refine ⟨.inl, ?_⟩
    rintro (h | ⟨rfl, -⟩)
    · exact h
    · exact hset
  · rw [State.permit, State.permits_of_still (State.scTest_still _ j)]
    exact s.permit_setPermit j k

theorem State.grantPermit_keys (s : State) (j : Nat) :
    (s.grantPermit j).lsv.permits.map (·.1) = s.lsv.permits.map (·.1) :=
  congrArg Units.permits (units_of_fixed (State.grantPermit_fixed s j))

theorem State.permit_forEach_grant (l : List Nat) (s : State) (k : Nat) :
    (forEach (fun j x => x.grantPermit j) l s).permit k = true
      ↔ s.permit k = true ∨ k ∈ l ∧ k ∈ s.lsv.permits.map (·.1) := by
  induction l generalizing s with
  | nil => simp only [forEach, List.not_mem_nil, false_and, or_false]
  | cons j rest ih =>
    rw [forEach, ih, State.permit_grantPermit, State.grantPermit_keys, List.mem_cons, or_assoc, ← or_and_right]

/-- What the flow of segments and a change of permits leave as it was. -/
def State.stillButPermits (s : State) : State := { s.still with lsv := { s.still.lsv with permits := [] } }

theorem State.grantPermit_stillButPermits (j : Nat) (s : State) :
    (s.grantPermit j).stillButPermits = s.stillButPermits := by
  unfold State.grantPermit
  split
  · rfl
  · rw [State.stillButPermits, State.scTest_still]
    rfl

/-- STEP GRANT changes the permits, and otherwise only what the flow of segments changes. -/
theorem State.forEach_grant_still (l : List Nat) (s : State) :
    let u := forEach (fun j x => x.grantPermit j) l s
    u.still = ({ s with lsv := { s.lsv with permits := u.lsv.permits } } : State).still := by
  intro u
  have hsame : u.stillButPermits = s.stillButPermits :=
    forEach_view State.stillButPermits State.grantPermit_stillButPermits l s
  exact congrArg (fun x : State => { x with lsv := { x.lsv with permits := u.lsv.permits } }) hsame

theorem State.closeEvent_permits (s : State) : s.closeEvent.lsv.permits = s.lsv.permits := by
  simp only [State.closeEvent]
  (repeat' split)
  · rfl
  · rfl
  · rfl

theorem State.closeEvent_permit (s : State) (k : Nat) : s.closeEvent.permit k = s.permit k := by
  rw [State.permit, State.closeEvent_permits, State.permit]

/-! ## What the flow keeps of a segment -/

theorem State.seg_of_sc {s u : State} (h : u.sc = s.sc) (k : Nat) : u.seg k = s.seg k := by
  rw [State.seg, h, State.seg]

theorem State.holdPart_needDrive (s : State) (j k : Nat) {code : CmdCode}
    (hcode : j = k → code = .lift ∨ code = .releaseAll) : ((s.needDrive j code).seg k).holdPart = (s.seg k).holdPart := by
  obtain h | ⟨hk, h⟩ := s.seg_needDrive j k code
  · rw [h]
  · rw [h]
    obtain rfl | rfl := hcode hk.symm
    · rfl
    · rfl

theorem State.replaceCmd_sc (s : State) (a : Nat) (code : CmdCode) : (s.replaceCmd a code).sc = s.sc := by
  unfold State.replaceCmd
  split <;> rfl

theorem State.replaceCmd_cfg (s : State) (a : Nat) (code : CmdCode) : (s.replaceCmd a code).cfg = s.cfg := by
  unfold State.replaceCmd
  split <;> rfl

/-- The flow keeps everything that is said of a segment's hold part. -/
theorem keptByFlow_holdPart (k : Nat) (Q : Bool × HoldStatus × Bool × Bool → Prop) :
    KeptByFlow k fun x => Q (x.seg k).holdPart where
  beside x u hsc _ _ hx := by rwa [State.seg_of_sc hsc]
  other x j f hj hx := by
    obtain h | ⟨hk, -⟩ := x.seg_modSeg j k f
    · rwa [h]
    · exact absurd hk.symm hj
  moves x f hf hx := by rwa [x.seg_modSeg_view Segment.holdPart k k f fun g => (hf g).1]
  own := .inl fun x f hf hx => by rwa [x.seg_modSeg_view Segment.holdPart k k f hf]
  drive x j code hcode hx := by rwa [x.holdPart_needDrive j k hcode]
  command x a code args _ hx := hx
  feedhold x a hx := by rwa [State.seg_of_sc (x.replaceCmd_sc a _)]

/-- The flow ends no motion. -/
theorem keptByFlow_inMotion (k : Nat) : KeptByFlow k fun x => (x.seg k).state.inMotion = true where
  beside x u hsc _ _ hx := by rwa [State.seg_of_sc hsc]
  other x j f hj hx := by
    obtain h | ⟨hk, -⟩ := x.seg_modSeg j k f
    · rwa [h]
    · exact absurd hk.symm hj
  moves x f hf hx := by
    obtain h | ⟨-, h⟩ := x.seg_modSeg k k f
    · rwa [h]
    · rw [h]
      obtain hsame | hmotion := (hf (x.seg k)).2
      · rwa [hsame]
      · exact hmotion
  own := .inr fun _ hx => hx
  drive x j code _ hx := by
    obtain h | ⟨-, h⟩ := x.seg_needDrive j k code
    · rwa [h]
    · rwa [h]
  command x a code args _ hx := hx
  feedhold x a hx := by rwa [State.seg_of_sc (x.replaceCmd_sc a _)]

/-! ## A FEEDHOLD that is pending (R168) -/

theorem State.pendingAt_postCmd_same {s : State} {a : Nat} (ha : (s.node a).isSome = true) (code : CmdCode)
    (args : List Byte) : (s.postCmd a code args).pendingAt a = some code := by
  obtain ⟨n, hn⟩ := Option.isSome_iff_exists.mp ha
  have hget : tableGet a s.sbm.nodes = some n := hn
  simp only [State.pendingAt, State.node, State.postCmd, State.modNode, tableGet_modify_same, hget, Option.map_some,
    Option.bind_some]

theorem State.pendingAt_postCmd_other {s : State} {a b : Nat} (hab : a ≠ b) (code : CmdCode) (args : List Byte) :
    (s.postCmd b code args).pendingAt a = s.pendingAt a := by
  simp only [State.pendingAt, State.node, State.postCmd, State.modNode, tableGet_modify_other hab]

theorem State.node_isSome_of_pendingAt {s : State} {a : Nat} {c : CmdCode} (h : s.pendingAt a = some c) :
    (s.node a).isSome = true := by
  cases hn : s.node a with
  | some n => rfl
  | none => simp [State.pendingAt, hn] at h

theorem State.pendingAt_replaceCmd_same {s : State} {a : Nat} (ha : (s.node a).isSome = true) (code : CmdCode) :
    (s.replaceCmd a code).pendingAt a = some code := by
  unfold State.replaceCmd
  split
  · assumption
  · exact s.pendingAt_postCmd_same ha code []

theorem State.drivePending_replaceCmd {s : State} {k : Nat} (h : (s.node (s.segCfg k).nodeDrive).isSome = true)
    {code : CmdCode} : (s.replaceCmd (s.segCfg k).nodeDrive code).drivePending k = some code := by
  have hcfg : (s.replaceCmd (s.segCfg k).nodeDrive code).segCfg k = s.segCfg k := by
    rw [State.segCfg, State.replaceCmd_cfg, ← State.segCfg]
  rw [State.drivePending, hcfg]
  exact s.pendingAt_replaceCmd_same h code

/-- Segment k's drive shares its address with no node the flow posts to. -/
def ConfigStore.driveApart (c : ConfigStore) (k : Nat) : Prop :=
  c.line.nodeVs ≠ (c.seg k).nodeDrive ∧ ∀ n r, tableGet n c.stations = some r → r.node ≠ (c.seg k).nodeDrive

/-- A FEEDHOLD that is pending at a drive with an address of its own stays pending: another command for the drive
becomes owed (R72). -/
theorem keptByFlow_feedhold {c : ConfigStore} {k : Nat} (hapart : c.driveApart k) :
    KeptByFlow k fun x => x.cfg = c ∧ x.drivePending k = some .feedhold where
  beside x u _ hsbm hcfg hx := by
    rw [State.drivePending, State.segCfg, State.pendingAt, State.node, hsbm, hcfg]
    exact hx
  other x j f _ hx := hx
  moves x f _ hx := hx
  own := .inl fun x f _ hx => hx
  drive x j code _ hx := by
    unfold State.needDrive
    split
    · exact hx
    · next hfree =>
      refine ⟨hx.1, (x.pendingAt_postCmd_other (fun hsame => hfree ?_) code []).trans hx.2⟩
      have hpending : x.pendingAt (x.segCfg j).nodeDrive = some .feedhold := hsame ▸ hx.2
      simp only [State.drivePending, hpending, Option.isSome_some, Bool.true_or]
  command x a code args ha hx := by
    obtain ⟨rfl, hpending⟩ := hx
    have hother : (x.segCfg k).nodeDrive ≠ a := by
      obtain rfl | ⟨n, r, hr, rfl⟩ := ha
      · exact hapart.1.symm
      · exact (hapart.2 n r hr).symm
    exact ⟨rfl, (x.pendingAt_postCmd_other hother code args).trans hpending⟩
  feedhold x a hx := by
    obtain ⟨rfl, hpending⟩ := hx
    refine ⟨x.replaceCmd_cfg a _, ?_⟩
    rw [State.drivePending, State.segCfg, State.replaceCmd_cfg]
    by_cases ha : (x.segCfg k).nodeDrive = a
    · subst ha
      exact x.pendingAt_replaceCmd_same (x.node_isSome_of_pendingAt hpending) .feedhold
    · unfold State.replaceCmd
      split
      · exact hpending
      · exact (x.pendingAt_postCmd_other ha _ _).trans hpending

/-! ## The addresses of a checked configuration (R12) -/

/-- Two roles of a configuration that passed check 6 have different addresses. -/
theorem ConfigStore.roles_apart {c : ConfigStore} (h : c.failure = none) {p q : Nat × Role} (hp : p ∈ c.roles)
    (hq : q ∈ c.roles) (hne : p.2 ≠ q.2) : p.1 ≠ q.1 := by
  obtain ⟨-, -, -, -, -, hcheck6, -⟩ := c.failure_eq_none.mp h
  exact fun haddr => hne (congrArg Prod.snd (List.inj_on_of_nodup_map (c.check6_eq_none.mp hcheck6) hp hq haddr))

theorem ConfigStore.driveApart_of_checked {c : ConfigStore} (h : c.failure = none) {k : Nat}
    (hk : k ∈ upTo c.line.nseg) : c.driveApart k := by
  have hdrive : ((c.seg k).nodeDrive, Role.drive k) ∈ c.roles := by
    simp only [ConfigStore.roles, List.mem_append, List.mem_map]
    exact .inl (.inl (.inl ⟨k, hk, rfl⟩))
  have hvs : (c.line.nodeVs, Role.conveyor .vs) ∈ c.roles := by
    simp only [ConfigStore.roles, List.mem_append, List.mem_map]
    exact .inl (.inr ⟨.vs, by simp [convsInService], rfl⟩)
  have hstation (n : Nat) (r : StationRecord) (hr : tableGet n c.stations = some r) :
      (r.node, Role.station n) ∈ c.roles := by
    simp only [ConfigStore.roles, List.mem_append, List.mem_map]
    exact .inl (.inl (.inr ⟨(n, r), mem_of_tableGet hr, rfl⟩))
  exact ⟨c.roles_apart h hvs hdrive nofun, fun n r hr => c.roles_apart h (hstation n r hr) hdrive nofun⟩

theorem mayChange_holdPart (k : Nat) (Q : Bool × HoldStatus × Bool × Bool → Prop) :
    MayChange k (fun x => Q (x.seg k).holdPart) k :=
  .inr fun x f hf hx => by
    change Q ((x.modSeg k f).seg k).holdPart
    rwa [x.seg_modSeg_view Segment.holdPart k k f hf]

/-! ## HOLD and CONTINUE at one segment of a mask (R83, R84) -/

section
variable {k : Nat} {P : State → Prop} (h : KeptByFlow k P) {l : List Nat} (hk : k ∉ l) {s : State} (hs : P s)
include h hk hs

theorem KeptByFlow.forEach_hold_other : P (forEach (fun j x => x.holdSegment j) l s) :=
  forEach_keeps_beside (p := P) (fun _ _ hj hx => h.holdSegment_other hx hj) hk hs

theorem KeptByFlow.forEach_continue_other : P (forEach (fun j x => x.continueSegment j) l s) :=
  forEach_keeps_beside (p := P) (fun _ _ hj hx => h.continueSegment_other hx hj) hk hs

end

theorem Segment.rest_holdPart (g : Segment) : g.rest.holdPart = g.holdPart := by
  unfold Segment.rest
  split <;> rfl

theorem State.closeEvent_holdPart (s : State) (k : Nat) : (s.closeEvent.seg k).holdPart = (s.seg k).holdPart := by
  obtain h | h := s.seg_closeEvent k
  · rw [h]
  · rw [h, Segment.rest_holdPart]

theorem State.closeEvent_cfg (s : State) : s.closeEvent.cfg = s.cfg := by
  simp only [State.closeEvent]
  (repeat' split)
  · rfl
  · rfl
  · rfl

theorem State.closeEvent_sbm (s : State) : s.closeEvent.sbm = s.sbm := by
  simp only [State.closeEvent]
  (repeat' split)
  · rfl
  · rfl
  · rfl

theorem State.closeEvent_drivePending (s : State) (k : Nat) : s.closeEvent.drivePending k = s.drivePending k := by
  simp only [State.drivePending, State.segCfg, State.pendingAt, State.node, State.closeEvent_cfg, State.closeEvent_sbm]

/-- The segment with its held flag set, as HOLD hands it to the feed hold, or cleared, as CONTINUE does. -/
def State.withHeld (s : State) (k : Nat) (b : Bool) : State := s.modSeg k fun g => { g with held := b }

/-- A mask without the segment leaves its hold part. -/
theorem State.forEach_hold_holdPart {l : List Nat} {k : Nat} (hk : k ∉ l) (s : State) :
    ((forEach (fun j x => x.holdSegment j) l s).seg k).holdPart = (s.seg k).holdPart :=
  (keptByFlow_holdPart k (· = (s.seg k).holdPart)).forEach_hold_other hk rfl

theorem State.forEach_continue_holdPart {l : List Nat} {k : Nat} (hk : k ∉ l) (s : State) :
    ((forEach (fun j x => x.continueSegment j) l s).seg k).holdPart = (s.seg k).holdPart :=
  (keptByFlow_holdPart k (· = (s.seg k).holdPart)).forEach_continue_other hk rfl

/-- What is kept from a segment's feed hold on stands at the end of HOLD's event. -/
theorem KeptByFlow.hold_from {k : Nat} {P : State → Prop} (h : KeptByFlow k P) (hfree : MayChange k P k)
    {l : List Nat} (hk : k ∉ l) {y : State} (hy : P ((y.withHeld k true).feedHold k)) :
    P (forEach (fun j x => x.holdSegment j) (k :: l) y) :=
  h.forEach_hold_other hk (h.holdSegment_after hfree hy)

theorem KeptByFlow.continue_from {k : Nat} {P : State → Prop} (h : KeptByFlow k P)
    {l : List Nat} (hk : k ∉ l) {y : State} (hy : P ((y.withHeld k false).feedContinue k)) :
    P (forEach (fun j x => x.continueSegment j) (k :: l) y) :=
  h.forEach_continue_other hk (h.continueSegment_after hy)

/-- The feed hold of a motion in hand or being resumed: HOLDING with no RESUME owed, and FEEDHOLD is posted (R84). -/
theorem State.feedHold_starts {y : State} {k : Nat} (hk : k ∈ y.segNumbers)
    (hstarts : (y.seg k).state.inMotion = true ∧ (y.seg k).hold = .none ∨ (y.seg k).hold = .resuming) :
    ∃ z : State, y.feedHold k = z.postFeedhold k ∧ z.cfg = y.cfg ∧ z.sbm = y.sbm
      ∧ (z.seg k).held = (y.seg k).held ∧ (z.seg k).hold = .holding
      ∧ ((y.seg k).hold = .resuming → (z.seg k).owed.resume = false) := by
  obtain ⟨hmotion, hnone⟩ | hresuming := hstarts
  · refine ⟨y.modSeg k fun g => { g with hold := .holding }, ?_, rfl, rfl, ?_⟩
    · simp only [State.feedHold, hnone, hmotion, if_true]
    · rw [State.seg_modSeg_same hk]
      exact ⟨rfl, rfl, fun h => absurd (hnone.symm.trans h) nofun⟩
  · refine ⟨y.modSeg k fun g => { g with hold := .holding, owed := g.owed.set .resume false }, ?_, rfl, rfl, ?_⟩
    · simp only [State.feedHold, hresuming]
    · rw [State.seg_modSeg_same hk]
      exact ⟨rfl, rfl, fun _ => rfl⟩

/-- The feed hold leaves the held flag. -/
theorem State.feedHold_held (y : State) (k : Nat) : ((y.feedHold k).seg k).held = (y.seg k).held := by
  have hlaw := keptByFlow_holdPart k (·.1 = (y.seg k).held)
  have hview (f : Segment → Segment) (hf : ∀ g, (f g).held = g.held) :
      ((y.modSeg k f).seg k).held = (y.seg k).held := y.seg_modSeg_view Segment.held k k f hf
  unfold State.feedHold
  (repeat' split)
  · exact hlaw.postFeedhold k (hlaw.feedhold _ _ (hview _ fun _ => rfl))
  · rfl
  · exact hview _ fun _ => rfl
  · rfl
  · exact hlaw.postFeedhold k (hlaw.feedhold _ _ (hview _ fun _ => rfl))

/-- The feed hold's continuation: a held motion resumes, and one that is still being held shall resume (R84). -/
theorem State.feedContinue_parts {y : State} {k : Nat} (hk : k ∈ y.segNumbers) :
    ((y.feedContinue k).seg k).held = (y.seg k).held
      ∧ ((y.seg k).hold = .held → ((y.feedContinue k).seg k).hold = .resuming)
      ∧ ((y.seg k).hold = .holding → ((y.feedContinue k).seg k).resumeWanted = true) := by
  unfold State.feedContinue
  split
  · next hholding =>
    rw [State.seg_modSeg_same hk]
    exact ⟨rfl, fun h => absurd (hholding.symm.trans h) nofun, fun _ => rfl⟩
  · next hheld =>
    have hresuming := State.seg_modSeg_same hk fun g => { g with hold := .resuming }
    obtain hsame | ⟨-, howed⟩ := (y.modSeg k fun g => { g with hold := .resuming }).seg_needDrive k k .resume
    · rw [hsame, hresuming]
      exact ⟨rfl, fun _ => rfl, fun h => absurd (hheld.symm.trans h) nofun⟩
    · rw [howed, hresuming]
      exact ⟨rfl, fun _ => rfl, fun h => absurd (hheld.symm.trans h) nofun⟩
  · next hother hnot =>
    exact ⟨rfl, fun h => absurd h hnot, fun h => absurd h hother⟩

/-! ## HOLD and CONTINUE at the segments of a mask -/

theorem State.segNumbers_of_units {s u : State} (h : u.units = s.units) : u.segNumbers = s.segNumbers :=
  congrArg Units.segments h

theorem State.segNumbers_modSeg (s : State) (j : Nat) (f : Segment → Segment) :
    (s.modSeg j f).segNumbers = s.segNumbers := tableModify_keys

theorem State.node_isSome_of_units {s u : State} (h : u.units = s.units) {a : Nat} (ha : (s.node a).isSome = true) :
    (u.node a).isSome = true := by
  obtain ⟨n, hn⟩ := Option.isSome_iff_exists.mp ha
  have hkeys (x : State) : x.units.nodes.map (·.1) = x.sbm.nodes.map (·.1) := by
    simp only [State.units, List.map_map, Function.comp_def]
  have hkey : a ∈ u.sbm.nodes.map (·.1) := by
    rw [← hkeys u, h, hkeys s]
    exact List.mem_map.mpr ⟨(a, n), mem_of_tableGet hn, rfl⟩
  exact Option.isSome_iff_exists.mpr (tableGet_of_key hkey)

section
variable {s : State} {l : List Nat} {k : Nat} (hl : l.Nodup) (hk : k ∈ l)
include hl hk

/-- HOLD reaches segment k in a state that has its hold part, its motion and its units, and what is kept from its feed
hold on stands when HOLD is done. -/
theorem State.hold_at :
    ∃ y : State, (y.seg k).holdPart = (s.seg k).holdPart
      ∧ ((s.seg k).state.inMotion = true → (y.seg k).state.inMotion = true) ∧ y.units = s.units
      ∧ ∀ P : State → Prop, KeptByFlow k P → MayChange k P k → P ((y.withHeld k true).feedHold k) →
        P (forEach (fun j x => x.holdSegment j) l s) := by
  obtain ⟨l1, l2, rfl, hbefore, hafter⟩ := exists_split_of_mem hl hk
  refine ⟨forEach (fun j x => x.holdSegment j) l1 s, s.forEach_hold_holdPart hbefore,
    fun hmotion => (keptByFlow_inMotion k).forEach_hold_other hbefore hmotion,
    units_of_fixed (forEach_fixed (fun j x => x.holdSegment_fixed j) l1 s), fun P hlaw hfree hfeed => ?_⟩
  rw [forEach_append]
  exact hlaw.hold_from hfree hafter hfeed

theorem State.continue_at :
    ∃ y : State, (y.seg k).holdPart = (s.seg k).holdPart ∧ y.units = s.units
      ∧ (((forEach (fun j x => x.continueSegment j) l s).seg k).holdPart
        = (((y.withHeld k false).feedContinue k).seg k).holdPart) := by
  obtain ⟨l1, l2, rfl, hbefore, hafter⟩ := exists_split_of_mem hl hk
  refine ⟨forEach (fun j x => x.continueSegment j) l1 s, s.forEach_continue_holdPart hbefore,
    units_of_fixed (forEach_fixed (fun j x => x.continueSegment_fixed j) l1 s), ?_⟩
  rw [forEach_append]
  exact (keptByFlow_holdPart k (· = _)).continue_from hafter rfl

variable (hseg : k ∈ s.segNumbers)
include hseg

/-- HOLD sets the held flag (R83). -/
theorem State.hold_held : ((forEach (fun j x => x.holdSegment j) l s).closeEvent.seg k).held = true := by
  obtain ⟨y, -, -, hunits, hat⟩ := s.hold_at hl hk
  have hy : k ∈ y.segNumbers := State.segNumbers_of_units hunits ▸ hseg
  have hset : ((y.withHeld k true).seg k).held = true := congrArg Segment.held (State.seg_modSeg_same hy _)
  have hheld := hat _ (keptByFlow_holdPart k (·.1 = true)) (mayChange_holdPart k (·.1 = true))
    (((y.withHeld k true).feedHold_held k).trans hset)
  exact (congrArg (·.1) (State.closeEvent_holdPart _ k)).trans hheld

/-- HOLD starts the feed hold of a motion in hand or being resumed (R84). -/
theorem State.hold_starts
    (hstarts : (s.seg k).state.inMotion = true ∧ (s.seg k).hold = .none ∨ (s.seg k).hold = .resuming) :
    let u := (forEach (fun j x => x.holdSegment j) l s).closeEvent
    (u.seg k).hold = .holding ∧ ((s.seg k).hold = .resuming → (u.seg k).owed.resume = false)
      ∧ (s.cfg.driveApart k → (s.node (s.segCfg k).nodeDrive).isSome = true → u.drivePending k = some .feedhold) := by
  intro u
  obtain ⟨y, hpart, hmotion, hunits, hat⟩ := s.hold_at hl hk
  have hy : k ∈ y.segNumbers := State.segNumbers_of_units hunits ▸ hseg
  have hcfg : y.cfg = s.cfg := congrArg Units.cfg hunits
  have hhold : (y.seg k).hold = (s.seg k).hold := congrArg (·.2.1) hpart
  have hset : (y.withHeld k true).seg k = { y.seg k with held := true } := State.seg_modSeg_same hy _
  have hseg' : k ∈ (y.withHeld k true).segNumbers := by
    rwa [State.withHeld, State.segNumbers_modSeg]
  obtain ⟨z, hz, hzcfg, hzsbm, -, hholding, howed⟩ := State.feedHold_starts hseg' (by
    rw [hset]
    exact hstarts.imp (fun h => ⟨hmotion h.1, hhold.trans h.2⟩) hhold.trans)
  have hkept : (u.seg k).holdPart = (z.seg k).holdPart := by
    have hlaw := keptByFlow_holdPart k (· = (z.seg k).holdPart)
    refine (State.closeEvent_holdPart _ k).trans (hat _ hlaw (mayChange_holdPart k (· = (z.seg k).holdPart)) ?_)
    rw [hz]
    exact hlaw.postFeedhold k (hlaw.feedhold z _ rfl)
  refine ⟨(congrArg (·.2.1) hkept).trans hholding, fun h => ?_, fun hapart hnode => ?_⟩
  · refine (congrArg (·.2.2.2) hkept).trans (howed ?_)
    rw [hset]
    exact hhold.trans h
  · have hlaw := keptByFlow_feedhold hapart
    rw [State.closeEvent_drivePending]
    refine (hat _ hlaw (.inr fun x f _ hx => hx) ?_).2
    rw [hz]
    have hsame : z.cfg = s.cfg := hzcfg.trans hcfg
    have hthere : (z.node (z.segCfg k).nodeDrive).isSome = true := by
      rw [State.segCfg, hsame, State.node, hzsbm]
      exact State.node_isSome_of_units hunits hnode
    refine hlaw.postFeedhold k ⟨(z.replaceCmd_cfg _ _).trans hsame, ?_⟩
    exact State.drivePending_replaceCmd hthere

/-- CONTINUE clears the held flag, resumes a held motion and wants a resume of one that is being held (R83, R84). -/
theorem State.continue_parts :
    let u := (forEach (fun j x => x.continueSegment j) l s).closeEvent
    (u.seg k).held = false ∧ ((s.seg k).hold = .held → (u.seg k).hold = .resuming)
      ∧ ((s.seg k).hold = .holding → (u.seg k).resumeWanted = true) := by
  intro u
  obtain ⟨y, hpart, hunits, hat⟩ := s.continue_at hl hk
  have hy : k ∈ y.segNumbers := State.segNumbers_of_units hunits ▸ hseg
  have hhold : (y.seg k).hold = (s.seg k).hold := congrArg (·.2.1) hpart
  have hset : (y.withHeld k false).seg k = { y.seg k with held := false } := State.seg_modSeg_same hy _
  have hseg' : k ∈ (y.withHeld k false).segNumbers := by
    rwa [State.withHeld, State.segNumbers_modSeg]
  obtain ⟨hheld, hresuming, hwanted⟩ := State.feedContinue_parts hseg'
  rw [hset] at hheld hresuming hwanted
  have hkept := (State.closeEvent_holdPart _ k).trans hat
  exact ⟨(congrArg (·.1) hkept).trans hheld,
    fun h => (congrArg (·.2.1) hkept).trans (hresuming (hhold.trans h)),
    fun h => (congrArg (·.2.2.1) hkept).trans (hwanted (hhold.trans h))⟩

end

/-! ## The requests (R83, R93, R187) -/

section
variable {s : State} {mask : Byte}

theorem State.lineIn_run_stopping :
    s.lineIn [.run, .stopping] = true ↔ s.lsv.lineState = .run ∨ s.lsv.lineState = .stopping := by
  simp only [State.lineIn, List.contains_iff_mem, List.mem_cons, List.not_mem_nil, or_false]

theorem State.requestStepGrant_state (h : s.lsv.lineState ≠ .run) : s.requestStepGrant mask = (s, .state) := if_pos h

theorem State.requestStepGrant_refused (h : s.lsv.lineState = .run) (hmask : maskRefused s.nseg mask = true) :
    s.requestStepGrant mask = (s, maskArg mask) := by
  simp only [State.requestStepGrant, h, ne_eq, not_true_eq_false, if_false, hmask, if_true]

theorem State.requestStepGrant_taken (h : s.lsv.lineState = .run) (hmask : maskRefused s.nseg mask = false) :
    s.requestStepGrant mask = ((forEach (fun k x => x.grantPermit k) (maskSegments mask) s).closeEvent,
      .ok [flagByte ((maskSegments mask).any fun k => s.permit k)]) := by
  simp only [State.requestStepGrant, h, ne_eq, not_true_eq_false, if_false, hmask, Bool.false_eq_true]

theorem State.requestHold_state (h : ¬ (s.lsv.lineState = .run ∨ s.lsv.lineState = .stopping)) :
    s.requestHold mask = (s, .state) := by
  rw [← State.lineIn_run_stopping, Bool.not_eq_true] at h
  simp only [State.requestHold, h, Bool.not_false, if_true]

theorem State.requestContinue_state (h : ¬ (s.lsv.lineState = .run ∨ s.lsv.lineState = .stopping)) :
    s.requestContinue mask = (s, .state) := by
  rw [← State.lineIn_run_stopping, Bool.not_eq_true] at h
  simp only [State.requestContinue, h, Bool.not_false, if_true]

variable (h : s.lsv.lineState = .run ∨ s.lsv.lineState = .stopping)
include h

theorem State.requestHold_refused (hmask : maskRefused s.nseg mask = true) :
    s.requestHold mask = (s, maskArg mask) := by
  simp only [State.requestHold, State.lineIn_run_stopping.mpr h, Bool.not_true, Bool.false_eq_true, if_false, hmask,
    if_true]

theorem State.requestHold_taken (hmask : maskRefused s.nseg mask = false) :
    s.requestHold mask = ((forEach (fun k x => x.holdSegment k) (maskSegments mask) s).closeEvent, .ok []) := by
  simp only [State.requestHold, State.lineIn_run_stopping.mpr h, Bool.not_true, Bool.false_eq_true, if_false, hmask,
    okEmpty]

theorem State.requestContinue_refused (hmask : maskRefused s.nseg mask = true) :
    s.requestContinue mask = (s, maskArg mask) := by
  simp only [State.requestContinue, State.lineIn_run_stopping.mpr h, Bool.not_true, Bool.false_eq_true, if_false,
    hmask, if_true]

theorem State.requestContinue_taken (hmask : maskRefused s.nseg mask = false) :
    s.requestContinue mask = ((forEach (fun k x => x.continueSegment k) (maskSegments mask) s).closeEvent, .ok []) := by
  simp only [State.requestContinue, State.lineIn_run_stopping.mpr h, Bool.not_true, Bool.false_eq_true, if_false,
    hmask, okEmpty]

end

/-- In service each drive's address is its own. -/
theorem State.driveApart_of_shaped {s : State} (hshaped : s.shaped) (hline : s.lsv.lineState ≠ .config) {k : Nat}
    (hk : k ∈ s.segNumbers) : s.cfg.driveApart k := by
  have hservice := hshaped.2 hline
  have hseg : k ∈ upTo s.cfg.line.nseg := hservice.segments ▸ hk
  exact s.cfg.driveApart_of_checked hservice.checked hseg

/-- What STEP GRANT makes of the segments its mask names. -/
theorem State.stepGrant_permits (s : State) (l : List Nat) :
    let u := (forEach (fun k x => x.grantPermit k) l s).closeEvent
    (∀ k ∈ l, k ∈ s.lsv.permits.map (·.1) → u.permit k = true) ∧ (∀ k, k ∉ l → u.permit k = s.permit k)
      ∧ ({ s with lsv := { s.lsv with permits := u.lsv.permits } } : State).flowsTo u := by
  intro u
  have hpermit (k : Nat) : u.permit k = true ↔ s.permit k = true ∨ k ∈ l ∧ k ∈ s.lsv.permits.map (·.1) :=
    (Bool.eq_iff_iff.mp (State.closeEvent_permit _ k)).trans (s.permit_forEach_grant l k)
  refine ⟨fun k hk hkey => (hpermit k).mpr (.inr ⟨hk, hkey⟩), fun k hk => ?_, ?_⟩
  · rw [Bool.eq_iff_iff, hpermit k]
    simp only [hk, false_and, or_false]
  · rw [State.closeEvent_permits]
    exact flowsTo_closeEvent (s.forEach_grant_still l)

/-- Settles O30: each named segment's permit or feed hold is followed through the others' part of the request, which is
the flow of segments only. -/
theorem permitsAndHoldsFollowTheMask : Obligations.PermitsAndHoldsFollowTheMask := by
  intro t tag mask s hready x
  have hstep (r : State × Answer) (hr : x.requestStepGrant mask = r) :
      exec (.stepGrant t tag mask) s = .next (r.1.replied 0x25 tag r.2) := by
    rw [exec_stepGrant hready, byteOf_byte, ← hr]
  have hhold (r : State × Answer) (hr : x.requestHold mask = r) :
      exec (.hold t tag mask) s = .next (r.1.replied 0x26 tag r.2) := by
    rw [exec_hold hready, byteOf_byte, ← hr]
  have hcontinue (r : State × Answer) (hr : x.requestContinue mask = r) :
      exec (.continueRun t tag mask) s = .next (r.1.replied 0x27 tag r.2) := by
    rw [exec_continueRun hready, byteOf_byte, ← hr]
  refine ⟨maskRefused_iff s.nseg mask, fun k => mem_maskSegments, ?refused, ?taken, ?noGrant, ?noHold⟩
  case refused =>
    exact fun hmask => ⟨fun hrun => hstep _ (State.requestStepGrant_refused hrun hmask),
      fun hline => ⟨hhold _ (State.requestHold_refused hline hmask),
        hcontinue _ (State.requestContinue_refused hline hmask)⟩⟩
  case taken =>
    refine fun hmask => ⟨fun hrun => ?_, fun hline => ⟨?_, ?_⟩⟩
    · exact ⟨_, hstep _ (State.requestStepGrant_taken hrun hmask), x.stepGrant_permits (maskSegments mask)⟩
    · refine ⟨_, hhold _ (State.requestHold_taken hline hmask), fun k hk hseg => ⟨?_, fun hstarts => ?_⟩, fun k hk => ?_,
        flowsTo_closeEvent (forEach_still (fun k y => y.holdSegment_still k) _ x)⟩
      · exact x.hold_held (maskSegments_nodup mask) hk hseg
      · obtain ⟨hholding, howed, hpending⟩ := x.hold_starts (maskSegments_nodup mask) hk hseg hstarts
        have hconfig : s.lsv.lineState ≠ .config := fun h => by
          rw [h] at hline
          exact hline.elim nofun nofun
        exact ⟨hholding, howed, fun hshaped => hpending (s.driveApart_of_shaped hshaped hconfig hseg)⟩
      · exact congrArg (·.1) ((State.closeEvent_holdPart _ k).trans (x.forEach_hold_holdPart hk))
    · exact ⟨_, hcontinue _ (State.requestContinue_taken hline hmask),
        fun k hk hseg => x.continue_parts (maskSegments_nodup mask) hk hseg,
        fun k hk => congrArg (·.1) ((State.closeEvent_holdPart _ k).trans (x.forEach_continue_holdPart hk)),
        worksTo_closeEvent (forEach_fixed (fun k y => y.continueSegment_fixed k) _ x)⟩
  case noGrant => exact fun hrun => hstep _ (State.requestStepGrant_state hrun)
  case noHold =>
    intro hrun hstopping
    have hline : ¬ (x.lsv.lineState = .run ∨ x.lsv.lineState = .stopping) := fun h => h.elim hrun hstopping
    exact ⟨hhold _ (State.requestHold_state hline), hcontinue _ (State.requestContinue_state hline)⟩

end Sys2Proof.Machine
end

section
/-! PROOF. A fault of an unreached state (R79, R89, R116): S1 READY with its request already in the admission queue. The
room it releases lets S2 enqueue, and the evaluation that follows admits S1, which is in FAULT by then. -/

namespace Sys2Proof.Machine

/-- In RUN, S1 and S2 are READY. S1 holds the one place of B1 and has a request in the admission queue; S2 waits for
room on B1 too, and has its entry pallet ARRIVED there. -/
def readyInQueue : State :=
  { State.reset with
    lsv := { Lsv.reset with lineState := .run },
    sc := [(1, { Segment.fresh with state := .ready, room := .held .b1 }),
           (2, { Segment.fresh with state := .ready, room := .requested .b1 })],
    cvt := { Cvt.reset with convs :=
      [(.b1, { Conveyor.fresh with
          reservations := [{ holder := .segment 1, status := .held }], requests := [.segment 2] })] },
    trk := { Trk.reset with lists := [(.b1, [{ pallet := 9, state := .arrived, entryTime := 0 }])] },
    ada := { Ada.reset with r := 20000, queue :=
      [{ segment := 1, entryTaken := false, n := 0, demand := 2000, enqueued := 0, cls := .normal, urgency := none,
         earliest := none }] } }

/-- The fault ends with S1 in LIFT, and MOTION_FAULT bears the number of the index it has just opened. -/
theorem readyInQueue_faults : ((readyInQueue.scFault 1 .driveFault).seg 1).state = .lift
    ∧ (readyInQueue.scFault 1 .driveFault).clp.events.map (·.detail)
      = [.motion .driveFault .certain 1] := by
  decide +kernel

/-- Refutes O58, in its last part. The claim says of every READY segment with room that its fault posts MOTION_FAULT
with the index number it had before; but it does not ask that a READY segment have no request in the admission queue
(R78, R106). `readyInQueue` has one: the grant pass over the released room lets S2 enqueue, and the evaluation opens an
index of S1. No run reaches this state: `State.SegmentSound.queued` excludes it. -/
theorem not_driveReportsMoveTheSegment : ¬ Obligations.DriveReportsMoveTheSegment := by
  rintro ⟨-, -, -, -, hfault⟩
  obtain ⟨-, -, hready, -, -⟩ := hfault readyInQueue 1 .driveFault
  have hclaimed := congrArg (fun u : State => u.clp.events.map (·.detail)) ((hready rfl .b1).2 rfl)
  rw [readyInQueue_faults.2] at hclaimed
  exact absurd hclaimed (by decide +kernel)

end Sys2Proof.Machine
end

section
/-! PROOF. The ranges of the Reserve Model, the lift history, the pass-over count and the Event Queue (R97, R101, R103,
R125, R184): what the requests and the timers leave of them, and that every step keeps them (O28). -/

namespace Sys2Proof.Machine

/-! ## The timers and the bus -/

section
variable (s : State) (hw : s.within)
include hw

theorem State.settleTimerExpires_within (n : Nat) : (s.settleTimerExpires n).within := by
  unfold State.settleTimerExpires
  split
  · exact s.settleExpires_within n hw
  · exact hw

theorem State.evaluationExpires_within : s.evaluationExpires.within := by
  unfold State.evaluationExpires
  split
  · split
    · exact s.adaEvaluate_within hw
    · exact hw
  · exact hw

theorem State.urgencyExpires_within (k : Nat) : (s.urgencyExpires k).within := by
  unfold State.urgencyExpires
  split
  · exact hw
  · exact State.post_within _ _ _ _ _ hw

theorem State.hExpires_within : s.hExpires.within :=
  ⟨hw.1, Ada.prune_within s.clock hw.2.1, hw.2.2⟩

theorem State.staggerExpires_within : s.staggerExpires.within := by
  unfold State.staggerExpires
  split
  · split <;> exact hw
  · exact hw

theorem State.periodExpires_within (k : Nat) : (s.periodExpires k).within := by
  unfold State.periodExpires
  split
  · split <;> exact hw
  · exact hw

theorem State.travelExpiresAt_within (number : Nat) : (s.travelExpiresAt number).within := by
  unfold State.travelExpiresAt
  split
  · exact s.travelExpires_within _ hw
  · exact hw

theorem State.replyHeard_within (chars : List BusChar) : (s.replyHeard chars).within := by
  have hclosed : s.closeWindow.within := hw
  unfold State.replyHeard
  split
  · exact hw
  · split
    · exact hclosed
    · split
      · exact State.goodReply_within _ _ _ _ _ hclosed
      · exact State.nodeMisses_within _ _ _ hclosed

theorem State.windowExpires_within : s.windowExpires.within := by
  have hclosed : s.closeWindow.within := hw
  unfold State.windowExpires
  split
  · exact hw
  · split
    · exact hclosed
    · split
      · exact hclosed
      · exact State.nodeMisses_within _ _ _ hclosed

theorem State.scanStarts_within : s.scanStarts.within := by
  unfold State.scanStarts
  split
  · exact hw
  · split <;> exact hw

theorem State.slotPolls_within (slot : Nat) : (s.slotPolls slot).within := by
  unfold State.slotPolls
  split
  · exact hw
  · split
    · exact hw
    · split
      · split <;> exact hw
      · exact hw

/-! ## Effects of the requests between the blocks -/

theorem State.abortStation_within (n : Nat) (r : StationRecord) : (s.abortStation n r).within := by
  unfold State.abortStation
  apply State.sqsAfter_within
  rw [State.modStation_within]
  split
  · exact State.stationRetract_within _ _ (State.handOn_within _ _ _ hw)
  · exact State.handOn_within _ _ _ (State.stationRetract_within _ _ hw)

theorem State.clearStationBy_within (n : Nat) (r : StationRecord) (rep : StationReport) :
    (s.clearStationBy n r rep).within := by
  cases rep <;> simp [State.clearStationBy, hw]

theorem State.clearConveyor_within (c : ConvId) : (s.clearConveyor c).within := by
  simp [State.clearConveyor, hw]

end

/-! ## Requests -/

/-- The ranges hold after the change where they held before it. -/
def State.KeepsRanges (s u : State) : Prop := s.within → u.within

namespace State.KeepsRanges

theorem refl (s : State) : s.KeepsRanges s := id

/-- A request that is done, with the end of the event. -/
theorem done {s u : State} {a : Answer} (h : s.within → u.within) : s.KeepsRanges (u.closeEvent, a).1 :=
  fun hw => u.closeEvent_within (h hw)

/-- A request with a guard that refuses it. -/
theorem guarded {s : State} {c : Prop} [Decidable c] {a : Answer} {r : State × Answer}
    (h : s.KeepsRanges r.1) : s.KeepsRanges (if c then (s, a) else r).1 := by
  split
  · exact .refl s
  · exact h

/-- A request that a condition lets through. -/
theorem allowed {s : State} {c : Prop} [Decidable c] {a : Answer} {r : State × Answer}
    (h : s.KeepsRanges r.1) : s.KeepsRanges (if c then r else (s, a)).1 := by
  split
  · exact h
  · exact .refl s

end State.KeepsRanges

section
variable (s : State)

theorem State.requestStart_ranges (m : Nat) : s.KeepsRanges (s.requestStart m).1 := by
  refine .guarded ?_
  split
  · exact .refl s
  · exact .done (s.startLine_within _)

theorem State.requestStop_ranges : s.KeepsRanges s.requestStop.1 :=
  .guarded (.done s.stopLine_within)

theorem State.requestMode_ranges (m : Nat) : s.KeepsRanges (s.requestMode m).1 := by
  refine .guarded ?_
  split
  · exact .refl s
  · exact .done (s.modeLine_within _)

theorem State.requestStepGrant_ranges (mask : Byte) : s.KeepsRanges (s.requestStepGrant mask).1 :=
  .guarded (.guarded (.done (forEach_within (fun k x => x.grantPermit_within k) _ s)))

theorem State.requestHold_ranges (mask : Byte) : s.KeepsRanges (s.requestHold mask).1 :=
  .guarded (.guarded (.done (forEach_within (fun k x => x.holdSegment_within k) _ s)))

theorem State.requestContinue_ranges (mask : Byte) : s.KeepsRanges (s.requestContinue mask).1 :=
  .guarded (.guarded (.done (forEach_within (fun k x => x.continueSegment_within k) _ s)))

theorem State.requestHalt_ranges : s.KeepsRanges s.requestHalt.1 := by
  unfold State.requestHalt
  split
  case h_1 | h_2 => exact .refl s
  case h_3 | h_4 | h_5 => exact .done (s.enterHalt_within _)

theorem State.requestRecover_ranges : s.KeepsRanges s.requestRecover.1 :=
  .guarded (.guarded (.done s.recoverLine_within))

theorem State.requestRestart_ranges : s.KeepsRanges s.requestRestart.1 :=
  .guarded (.refl s)

/-- A station that takes another place among the idle ones, with what its segment hears of it (R48, R64). -/
theorem State.stationIdle_sqsAfter_ranges (n k : Nat) (st : StationState) (a : Answer) :
    s.KeepsRanges (((s.stationIdle n st).sqsAfter k).closeEvent, a).1 :=
  .done fun hw => State.sqsAfter_within _ k (s.stationIdle_within n st hw)

theorem State.requestBypassOn_ranges (n : Nat) : s.KeepsRanges (s.requestBypassOn n).1 := by
  refine .guarded (.guarded ?_)
  split
  · exact .refl s
  · refine .guarded (.guarded ?_)
    split
    · exact s.stationIdle_sqsAfter_ranges _ _ _ _
    · exact .allowed (.guarded (s.stationIdle_sqsAfter_ranges _ _ _ _))

theorem State.requestBypassOff_ranges (n : Nat) : s.KeepsRanges (s.requestBypassOff n).1 := by
  refine .guarded (.guarded ?_)
  split
  · exact .refl s
  · refine .guarded (.allowed ?_)
    split
    · exact s.stationIdle_sqsAfter_ranges _ _ _ _
    · exact .allowed (s.stationIdle_sqsAfter_ranges _ _ _ _)

theorem State.requestBypass_ranges (n setting : Nat) : s.KeepsRanges (s.requestBypass n setting).1 := by
  unfold State.requestBypass
  split
  · exact s.requestBypassOff_ranges n
  · exact s.requestBypassOn_ranges n
  · exact .guarded (.guarded (.refl s))

theorem State.requestAbortCycle_ranges (n : Nat) : s.KeepsRanges (s.requestAbortCycle n).1 := by
  refine .guarded (.guarded ?_)
  split
  · exact .refl s
  · split
    case h_4 => exact .refl s
    all_goals exact .done fun hw => s.abortStation_within hw n _

theorem State.requestClearStation_ranges (n : Nat) : s.KeepsRanges (s.requestClearStation n).1 := by
  refine .guarded (.guarded ?_)
  split
  · exact .refl s
  · refine .guarded (.guarded (.guarded ?_))
    split
    · exact .refl s
    · exact .guarded (.done fun hw => s.clearStationBy_within hw n _ _)

theorem State.requestClearSegment_ranges (k : Nat) : s.KeepsRanges (s.requestClearSegment k).1 :=
  .guarded (.guarded (.guarded (.guarded (.guarded (.guarded (.guarded
    (.done (s.postDrive_within k .resetFault))))))))

theorem State.requestClearConveyor_ranges (number : Nat) : s.KeepsRanges (s.requestClearConveyor number).1 := by
  refine .guarded ?_
  split
  · exact .refl s
  · exact .guarded (.guarded (.guarded (.done fun hw => s.clearConveyor_within hw _)))

theorem State.requestClearFault_ranges (kind number : Nat) : s.KeepsRanges (s.requestClearFault kind number).1 := by
  unfold State.requestClearFault
  split
  · exact s.requestClearSegment_ranges number
  · exact s.requestClearStation_ranges number
  · exact s.requestClearConveyor_ranges number
  · exact .refl s

theorem State.requestPalletDefine_ranges (id variant : Nat) : s.KeepsRanges (s.requestPalletDefine id variant).1 := by
  refine .guarded ?_
  split
  · exact .refl s
  · exact .guarded (.guarded (.refl s))

theorem State.requestPalletDelete_ranges (id : Nat) : s.KeepsRanges (s.requestPalletDelete id).1 := by
  refine .guarded ?_
  split
  · exact .refl s
  · exact .guarded (.refl s)

theorem State.requestPalletRead_ranges (id : Nat) : s.KeepsRanges (s.requestPalletRead id).1 := by
  refine .guarded ?_
  split <;> exact .refl s

theorem State.requestPlace_ranges (id position : Nat) : s.KeepsRanges (s.requestPlace id position).1 := by
  refine .guarded (.guarded ?_)
  split
  · exact .refl s
  · refine .guarded ?_
    split
    · exact .refl s
    · exact .guarded (.guarded (.done (s.placeInNest_within id _ _)))
    · exact .guarded (.guarded (.done (s.placeOnConveyor_within id _)))

theorem State.requestRemove_ranges (id : Nat) : s.KeepsRanges (s.requestRemove id).1 := by
  refine .guarded (.guarded ?_)
  split
  · exact .refl s
  · split
    · exact .refl s
    · exact .allowed (.done (s.removePallet_within id _))

theorem State.requestAcceptTag_ranges : s.KeepsRanges s.requestAcceptTag.1 := by
  refine .guarded ?_
  split
  · exact .guarded (.guarded (.done (s.acceptRead_within _)))
  · exact .refl s

theorem State.requestConfirmBefore_ranges (k : Nat) : s.KeepsRanges (s.requestConfirmBefore k).1 := by
  refine .guarded (.guarded ?_)
  split
  · exact .refl s
  · exact .done (s.settleBefore_within k _)

theorem State.requestConfirmAfter_ranges (k : Nat) : s.KeepsRanges (s.requestConfirmAfter k).1 := by
  refine .guarded (.guarded ?_)
  split
  · exact .refl s
  · exact .done (s.confirmAfter_within k _)

theorem State.requestConfirmList_ranges (k flag : Nat) (occupants : List Byte) :
    s.KeepsRanges (s.requestConfirmList k flag occupants).1 := by
  refine .guarded (.guarded ?_)
  split
  · exact .refl s
  · exact .guarded (.guarded (.done (s.confirmList_within k _ _ _)))

theorem State.requestConfirm_ranges (body : List Byte) : s.KeepsRanges (s.requestConfirm body).1 := by
  unfold State.requestConfirm
  dsimp only
  split
  · exact s.requestConfirmBefore_ranges _
  · exact s.requestConfirmAfter_ranges _
  · exact s.requestConfirmList_ranges _ _ _
  · exact .guarded (.guarded (.refl s))

theorem State.requestMapRead_ranges (start count : Nat) : s.KeepsRanges (s.requestMapRead start count).1 :=
  .guarded (.guarded (.refl s))

theorem State.requestStatus_ranges (number : Nat) : s.KeepsRanges (s.requestStatus number).1 :=
  .guarded (.refl s)

/-- RESERVE SET declares at most Cap, and the carry 0 (R100). -/
theorem State.requestReserveSet_ranges (volume : Nat) : s.KeepsRanges (s.requestReserveSet volume).1 :=
  .guarded (.guarded (.done fun hw =>
    State.adaEvaluate_within _ ⟨hw.1, ⟨Nat.min_le_right _ _, Nat.zero_le _, hw.2.1.2.2⟩, hw.2.2⟩))

/-- EVENTS TAKE takes records off the Event Queue (R185). -/
theorem State.requestEventsTake_ranges (count : Nat) : s.KeepsRanges (s.requestEventsTake count).1 :=
  fun hw => ⟨(List.drop_sublist _ _).length_le.trans hw.1, hw.2⟩

end

/-! ## Configuration -/

/-- With the Admission Arbiter and the merge arbiter's count at reset only the Event Queue matters, whatever the LINE
record is (R96, R114). -/
theorem State.within_of_fresh {s : State} (hr : s.ada.r = 0) (hc : s.ada.c = 0) (hh : s.ada.h = [])
    (hp : s.cvt.passOver = 0) (he : s.clp.events.length ≤ Config.eventQueueCapacity) : s.within := by
  refine ⟨he, ⟨?_, ?_, ?_⟩, ?_⟩ <;> simp [hr, hc, hh, hp]

/-- The LINE record may be changed while nothing is in service: what it bounds is at 0 (R3, R96, R114). -/
theorem State.OutOfService.within_cfg {s : State} (h : s.OutOfService) (hw : s.within) (c : ConfigStore) :
    ({ s with cfg := c } : State).within :=
  State.within_of_fresh (congrArg Ada.r h.admission) (congrArg Ada.c h.admission) (congrArg Ada.h h.admission)
    (congrArg Cvt.passOver h.conveyors) hw.1

theorem State.requestLineSet_within {s : State} (hs : s.shaped) (hw : s.within) (body : List Byte) :
    (s.requestLineSet body).1.within := by
  unfold State.requestLineSet
  dsimp only
  split
  · exact hw
  · next hl =>
    split
    · exact hw
    · exact (hs.1 (not_not.mp hl)).within_cfg hw _

theorem State.requestSegmentSet_ranges (s : State) (body : List Byte) :
    s.KeepsRanges (s.requestSegmentSet body).1 := by
  refine .guarded ?_
  split <;> exact .refl s

theorem State.requestStationSet_ranges (s : State) (body : List Byte) :
    s.KeepsRanges (s.requestStationSet body).1 := by
  refine .guarded ?_
  split
  · exact .refl s
  · split <;> exact .refl s

theorem State.requestBusSet_ranges (s : State) (body : List Byte) : s.KeepsRanges (s.requestBusSet body).1 := by
  refine .guarded ?_
  split <;> exact .refl s

theorem State.commitLine_within {s : State} (hw : s.within) : s.commitLine.within := by
  have hservice : s.putIntoService.within := State.within_of_fresh rfl rfl rfl rfl hw.1
  have hidle := State.enterLine_within _ .idle .commit hservice
  unfold State.commitLine
  dsimp only
  split
  · exact State.firstScanInHalt_within _ (State.enterHalt_within _ _ hidle)
  · exact hidle

theorem State.requestCommit_ranges (s : State) : s.KeepsRanges s.requestCommit.1 := by
  refine .guarded ?_
  split
  · exact .refl s
  · exact .done State.commitLine_within

theorem State.requestUncommit_ranges (s : State) : s.KeepsRanges s.requestUncommit.1 :=
  .guarded fun hw => State.within_of_fresh rfl rfl rfl rfl (s.enterLine_within .config .uncommit hw).1

/-! ## The cell link -/

/-- A request at its owner (R181). Only LINE SET needs the shape: in CONFIG nothing that the LINE record bounds is
above 0. -/
theorem State.owner_within {s : State} (hs : s.shaped) (hw : s.within) (type : Byte) (body : List Byte) :
    (s.owner type body).1.within := by
  unfold State.owner
  split
  · exact State.requestLineSet_within hs hw body
  · exact s.requestSegmentSet_ranges body hw
  · exact s.requestStationSet_ranges body hw
  · exact s.requestBusSet_ranges body hw
  · exact s.requestCommit_ranges hw
  · exact s.requestUncommit_ranges hw
  · exact s.requestStart_ranges _ hw
  · exact s.requestMode_ranges _ hw
  · exact s.requestStop_ranges hw
  · exact s.requestHalt_ranges hw
  · exact s.requestRecover_ranges hw
  · exact s.requestStepGrant_ranges _ hw
  · exact s.requestHold_ranges _ hw
  · exact s.requestContinue_ranges _ hw
  · exact s.requestRestart_ranges hw
  · exact s.requestBypass_ranges _ _ hw
  · exact s.requestAbortCycle_ranges _ hw
  · exact s.requestClearFault_ranges _ _ hw
  · exact s.requestPalletDefine_ranges _ _ hw
  · exact s.requestPalletDelete_ranges _ hw
  · exact s.requestPalletRead_ranges _ hw
  · exact s.requestPlace_ranges _ _ hw
  · exact s.requestRemove_ranges _ hw
  · exact s.requestAcceptTag_ranges hw
  · exact s.requestConfirm_ranges body hw
  · exact s.requestMapRead_ranges _ _ hw
  · exact s.requestReserveSet_ranges _ hw
  · exact s.requestStatus_ranges _ hw
  · exact hw
  · exact s.requestEventsTake_ranges _ hw
  · exact hw

theorem State.answer_within {s : State} (hs : s.shaped) (hw : s.within) (f : Frame) :
    (s.answer f).1.within := by
  unfold State.answer
  split
  · exact hw
  · split
    · exact hw
    · exact State.owner_within hs hw f.type f.body

theorem State.takeFrame_within {s : State} (hs : s.shaped) (hw : s.within) (f : Frame) (rest : List Frame) :
    (s.takeFrame f rest).within := by
  have hx : (s.modClp fun c => { c with requests := rest }).shaped := hs.of_blocks rfl
  exact State.answer_within hx hw f

theorem State.takeFrames_within (n : Nat) {s : State} (hs : s.shaped) (hw : s.within) :
    (State.takeFrames n s).within := by
  induction n generalizing s with
  | zero => exact hw
  | succ n ih =>
    unfold State.takeFrames
    split
    · exact hw
    · next f rest _ =>
      split
      · exact ih (State.takeFrame_shaped f rest hs) (State.takeFrame_within hs hw f rest)
      · exact hw

theorem State.judgeFrame_within {s : State} (hs : s.shaped) (hw : s.within) (type tag : Byte) (body : List Byte)
    (check : BitVec 16) : (s.judgeFrame type tag body check).within := by
  unfold State.judgeFrame
  split
  · unfold State.offer
    split
    · exact State.takeFrames_within _ (hs.of_blocks rfl) hw
    · exact hw
  · exact hw

theorem State.frameArrives_within {s : State} (hs : s.shaped) (hw : s.within) (type tag : Byte) (body : List Byte)
    (check : BitVec 16) : (s.frameArrives type tag body check).within := by
  unfold State.frameArrives
  split
  · exact hw
  · exact State.judgeFrame_within hs hw type tag body check

theorem State.byteArrives_within {s : State} (hs : s.shaped) (hw : s.within) (b : Byte) :
    (s.byteArrives b).within := by
  unfold State.byteArrives
  split
  · split <;> exact hw
  · unfold State.assemble
    split
    · exact hw
    · split
      · exact State.judgeFrame_within hs hw _ _ _ _
      · exact hw

/-- A reset leaves every bounded number at 0, but for the events of an ESTOP_IN that stands asserted (R145, R151). -/
theorem State.afterReset_within (waiting : List Instr) (estop : Bool) (br : BitVec 2) :
    (State.afterReset waiting estop br).within := by
  have hreset : ({ State.reset with pending := waiting, clp := { Clp.reset with rate := br } } : State).within :=
    State.within_of_fresh rfl rfl rfl rfl (Nat.zero_le _)
  unfold State.afterReset
  dsimp only
  split
  · exact State.estopOn_within _ hreset
  · exact hreset

theorem State.replyEnds_within {s : State} (hs : s.shaped) (hw : s.within) (br : BitVec 2) :
    (s.replyEnds br).within := by
  unfold State.replyEnds
  dsimp only
  split
  · exact hw
  · split
    · exact State.afterReset_within _ _ _
    · exact State.takeFrames_within _ (hs.of_blocks rfl) hw

theorem State.replyStarts_within {s : State} (hw : s.within) (cts : Bool) : (s.replyStarts cts).within := by
  unfold State.replyStarts
  dsimp only
  split
  · split <;> exact hw
  · exact hw

theorem State.gapExpires_within {s : State} (hw : s.within) : s.gapExpires.within := by
  unfold State.gapExpires
  split
  · exact hw
  · split <;> exact hw

theorem State.framingFails_within {s : State} (hw : s.within) : s.framingFails.within := by
  unfold State.framingFails
  split <;> exact hw

/-! ## Every command -/

theorem exec_within {c : Instr} {s u : State} (hs : s.shaped) (hw : s.within) (h : exec c s = .next u) :
    u.within := by
  have hsat (t : LineTime) : (s.at t).shaped := hs.of_blocks rfl
  have hat (t : LineTime) : (s.at t).within := hw
  cases c <;> injection h with h <;> subst h
  case hardwareReset estop br => exact State.afterReset_within _ _ _
  case estopInAsserted t =>
    split
    · exact State.closeEvent_within _ (State.estopOn_within _ (hat t))
    · exact hat t
  case estopInReleased t =>
    split
    · exact State.estopOff_within _ (hat t)
    · exact hat t
  case frameReceived t type tag body check => exact State.frameArrives_within (hsat t) (hat t) _ _ _ _
  case frameLengthInvalid t => exact hat t
  case framingError t => exact State.framingFails_within (hat t)
  case gapTimerExpiry t => exact State.gapExpires_within (hat t)
  case cellLinkByteReceived t b => exact State.byteArrives_within (hsat t) (hat t) b
  case replySendStart t cts => exact State.replyStarts_within (hat t) cts
  case replySendEnd t br => exact State.replyEnds_within (hsat t) (hat t) br
  case scanStart t => exact State.scanStarts_within _ (hat t)
  case slotPoll t slot => exact State.slotPolls_within _ (hat t) slot
  case nodeReply t chars => exact State.closeEvent_within _ (State.replyHeard_within _ (hat t) chars)
  case responseWindowExpiry t => exact State.closeEvent_within _ (State.windowExpires_within _ (hat t))
  case clampTimeout t n => exact State.closeEvent_within _ (State.clampExpires_within _ n (hat t))
  case settleExpiry t n => exact State.closeEvent_within _ (State.settleTimerExpires_within _ (hat t) n)
  case cycleTimeout t n => exact State.closeEvent_within _ (State.cycleExpires_within _ n (hat t))
  case unclampTimeout t n => exact State.closeEvent_within _ (State.unclampExpires_within _ n (hat t))
  case commonTimerExpiry t k => exact State.closeEvent_within _ (State.commonExpires_within _ k (hat t))
  case stationClearTimeout t n => exact State.closeEvent_within _ (State.stationClearExpires_within _ n (hat t))
  case phaseTimeout t k => exact State.closeEvent_within _ (State.phaseExpires_within _ k (hat t))
  case feedWaitExpiry t k => exact State.closeEvent_within _ (State.feedWaitExpires_within _ k (hat t))
  case segmentClearTimeout t k => exact State.closeEvent_within _ (State.segClearExpires_within _ k (hat t))
  case evaluationTimerExpiry t => exact State.closeEvent_within _ (State.evaluationExpires_within _ (hat t))
  case urgencyExpiry t k => exact State.urgencyExpires_within _ (hat t) k
  case hEntryExpiry t => exact State.hExpires_within _ (hat t)
  case staggerExpiry t => exact State.staggerExpires_within _ (hat t)
  case periodExpiry t k => exact State.periodExpires_within _ (hat t) k
  case travelTimeout t n => exact State.closeEvent_within _ (State.travelExpiresAt_within _ (hat t) n)
  case tagReadTimeout t => exact State.closeEvent_within _ (State.tagReadExpires_within _ (hat t))
  all_goals exact State.frameArrives_within (hsat _) (hat _) _ _ _ _

/-- Settles O28, by what the command at the front of the queue does to the ranges. -/
theorem everyStepKeepsTheRanges : Obligations.EveryStepKeepsTheRanges := by
  intro s u hs hw hstep
  unfold step at hstep
  split at hstep
  · injection hstep with hstep
    exact hstep ▸ hw
  · refine exec_within ?_ ?_ hstep
    · exact hs.of_blocks rfl
    · exact hw

end Sys2Proof.Machine
end

section
/-! PROOF. The Reserve Model: what an update gives, that updates may be split (O55), and when a request's demand is
first met (O56), by R97 and R102. -/

namespace Sys2Proof.Machine

/-! ## Updates (R97) -/

/-- An update changes R, the carry and t_last only. -/
theorem Ada.update_eq (a : Ada) (l : LineRecord) (now : LineTime) :
    a.update l now = { a with r := (a.update l now).r, c := (a.update l now).c, tLast := now } := by
  simp only [Ada.update]
  (repeat' split) <;> rfl

@[simp] theorem Ada.update_h (a : Ada) (l : LineRecord) (now : LineTime) : (a.update l now).h = a.h := by
  rw [a.update_eq]

@[simp] theorem Ada.update_alarm (a : Ada) (l : LineRecord) (now : LineTime) : (a.update l now).alarm = a.alarm := by
  rw [a.update_eq]

@[simp] theorem Ada.update_reportedAlarm (a : Ada) (l : LineRecord) (now : LineTime) :
    (a.update l now).reportedAlarm = a.reportedAlarm := by
  rw [a.update_eq]

section
variable {a : Ada} {l : LineRecord} {t : LineTime}

/-- Nothing flows into the reserve while the pump is off or the alarm is ON. -/
theorem Ada.update_without_flow (h : (a.pump && !a.alarm) = false) : a.update l t = { a with tLast := t } := by
  simp [Ada.update, h]

/-- The inflow of `e` ms with the carry of the last update, in ml. -/
def Ada.inflow (a : Ada) (l : LineRecord) (e : Nat) : Nat := (l.q * e + a.c) / 1000

variable (hpump : a.pump = true) (halarm : a.alarm = false)
include hpump halarm

/-- With flow an update adds the inflow and keeps its remainder, or ends at Cap. -/
theorem Ada.update_with_flow {e : Nat} (he : min (t - a.tLast).toNat 600000 = e) :
    a.update l t = if l.cap ≤ a.r + a.inflow l e then { a with r := l.cap, c := 0, tLast := t }
      else { a with r := a.r + a.inflow l e, c := (l.q * e + a.c) % 1000, tLast := t } := by
  subst he
  simp only [Ada.update, hpump, halarm, Bool.not_false, Bool.and_self, if_true]
  rfl

theorem Ada.update_below_cap {e : Nat} (he : (t - a.tLast).toNat = e) (hlimit : e ≤ 600000)
    (hcap : a.r + a.inflow l e < l.cap) :
    a.update l t = { a with r := a.r + a.inflow l e, c := (l.q * e + a.c) % 1000, tLast := t } := by
  rw [Ada.update_with_flow hpump halarm (by rw [he, Nat.min_eq_left hlimit]), if_neg (Nat.not_le.mpr hcap)]

theorem Ada.update_at_cap {e : Nat} (he : min (t - a.tLast).toNat 600000 = e) (hcap : l.cap ≤ a.r + a.inflow l e) :
    a.update l t = { a with r := l.cap, c := 0, tLast := t } := by
  rw [Ada.update_with_flow hpump halarm he, if_pos hcap]

end

/-- Elapsed times add up while their sum is within the clock's round (00 section 5.2). -/
theorem toNat_sub_add_toNat_sub {t0 t1 t2 : LineTime} (h : (t1 - t0).toNat + (t2 - t1).toNat ≤ 600000) :
    (t2 - t0).toNat = (t1 - t0).toNat + (t2 - t1).toNat := by
  bv_omega

/-- The inflow of two intervals, the second with the carry that the first leaves, is that of the whole. -/
theorem inflow_add (q e1 e2 c : Nat) :
    (q * e1 + c) / 1000 + (q * e2 + (q * e1 + c) % 1000) / 1000 = (q * (e1 + e2) + c) / 1000
      ∧ (q * e2 + (q * e1 + c) % 1000) % 1000 = (q * (e1 + e2) + c) % 1000 := by
  rw [Nat.mul_add]
  omega

/-- The whole interval at the largest flow and reserve of 01 section 1.2 fills the reserve (R97). -/
theorem Ada.cap_le_inflow_limit (a : Ada) {l : LineRecord} (h : l.InRange) : l.cap ≤ a.r + a.inflow l 600000 := by
  obtain ⟨hq, -⟩ := h.q
  obtain ⟨-, hcap⟩ := h.cap
  unfold Ada.inflow
  omega

theorem Ada.inflow_mono (a : Ada) (l : LineRecord) {e e' : Nat} (h : e ≤ e') : a.inflow l e ≤ a.inflow l e' :=
  Nat.div_le_div_right (Nat.add_le_add_right (Nat.mul_le_mul_left l.q h) a.c)

/-- Two updates with flow that stay below Cap give what one over the whole interval gives. -/
theorem Ada.update_update {a : Ada} {l : LineRecord} (hpump : a.pump = true) (halarm : a.alarm = false)
    {t1 t2 : LineTime} {e1 e2 : Nat} (he1 : (t1 - a.tLast).toNat = e1) (he2 : (t2 - t1).toNat = e2)
    (hlimit : e1 + e2 ≤ 600000) (hcap : a.r + a.inflow l (e1 + e2) < l.cap) :
    (a.update l t1).update l t2 = a.update l t2 := by
  have hwhole : (t2 - a.tLast).toNat = e1 + e2 := by
    rw [← he1, ← he2] at hlimit ⊢
    exact toNat_sub_add_toNat_sub hlimit
  have hbelow : a.r + a.inflow l e1 < l.cap :=
    (Nat.add_le_add_left (a.inflow_mono l (Nat.le_add_right e1 e2)) a.r).trans_lt hcap
  let b : Ada := { a with r := a.r + a.inflow l e1, c := (l.q * e1 + a.c) % 1000, tLast := t1 }
  obtain ⟨hsum, hcarry⟩ := inflow_add l.q e1 e2 a.c
  have hb : b.r + b.inflow l e2 = a.r + a.inflow l (e1 + e2) := by
    simp only [b, Ada.inflow, Nat.add_assoc, hsum]
  calc (a.update l t1).update l t2
      = b.update l t2 := by
        rw [Ada.update_below_cap hpump halarm he1 ((Nat.le_add_right e1 e2).trans hlimit) hbelow]
    _ = { b with r := b.r + b.inflow l e2, c := (l.q * e2 + b.c) % 1000, tLast := t2 } :=
        Ada.update_below_cap (a := b) hpump halarm he2 ((Nat.le_add_left e2 e1).trans hlimit) (hb ▸ hcap)
    _ = { a with r := a.r + a.inflow l (e1 + e2), c := (l.q * (e1 + e2) + a.c) % 1000, tLast := t2 } := by
        rw [hb]
        simp only [b, hcarry]
    _ = a.update l t2 := (Ada.update_below_cap hpump halarm hwhole hlimit hcap).symm

/-- Settles O55: with flow by the inflow of two intervals, without it by the time of the last update alone. -/
theorem reserveUpdatesMayBeSplit : Obligations.ReserveUpdatesMayBeSplit := by
  refine ⟨fun a l t1 t2 hlimit hcap => ?_, fun a l t hl hpump halarm hlong => ?_⟩
  · cases hflow : a.pump && !a.alarm with
    | false =>
      rw [Ada.update_without_flow hflow, Ada.update_without_flow hflow]
      exact Ada.update_without_flow hflow
    | true =>
      obtain ⟨hpump, halarm⟩ : a.pump = true ∧ a.alarm = false := by simpa using hflow
      exact Ada.update_update hpump halarm rfl rfl hlimit hcap
  · rw [Ada.update_at_cap hpump halarm (Nat.min_eq_right hlong) (a.cap_le_inflow_limit hl)]
    exact ⟨rfl, rfl⟩

/-! ## The first time that suffices (R102) -/

/-- `e` ms of flow bring the reserve to `need` when the inflow makes up what is missing. -/
theorem Ada.le_update_iff {a : Ada} {l : LineRecord} (hpump : a.pump = true) (halarm : a.alarm = false)
    {need e : Nat} (hneed : need ≤ l.cap) (he : e ≤ 600000) :
    need ≤ (a.update l (a.tLast + BitVec.ofNat 32 e)).r ↔ need ≤ a.r + a.inflow l e := by
  have helapsed : (a.tLast + BitVec.ofNat 32 e - a.tLast).toNat = e := by
    bv_omega
  by_cases hcap : a.r + a.inflow l e < l.cap
  · rw [Ada.update_below_cap hpump halarm helapsed he hcap]
  · have hfull : l.cap ≤ a.r + a.inflow l e := Nat.le_of_not_lt hcap
    rw [Ada.update_at_cap hpump halarm (by rw [helapsed, Nat.min_eq_left he]) hfull]
    exact ⟨fun _ => hneed.trans hfull, fun _ => hneed⟩

/-- What is missing, in µl and rounded up to whole ms of flow, is the least time whose inflow suffices. -/
theorem Ada.ceil_le_iff (a : Ada) {l : LineRecord} (hq : 0 < l.q) {need : Nat} (hr : a.r < need) (hc : a.c ≤ 999)
    (e : Nat) : ((need - a.r) * 1000 - a.c + l.q - 1) / l.q ≤ e ↔ need ≤ a.r + a.inflow l e := by
  rw [← Nat.ceilDiv_eq_add_pred_div, ceilDiv_le_iff_le_mul hq]
  unfold Ada.inflow
  omega

theorem Ada.reserveWait_flowing {a : Ada} {l : LineRecord} {q : AdaRequest} (hpump : a.pump = true)
    (halarm : a.alarm = false) (hr : a.r < q.demand + l.f) :
    a.reserveWait l q = some (((q.demand + l.f - a.r) * 1000 - a.c + l.q - 1) / l.q) := by
  simp [Ada.reserveWait, Ada.reserveHolds, hpump, halarm, Nat.not_le.mpr hr]

theorem Ada.reserveWait_still {a : Ada} {l : LineRecord} {q : AdaRequest} (hstill : a.pump = false ∨ a.alarm = true)
    (hshort : a.alarm = true ∨ a.r < q.demand + l.f) : a.reserveWait l q = none := by
  have hholds : a.reserveHolds l q = false := by
    obtain h | h := hshort
    · simp [Ada.reserveHolds, h]
    · simp [Ada.reserveHolds, Nat.not_le.mpr h]
  obtain h | h := hstill <;> simp [Ada.reserveWait, hholds, h]

/-- Settles O56: the wait is what is missing divided by the flow and rounded up. -/
theorem earliestReserveTimeIsTheFirst : Obligations.EarliestReserveTimeIsTheFirst := by
  intro a l q hl hc hneed
  refine ⟨fun hpump halarm hr => ?_, Ada.reserveWait_still⟩
  have hfirst := a.ceil_le_iff (Nat.lt_of_lt_of_le (by decide) hl.q.1) hr hc
  refine ⟨_, Ada.reserveWait_flowing hpump halarm hr, ?_, fun e he => ?_⟩
  · exact (hfirst 600000).mpr (hneed.trans (a.cap_le_inflow_limit hl))
  · rw [Ada.le_update_iff hpump halarm hneed he, hfirst]

end Sys2Proof.Machine
end

section
/-! PROOF. The Admission Arbiter's timers (O53), by R103, R104, R107 and R112. -/

namespace Sys2Proof.Machine

/-! ## The urgency expiry (R107) -/

/-- A request that is alone with its segment is the one found, and the others are the queue without it. -/
theorem State.find_urgentDue {s : State} {k : Nat} {before after : List AdaRequest} {q : AdaRequest} {tm : Timer}
    (hq : q.segment = k) (hothers : ∀ p ∈ before ++ after, p.segment ≠ k) (htm : q.urgency = some tm)
    (hdue : s.due tm = true) : (before ++ q :: after).find? (s.urgentDue k) = some q := by
  have hbefore : ∀ p ∈ before, s.urgentDue k p = false := fun p hp => by
    simp [State.urgentDue, hothers p (List.mem_append_left _ hp)]
  rw [List.find?_append, List.find?_eq_none.mpr fun p hp => by simp [hbefore p hp], Option.none_or]
  exact List.find?_cons_of_pos (by simp [State.urgentDue, hq, htm, hdue])

theorem dropRequest_middle {k : Nat} {before after : List AdaRequest} {q : AdaRequest} (hq : q.segment = k)
    (hothers : ∀ p ∈ before ++ after, p.segment ≠ k) :
    dropRequest k (before ++ q :: after) = before ++ after := by
  have hkept : (before ++ after).filter (fun p => p.segment ≠ k) = before ++ after :=
    List.filter_eq_self.mpr fun p hp => decide_eq_true (hothers p hp)
  rw [List.filter_append] at hkept
  rw [dropRequest, List.filter_append, List.filter_cons_of_neg (by simp [hq]), hkept]

/-- A class is URGENT or NORMAL. -/
theorem filter_not_urgent (l : List AdaRequest) :
    l.filter (fun p => p.cls ≠ .urgent) = l.filter (fun p => p.cls = .normal) :=
  List.filter_congr fun p _ => by cases p.cls <;> rfl

theorem State.urgencyExpires_due {s : State} {k : Nat} {before after : List AdaRequest} {q : AdaRequest} {tm : Timer}
    (hqueue : s.ada.queue = before ++ q :: after) (hq : q.segment = k)
    (hothers : ∀ p ∈ before ++ after, p.segment ≠ k) (htm : q.urgency = some tm) (hdue : s.due tm = true) :
    s.urgencyExpires k = (s.modAda fun a => { a with
        queue := (before ++ after).filter (fun p => p.cls = .urgent)
          ++ q.promote :: (before ++ after).filter (fun p => p.cls = .normal) }).post
      .admissionUrgent (.segment k) none (.duration s.cfg.line.tUrgent) := by
  simp only [State.urgencyExpires, hqueue, State.find_urgentDue hq hothers htm hdue, State.modAda,
    dropRequest_middle hq hothers, placeUrgent, filter_not_urgent]

/-! ## The other timers (R103, R104, R112) -/

theorem State.evaluationExpires_due {s : State} {tm : Timer} (htm : s.ada.evalTimer = some tm)
    (hdue : s.due tm = true) : s.evaluationExpires = s.adaEvaluate := by
  simp [State.evaluationExpires, htm, hdue]

theorem State.staggerExpires_due {s : State} {start : LineTime} (hlast : s.ada.lastAny = some start)
    (hdue : s.cfg.line.tStagger ≤ (s.clock - start).toNat) :
    s.staggerExpires = s.modAda fun a => { a with lastAny := none } := by
  have hdue' : s.due { start := start, limit := s.cfg.line.tStagger } = true := State.due_of_le hdue
  simp [State.staggerExpires, hlast, hdue']

theorem State.periodExpires_due {s : State} {k : Nat} {start : LineTime}
    (hlast : tableGet k s.ada.lastSeg = some start) (hdue : (s.segCfg k).tIndexMin ≤ (s.clock - start).toNat) :
    s.periodExpires k = s.modAda fun a => { a with lastSeg := tableErase k a.lastSeg } := by
  have hdue' : s.due { start := start, limit := (s.segCfg k).tIndexMin } = true := State.due_of_le hdue
  simp [State.periodExpires, hlast, hdue']

/-- Settles O53, timer by timer. -/
theorem admissionTimersExpire : Obligations.AdmissionTimersExpire := by
  intro t k s x
  refine ⟨fun tm htm hdue => ?_, fun before q after tm hqueue hq hothers htm hdue => ?_, rfl,
    fun start hlast hdue => ?_, fun start hlast hdue => ?_⟩
  · have hexpires : x.evaluationExpires = x.adaEvaluate := State.evaluationExpires_due htm (State.due_of_le hdue)
    exact ⟨congrArg (fun y : State => Host.Outcome.next y.closeEvent) hexpires,
      flowsTo_closeEvent x.adaEvaluate_still⟩
  · exact congrArg Host.Outcome.next
      (State.urgencyExpires_due (s := x) hqueue hq hothers htm (State.due_of_le hdue))
  · exact congrArg Host.Outcome.next (State.staggerExpires_due (s := x) hlast hdue)
  · exact congrArg Host.Outcome.next (State.periodExpires_due (s := x) hlast hdue)

end Sys2Proof.Machine
end

section
/-! PROOF. An evaluation of the admission queue (O57): the conditions of a request, the scan, one admission and the end
of the evaluation, by R101 to R112. -/

namespace Sys2Proof.Machine

/-! ## Conditions (R101, R103, R104) -/

theorem Ada.staggerHolds_iff {a : Ada} {l : LineRecord} {now : LineTime} :
    a.staggerHolds l now = true ↔ ∀ start, a.lastAny = some start → l.tStagger ≤ (now - start).toNat := by
  unfold Ada.staggerHolds elapsed
  cases a.lastAny <;> simp

theorem Ada.periodHolds_iff {a : Ada} {tIndexMin k : Nat} {now : LineTime} :
    a.periodHolds tIndexMin k now = true
      ↔ ∀ start, tableGet k a.lastSeg = some start → tIndexMin ≤ (now - start).toNat := by
  unfold Ada.periodHolds elapsed
  cases tableGet k a.lastSeg <;> simp

theorem State.admissible_iff {s : State} {q : AdaRequest} :
    s.admissible q = true ↔
      s.lsv.lineState = .run ∧ (s.lsv.mode = .auto ∨ s.permit q.segment = true)
      ∧ s.ada.alarm = false ∧ q.demand + s.cfg.line.f ≤ s.ada.r
      ∧ s.ada.h.length < s.cfg.line.wMax
      ∧ (∀ start, s.ada.lastAny = some start → s.cfg.line.tStagger ≤ (s.clock - start).toNat)
      ∧ (∀ start, tableGet q.segment s.ada.lastSeg = some start →
          (s.segCfg q.segment).tIndexMin ≤ (s.clock - start).toNat) := by
  simp only [State.admissible, State.admissionOpen, Ada.reserveHolds, Ada.windowHolds, Bool.and_eq_true,
    Bool.or_eq_true, decide_eq_true_iff, Bool.not_eq_true', Ada.staggerHolds_iff, Ada.periodHolds_iff, and_assoc]

/-! ## The scan (R109 step 3) -/

/-- The scan passes over inadmissible NORMAL requests only. -/
theorem State.scanQueue_cons {s : State} {p q : AdaRequest} {l : List AdaRequest} :
    s.scanQueue (p :: l) = some q ↔
      (s.admissible p = true ∧ p = q)
        ∨ (s.admissible p = false ∧ p.cls = .normal ∧ s.scanQueue l = some q) := by
  rw [State.scanQueue]
  cases s.admissible p <;> cases p.cls <;> simp

theorem State.scanQueue_iff {s : State} {l : List AdaRequest} {q : AdaRequest} :
    s.scanQueue l = some q ↔
      ∃ before after, l = before ++ q :: after ∧ s.admissible q = true
        ∧ ∀ p ∈ before, s.admissible p = false ∧ p.cls = .normal := by
  induction l with
  | nil => simp [State.scanQueue]
  | cons p rest ih =>
    rw [State.scanQueue_cons, ih]
    constructor
    · rintro (⟨hadm, rfl⟩ | ⟨hadm, hcls, before, after, rfl, hq, hbefore⟩)
      · exact ⟨[], rest, rfl, hadm, by simp⟩
      · exact ⟨p :: before, after, rfl, hq, List.forall_mem_cons.mpr ⟨⟨hadm, hcls⟩, hbefore⟩⟩
    · rintro ⟨before, after, hl, hq, hbefore⟩
      cases before with
      | nil =>
        obtain ⟨rfl, -⟩ := List.cons.inj hl
        exact .inl ⟨hq, rfl⟩
      | cons b before =>
        obtain ⟨rfl, rfl⟩ := List.cons.inj hl
        obtain ⟨⟨hadm, hcls⟩, hrest⟩ := List.forall_mem_cons.mp hbefore
        exact .inr ⟨hadm, hcls, before, after, rfl, hq, hrest⟩

/-- States in which the same requests are admissible scan a queue alike, whatever its earliest times are. -/
theorem State.scanQueue_map {s u : State} (f : AdaRequest → AdaRequest) (hcls : ∀ q, (f q).cls = q.cls)
    (hadm : ∀ q, u.admissible (f q) = s.admissible q) (l : List AdaRequest) :
    u.scanQueue (l.map f) = (s.scanQueue l).map f := by
  induction l with
  | nil => rfl
  | cons q rest ih =>
    simp only [List.map_cons, State.scanQueue, hcls, hadm, ih]
    split
    · rfl
    · split <;> rfl

/-! ## Rounds (R109 step 4) -/

/-- An admission removes the requests of its segment from the queue (R110). -/
theorem State.adaAdmit_ada (s : State) (q : AdaRequest) :
    (s.adaAdmit q).ada = { s.ada with
      r := s.ada.r - q.demand, h := s.ada.h ++ [s.clock], lastAny := some s.clock,
      lastSeg := tableInsert q.segment s.clock s.ada.lastSeg, queue := dropRequest q.segment s.ada.queue } :=
  State.scAdmitted_ada _ q.segment

theorem State.adaAdmit_queue_length {s : State} {q : AdaRequest} (hq : q ∈ s.ada.queue) :
    (s.adaAdmit q).ada.queue.length < s.ada.queue.length := by
  rw [State.adaAdmit_ada]
  exact List.length_filter_lt_length_iff_exists.mpr ⟨q, hq, by simp⟩

/-- A round that finds no request ends the evaluation, whatever the bound of the rounds is. -/
theorem State.adaRounds_none {s : State} (h : s.adaRefresh.scanQueue s.adaRefresh.ada.queue = none) (n : Nat) :
    State.adaRounds n s = s.adaRefresh.adaSettle := by
  cases n with
  | zero => rfl
  | succ n => simp only [State.adaRounds, h]

theorem State.adaRounds_some {s : State} {q : AdaRequest} (h : s.adaRefresh.scanQueue s.adaRefresh.ada.queue = some q)
    (n : Nat) : State.adaRounds (n + 1) s = (State.adaRounds n (s.adaRefresh.adaAdmit q)).staggerPassed := by
  simp only [State.adaRounds, h]

/-- The queue that an admission of the scan leaves is shorter than the one before the round. -/
theorem State.scanned_queue_length {s : State} {q : AdaRequest}
    (h : s.adaRefresh.scanQueue s.adaRefresh.ada.queue = some q) :
    (s.adaRefresh.adaAdmit q).ada.queue.length < s.ada.queue.length :=
  s.adaRefresh_queue ▸ State.adaAdmit_queue_length (State.scanQueue_admissible h).2

/-- The bound of the rounds is never reached: two bounds that the queue's length is within give the same. -/
theorem State.adaRounds_bound {n m : Nat} {s : State} (hn : s.ada.queue.length ≤ n) (hm : s.ada.queue.length ≤ m) :
    State.adaRounds n s = State.adaRounds m s := by
  induction n generalizing s m with
  | zero =>
    have hempty : s.adaRefresh.ada.queue = [] :=
      s.adaRefresh_queue.trans (List.eq_nil_of_length_eq_zero (Nat.le_zero.mp hn))
    have hnone : s.adaRefresh.scanQueue s.adaRefresh.ada.queue = none := by rw [hempty]; rfl
    rw [State.adaRounds_none hnone, State.adaRounds_none hnone]
  | succ n ih =>
    cases hscan : s.adaRefresh.scanQueue s.adaRefresh.ada.queue with
    | none => rw [State.adaRounds_none hscan, State.adaRounds_none hscan]
    | some q =>
      have hshorter := State.scanned_queue_length hscan
      obtain ⟨m, rfl⟩ : ∃ m', m = m' + 1 := Nat.exists_eq_add_one_of_ne_zero (by omega)
      rw [State.adaRounds_some hscan, State.adaRounds_some hscan, ih (m := m) (by omega) (by omega)]

/-- An evaluation whose scan finds no request ends (R109). -/
theorem State.adaEvaluate_none {s : State} (h : s.adaRefresh.scanQueue s.adaRefresh.ada.queue = none) :
    s.adaEvaluate = s.adaRefresh.adaSettle :=
  State.adaRounds_none h _

/-- An evaluation whose scan finds a request admits it and evaluates again (R109). -/
theorem State.adaEvaluate_some {s : State} {q : AdaRequest}
    (h : s.adaRefresh.scanQueue s.adaRefresh.ada.queue = some q) :
    s.adaEvaluate = (s.adaRefresh.adaAdmit q).adaEvaluate.staggerPassed := by
  have hshorter := State.scanned_queue_length h
  obtain ⟨n, hn⟩ : ∃ n, s.ada.queue.length = n + 1 := Nat.exists_eq_add_one_of_ne_zero (by omega)
  rw [State.adaEvaluate, hn, State.adaRounds_some h, State.adaRounds_bound (by omega) le_rfl]
  rfl

/-! ## The end of an evaluation -/

/-- Where T_stagger is 0 it holds nothing back, so that last_any may be taken away (R104). -/
theorem State.staggerPassed_admissible (s : State) (q : AdaRequest) :
    s.staggerPassed.admissible q = s.admissible q := by
  unfold State.staggerPassed
  split
  · next h =>
    rw [Bool.eq_iff_iff, State.admissible_iff, State.admissible_iff]
    simp only [State.modAda_cfg, h, Nat.zero_le, implies_true]
    rfl
  · rfl

theorem State.staggerPassed_scan (s : State) :
    s.staggerPassed.scanQueue s.staggerPassed.ada.queue = s.scanQueue s.ada.queue := by
  have hscan := State.scanQueue_map (s := s) (u := s.staggerPassed) id (fun _ => rfl) s.staggerPassed_admissible
    s.ada.queue
  rw [List.map_id, Option.map_id] at hscan
  rw [s.staggerPassed_queue]
  exact hscan

/-- The earliest times do not matter to the scan. -/
theorem State.adaSettle_scan (s : State) :
    s.adaSettle.scanQueue s.adaSettle.ada.queue = (s.scanQueue s.ada.queue).map fun q =>
      { q with earliest := (s.admissionWait q).map fun ms => s.clock + BitVec.ofNat 32 ms } :=
  State.scanQueue_map (s := s) (u := s.adaSettle)
    (fun q => { q with earliest := (s.admissionWait q).map fun ms => s.clock + BitVec.ofNat 32 ms })
    (fun _ => rfl) (fun _ => rfl) s.ada.queue

/-- When an evaluation ends, its scan admits nothing more. -/
theorem State.adaEvaluate_scan (s : State) : s.adaEvaluate.scanQueue s.adaEvaluate.ada.queue = none := by
  induction hn : s.ada.queue.length using Nat.strong_induction_on generalizing s with
  | _ n ih =>
    cases hscan : s.adaRefresh.scanQueue s.adaRefresh.ada.queue with
    | none => rw [State.adaEvaluate_none hscan, State.adaSettle_scan, hscan]; rfl
    | some q =>
      rw [State.adaEvaluate_some hscan, State.staggerPassed_scan]
      exact ih _ (hn ▸ State.scanned_queue_length hscan) _ rfl

/-! ## The admitted segment (R80) -/

theorem State.cvtCarry_sc (s : State) (k : Nat) (dest : Option ConvId) : (s.cvtCarry k dest).sc = s.sc := by
  unfold State.cvtCarry
  split <;> rfl

theorem State.scAdmitted_lift {s : State} {k : Nat} (hk : k ∈ s.segNumbers) :
    ((s.scAdmitted k).seg k).state = .lift := by
  let y := (s.modSegMap k fun m => { m with openIndex := some (s.indexToOpen k) }).cvtCarry k (s.indexToOpen k).dest
  have hsc : y.sc = s.sc := State.cvtCarry_sc _ _ _
  obtain ⟨g, hg⟩ := tableGet_of_key hk
  have hadmitted : ((y.modSeg k Segment.admitted).seg k).state = .lift := by
    rw [State.seg, State.modSeg_sc, hsc, tableGet_modify_same, hg]
    rfl
  obtain h | ⟨-, h⟩ := (y.modSeg k Segment.admitted).seg_needDrive k k .lift
  · exact (congrArg Segment.state h).trans hadmitted
  · exact (congrArg Segment.state h).trans hadmitted

/-! ## The obligation -/

/-- An evaluation begins with the update of the Reserve Model and the entries of H still within T_window (R109). -/
theorem State.adaRefresh_eq (s : State) :
    s.adaRefresh = { s with ada := { s.ada.update s.cfg.line s.clock with
      h := s.ada.h.filter fun start => (s.clock - start).toNat < s.cfg.line.tWindow } } := by
  rw [State.adaRefresh, State.modAda, Ada.prune, Ada.update_h]
  rfl

/-- An evaluation leaves the configuration as it is. -/
theorem State.adaEvaluate_cfg (s : State) : s.adaEvaluate.cfg = s.cfg :=
  congrArg Units.cfg (units_of_fixed s.adaEvaluate_fixed)

theorem State.adaAdmit_cfg (s : State) (q : AdaRequest) : (s.adaAdmit q).cfg = s.cfg :=
  congrArg Units.cfg (units_of_fixed (s.adaAdmit_fixed q))

/-- Settles O57: the conditions, the scan, the rounds of an evaluation, an admission and the end of an evaluation. -/
theorem admissionsLeaveTheFloor : Obligations.AdmissionsLeaveTheFloor := by
  refine ⟨fun s q => State.admissible_iff, fun s l q => State.scanQueue_iff, fun s => ?_, fun s q hq => ?_,
    State.adaEvaluate_scan⟩
  · intro x
    have hx : s.adaRefresh = x := s.adaRefresh_eq
    refine ⟨fun hscan => ?_, fun q hscan => ?_⟩
    · have hend : s.adaEvaluate = x.adaSettle := hx ▸ State.adaEvaluate_none (hx.symm ▸ hscan)
      exact ⟨hend, hend⟩
    · have hcfg : (x.adaAdmit q).adaEvaluate.cfg = s.cfg := (State.adaEvaluate_cfg _).trans (x.adaAdmit_cfg q)
      have hround : s.adaEvaluate = (x.adaAdmit q).adaEvaluate.staggerPassed :=
        hx ▸ State.adaEvaluate_some (hx.symm ▸ hscan)
      rw [hround, State.staggerPassed, hcfg]
      rfl
  · obtain ⟨-, -, -, hreserve, -⟩ := State.admissible_iff.mp hq
    have hada := s.adaAdmit_ada q
    refine ⟨hada, ?_, fun hk => State.scAdmitted_lift hk⟩
    rw [hada]
    exact Nat.le_sub_of_add_le' hreserve

end Sys2Proof.Machine
end

section
/-! PROOF. The reserve as the host and the HPU declare it (O42), by R98 to R100. -/

namespace Sys2Proof.Machine

/-! ## RESERVE SET (R100) -/

section
variable {s : State} (volume : Nat)

theorem State.requestReserveSet_config (h : s.lsv.lineState = .config) :
    s.requestReserveSet volume = (s, .state) := by
  simp [State.requestReserveSet, h]

theorem State.requestReserveSet_alarm (h : s.lsv.lineState ≠ .config) (ha : s.ada.alarm = true) :
    s.requestReserveSet volume = (s, .interlock) := by
  simp [State.requestReserveSet, h, ha]

theorem State.requestReserveSet_taken (h : s.lsv.lineState ≠ .config) (ha : s.ada.alarm = false) :
    s.requestReserveSet volume =
      (((s.modAda fun a => { a with r := min volume s.cfg.line.cap, c := 0, tLast := s.clock }).adaEvaluate).closeEvent,
        .ok (beBytes 2 (min volume s.cfg.line.cap))) := by
  simp [State.requestReserveSet, h, ha]

end

/-! ## The HPU's reports and loss (R98, R99) -/

/-- ADMISSION_BLOCKED, posted at a line time (R98, R99, R184). -/
def Clp.blocked (c : Clp) (t : LineTime) (cause : BlockedCause) : Clp :=
  c.postEvent { kind := .admissionBlocked, time := t, subject := { kind := .hpu, number := 0 }, pallet := none,
                detail := .blocked cause }

/-- HPU_ALARM, posted at a line time (R98, R184). -/
def Clp.hpuAlarm (c : Clp) (t : LineTime) (alarm : Bool) : Clp :=
  c.postEvent { kind := .hpuAlarm, time := t, subject := { kind := .hpu, number := 0 }, pallet := none,
                detail := .alarm alarm }

section
variable (s : State)

/-- A report with an alarm that turns ON empties the reserve; the alarm reported is posted where it changed (R98). -/
theorem State.hpuReport_eq (pump alarm : Bool) :
    let now := s.ada.update s.cfg.line s.clock
    let turned := alarm = true ∧ s.ada.alarm = false
    let c1 := if turned then s.clp.blocked s.clock .alarm else s.clp
    s.hpuReport pump alarm = ({ s with
      ada := { now with hpu := .online, pump := pump, alarm := alarm, reportedAlarm := alarm,
                        r := if turned then 0 else now.r, c := if turned then 0 else now.c },
      clp := if alarm = s.ada.reportedAlarm then c1 else c1.hpuAlarm s.clock alarm } : State).adaEvaluate := by
  intro now turned c1
  unfold State.hpuReport
  extract_lets s1 s2 s3
  have hs2 : s2 = { s with
      ada := { now with hpu := .online, pump := pump, alarm := alarm,
                        r := if turned then 0 else now.r, c := if turned then 0 else now.c },
      clp := c1 } := by
    obtain hon | hoff := Bool.eq_false_or_eq_true s.ada.alarm
    · cases alarm <;> simp [s2, s1, c1, turned, now, hon, State.modAda]
    · cases alarm <;>
        simp [s2, s1, c1, turned, now, hoff, State.modAda, State.post, State.modClp, Clp.blocked, Subject.hpu]
  congr 1
  by_cases hsame : alarm = s.ada.reportedAlarm
  · simp [s3, hs2, hsame, now]
  · simp only [s3, hs2, hsame, ne_eq, not_false_eq_true, if_true, if_false]
    rfl

/-- A lost HPU stops the pump, and turns an alarm ON that was OFF, which empties the reserve (R99). -/
theorem State.hpuLost_eq :
    let now := s.ada.update s.cfg.line s.clock
    s.hpuLost = ({ s with
      ada := { now with hpu := .lost, pump := false, alarm := true,
                        r := if s.ada.alarm then now.r else 0, c := if s.ada.alarm then now.c else 0 },
      clp := if s.ada.alarm then s.clp else s.clp.blocked s.clock .hpuLost } : State).adaEvaluate := by
  intro now
  unfold State.hpuLost
  extract_lets s1 s2
  congr 1
  obtain hon | hoff := Bool.eq_false_or_eq_true s.ada.alarm
  · simp [s2, s1, now, hon, State.modAda]
  · simp [s2, s1, now, hoff, State.modAda, State.post, State.modClp, Clp.blocked, Subject.hpu]

end

/-- Settles O42: RESERVE SET by the line state and the alarm, a good reply by its report, and the owner's part of a
report and of a loss. -/
theorem reserveSetDeclaresTheReserve : Obligations.ReserveSetDeclaresTheReserve := by
  refine ⟨fun t tag volume s hready => ?_, fun t chars a nd e pump alarm s hhears hrole => ?_,
    fun s pump alarm => ⟨s.hpuReport_eq pump alarm, s.hpuLost_eq⟩⟩
  · intro x r y
    refine ⟨fun hconfig => ?_, fun hline halarm => ?_, fun hline halarm => ⟨?_, ?_⟩⟩
    · rw [exec_reserveSet hready, State.requestReserveSet_config (s := x) _ hconfig]
    · rw [exec_reserveSet hready, State.requestReserveSet_alarm (s := x) _ hline halarm]
    · rw [exec_reserveSet hready, State.requestReserveSet_taken (s := x) _ hline halarm]
      rfl
    · exact flowsTo_closeEvent y.adaEvaluate_still
  · have hheard := State.replyHeard_hears hhears t
    rw [hrole] at hheard
    exact congrArg (fun y : State => Host.Outcome.next y.closeEvent) hheard

end Sys2Proof.Machine
end

section
/-! PROOF. The Conveyor Tracker and the spur (R30, R118 to R123, R127): jams, arrival credits, a node's count, and the
outcomes of RELEASE. -/

namespace Sys2Proof.Machine

/-! ## Jams (R121) -/

theorem mem_heldSegments {l : List Reservation} {k : Nat} :
    k ∈ heldSegments l ↔ { holder := .segment k, status := .held } ∈ l := by
  induction l with
  | nil => simp [heldSegments]
  | cons r rest ih =>
    obtain ⟨holder, status⟩ := r
    cases holder <;> cases status <;> simp [heldSegments, ih]

/-- What a jam makes of its conveyor, before the reservations are withdrawn. -/
def State.jamEntered (s : State) (c : ConvId) (cause : JamCause) : State :=
  s.modConv c fun v => { v with state := .jammed, cause := some cause, travel := none }

section
variable {s : State} {c : ConvId}

theorem State.jam_jammed (h : (s.conv c).state = .jammed) (cause : JamCause) (id : Option Nat) :
    s.jam c cause id = s :=
  if_pos h

theorem State.jam_flowing (h : (s.conv c).state = .flowing) (cause : JamCause) (id : Option Nat) :
    s.jam c cause id = (heldSegments (s.conv c).reservations).foldl (fun y k => y.withdrawReservation c k)
      ((s.jamEntered c cause).post .conveyorJam (.conveyor c) id (.jam cause)) := by
  rw [State.jam, if_neg (by rw [h]; decide)]
  exact forEach_eq_foldl ..

/-- The withdrawals of a jam are the flow of segments. -/
theorem State.jam_still (h : (s.conv c).state = .flowing) (cause : JamCause) (id : Option Nat) :
    (s.jam c cause id).still = (s.jamEntered c cause).still := by
  rw [State.jam, if_neg (by rw [h]; decide)]
  simp [State.jamEntered]

/-- A conveyor that stands in the table is JAMMED by the jam and all that follows it. -/
theorem State.jam_conv (hc : c ∈ s.cvt.convs.map (·.1)) (h : (s.conv c).state = .flowing) (cause : JamCause)
    (id : Option Nat) : ((s.jam c cause id).conv c).state = .jammed
      ∧ ((s.jam c cause id).conv c).cause = some cause ∧ ((s.jam c cause id).conv c).travel = none := by
  have hconv := conv_of_still (s.jam_still h cause id) c
  rw [State.jamEntered, State.conv_modConv_same hc] at hconv
  exact ⟨congrArg Conveyor.state hconv, congrArg Conveyor.cause hconv, congrArg Conveyor.travel hconv⟩

end

/-! ## A withdrawn reservation (R76, R79, R121) -/

/-- A request withdrawn because of a jam releases nothing: CVT has taken the reservation already. -/
theorem State.scWithdraw_withdrawn (s : State) (k : Nat) (target : SegState) : s.scWithdraw k target false
    = (s.modSeg k fun g => { g with state := target, queued := none, room := .none }).adaWithdraw k := by
  cases h : (s.seg k).room <;> simp [State.scWithdraw, h]

section
variable {s : State} {c : ConvId} {k : Nat}

theorem State.withdrawReservation_ready (h : (s.seg k).state = .ready) : s.withdrawReservation c k
    = ((s.removeReservation c (.segment k)).modSeg k fun g => { g with room := .none, feedWait := none }).scTest
      k := by
  simp only [State.withdrawReservation, h]

theorem State.withdrawReservation_queued (h : (s.seg k).state = .queued) : s.withdrawReservation c k
    = (((s.removeReservation c (.segment k)).modSeg k fun g =>
      { g with state := .ready, queued := none, room := .none }).adaWithdraw k).scTest k := by
  simp only [State.withdrawReservation, h, State.scWithdraw_withdrawn]

theorem State.withdrawReservation_other (hready : (s.seg k).state ≠ .ready) (hqueued : (s.seg k).state ≠ .queued) :
    s.withdrawReservation c k
      = (s.removeReservation c (.segment k)).modSeg k fun g => { g with room := .none } := by
  unfold State.withdrawReservation
  split
  · next h => exact absurd h hready
  · next h => exact absurd h hqueued
  · rfl

end

theorem State.travelExpires_due {s : State} {c : ConvId} {tm : Timer} (h : (s.conv c).travel = some tm)
    (hdue : s.due tm = true) : s.travelExpires c = s.travelJam c := by
  simp only [State.travelExpires, h, hdue, if_true]

/-! ## Arrivals (R118, R119, R122, R123) -/

/-- Two counts of one character differ by the arrivals between them, past 255 as well. -/
theorem countDifference_eq {image count : Nat} (hi : image < 256) (hc : count < 256) :
    countDifference image count = if image ≤ count then count - image else count + 256 - image := by
  unfold countDifference
  split <;> omega

theorem State.modConv_modConv (s : State) (c : ConvId) (f g : Conveyor → Conveyor) :
    (s.modConv c g).modConv c f = s.modConv c fun v => f (g v) := by
  simp only [State.modConv, tableModify_modify]

/-- A view of the record that the change keeps. -/
theorem State.conv_modConv_view {β : Type} (v : Conveyor → β) (s : State) (c d : ConvId) (f : Conveyor → Conveyor)
    (h : ∀ x, v (f x) = v x) : v ((s.modConv c f).conv d) = v (s.conv d) := by
  obtain heq | ⟨-, heq⟩ := s.conv_modConv c d f
  · rw [heq]
  · rw [heq, h]

/-- The conveyor with its node's report stored. -/
def State.convReported (s : State) (c : ConvId) (count : Nat) (jam head : Bool) : State :=
  s.modConv c fun v => { v with report := some (count, jam, head) }

/-- The conveyor with the report stored and its count as the image. -/
def State.counted (s : State) (c : ConvId) (count : Nat) (jam head : Bool) : State :=
  s.modConv c fun v => { v with report := some (count, jam, head), image := some count }

section
variable (s : State) (c : ConvId) (count : Nat) (jam head : Bool)

theorem State.convReported_image : ((s.convReported c count jam head).conv c).image = (s.conv c).image :=
  State.conv_modConv_view Conveyor.image s c c _ fun _ => rfl

theorem State.convReported_expected : ((s.convReported c count jam head).conv c).expected = (s.conv c).expected :=
  State.conv_modConv_view Conveyor.expected s c c _ fun _ => rfl

theorem State.convReported_counted :
    ((s.convReported c count jam head).modConv c fun v => { v with image := some count })
      = s.counted c count jam head :=
  State.modConv_modConv ..

end

section
variable {s : State} {c : ConvId} {count : Nat} {jam head : Bool}

/-- A report's count is taken first, then its jam flag (R118, R122). -/
theorem State.conveyorReport_of_count {z : State} (h : (s.convReported c count jam head).takeCount c count = z) :
    s.conveyorReport c count jam head = if jam then z.jam c .nodeJam none else z := by
  rw [← h]
  rfl

theorem State.conveyorReport_first (h : (s.conv c).image = none) : s.conveyorReport c count jam head
    = if jam then (s.counted c count jam head).jam c .nodeJam none else s.counted c count jam head := by
  refine State.conveyorReport_of_count ?_
  simp only [State.takeCount, State.convReported_image, h, State.convReported_counted]

theorem State.conveyorReport_counted {image : Nat} (h : (s.conv c).image = some image) (hi : image < 256)
    (hc : count < 256) :
    let arrived := if image ≤ count then count - image else count + 256 - image
    let credits := min arrived (s.conv c).expected
    let x := s.counted c count jam head
    let y := if credits = 0 then x else x.credit c credits
    let z := if (s.conv c).expected < arrived then y.jam c .phantomArrival none else y
    s.conveyorReport c count jam head = if jam then z.jam c .nodeJam none else z := by
  intro arrived credits x y z
  refine State.conveyorReport_of_count ?_
  simp only [State.takeCount, State.convReported_image, State.convReported_expected, h,
    countDifference_eq hi hc, State.convReported_counted]
  rfl

end

theorem creditOldest_zero (l : List Entry) : creditOldest 0 l = l := by
  cases l <;> rfl

theorem creditOldest_nil (n : Nat) : creditOldest n [] = [] := by
  cases n <;> rfl

/-- A credit gives the notice of a new ARRIVED head, then sets the travel timer afresh (R30, R120; log entry 34). -/
theorem State.credit_eq (s : State) (c : ConvId) (n : Nat) :
    let x := (s.setList c (creditOldest n (s.list c))).modConv c fun v => { v with expected := v.expected - n }
    s.credit c n = (if s.arrivedHead c = none ∧ x.arrivedHead c ≠ none then x.headNotice c else x).syncTravel
      (s.oldestTraveller c) c := by
  intro x
  have hnew : ((s.arrivedHead c).isNone && (x.arrivedHead c).isSome) = true
      ↔ s.arrivedHead c = none ∧ x.arrivedHead c ≠ none := by
    rw [Bool.and_eq_true, Option.isNone_iff_eq_none, Option.isSome_iff_ne_none]
  simp only [State.credit, ← hnew]
  rfl

/-! ## The spur release (R127) -/

section
variable {s : State}

theorem State.spurReserved_iff : s.spurReserved = true ↔ ∃ r ∈ (s.conv .rc).reservations, r.holder = .spur := by
  simp [State.spurReserved]

theorem State.spurReserved_false (h : ∀ r ∈ (s.conv .rc).reservations, r.holder ≠ .spur) : s.spurReserved = false :=
  Bool.eq_false_iff.mpr fun hspur => by
    obtain ⟨r, hr, hholder⟩ := State.spurReserved_iff.mp hspur
    exact h r hr hholder

theorem State.list_setList_other {c d : ConvId} (h : d ≠ c) (l : List Entry) : (s.setList c l).list d = s.list d := by
  simp only [State.list, State.setList, tableGet_modify_other h]

theorem State.spurMoves_cons {e : Entry} {rest : List Entry} (h : s.list .vs = e :: rest) :
    s.spurMoves = (s.setList .vs rest).setList .rc
      (s.list .rc ++ [{ pallet := e.pallet, state := .inTransit, entryTime := s.clock }]) := by
  simp only [State.spurMoves, h]
  rw [State.list_setList_other (by decide)]

theorem State.releaseDelivered_reserved (h : s.spurReserved = true) : s.releaseDelivered
    = (((s.spurMoves.syncPlacements.removeReservation .rc .spur).expectMore .rc).grantPass .vs).headNotice .vs :=
  if_pos h

theorem State.releaseDelivered_stale (h : s.spurReserved = false) : s.releaseDelivered = s.endStaleRelease :=
  if_neg (by rw [h]; decide)

theorem State.releaseRefused_reserved (h : s.spurReserved = true) :
    s.releaseRefused = ((s.releaseRoom .rc .spur).jam .vs .nodeJam none).requeueSpur :=
  if_pos h

theorem State.releaseRefused_stale (h : s.spurReserved = false) :
    s.releaseRefused = (s.jam .vs .nodeJam none).endStaleRelease :=
  if_neg (by rw [h]; decide)

end

end Sys2Proof.Machine
end

section
/-! PROOF. The tag check of S1: its close, a reader's report and the end of T_read (R38 to R40); with the
conveyors, O54. -/

namespace Sys2Proof.Machine

/-! ## The close of an OPEN check (R40) -/

theorem State.closeTag_notice (s : State) (o : TagOpening) : s.closeTag o.notice = s.tagClosed o := by
  have hmoving : s.moving = true ↔ s.lsv.lineState = .run ∨ s.lsv.lineState = .stopping := by
    simp [State.moving]
  have hnotice : (((s.setTag .none).setTrackHold false).noticeN1 o.notice)
      = match o.notice with
        | some id => if s.lsv.lineState = .run ∨ s.lsv.lineState = .stopping then
            ((s.setTag .none).setTrackHold false).arrival 1 1 id else (s.setTag .none).setTrackHold false
        | none => (s.setTag .none).setTrackHold false := by
    cases o.notice with
    | none => rfl
    | some id =>
      simp only [State.noticeN1, ← hmoving]
      rfl
  rw [State.closeTag, hnotice]
  rfl

/-- The rest of a segment at the end of STOPPING leaves its track hold. -/
theorem State.closeEvent_trackHold_any (s : State) (k : Nat) :
    (s.closeEvent.seg k).trackHold = (s.seg k).trackHold := by
  obtain h | h := s.seg_closeEvent k
  · rw [h]
  · rw [h, Segment.rest]
    split <;> rfl

/-! ## A reader's report (R38 to R40) -/

/-- The reader's image taken from its report. -/
def State.imaged (s : State) (sequence : Nat) : State :=
  { s with trk := { s.trk with readerImage := some sequence } }

section
variable {s : State} {sequence value : Nat}

theorem State.readerReport_notFresh (h : ∀ o, s.trk.tag = .opened o → o.image = some sequence) :
    s.readerReport sequence value = s.imaged sequence := by
  simp only [State.readerReport]
  split
  · next o ho => exact if_pos (h o ho)
  · rfl

theorem State.readerReport_fresh {o : TagOpening} (ho : s.trk.tag = .opened o) (hi : o.image ≠ some sequence) :
    s.readerReport sequence value = (s.imaged sequence).freshRead o value := by
  simp only [State.readerReport, ho, if_neg hi]
  rfl

theorem State.freshRead_unreadable (o : TagOpening) (h : 251 ≤ value) :
    s.freshRead o value = (s.postTag .tagUnreadable o (some value)).tagClosed o := by
  rw [State.freshRead, if_pos h, State.closeTag_notice]

/-- A read of a seated pallet closes the check when it is that pallet's, and holds it otherwise. -/
theorem State.freshRead_seated {o : TagOpening} {id : Nat} (ho : o.occupant = some id) (h : value < 251) :
    s.freshRead o value = if value = id then s.tagClosed o
      else if value = 0 then (s.postTag .tagMissing o (some value)).setTag (.held o value false)
      else (s.postTag .tagMismatch o (some value)).setTag (.held o value false) := by
  rw [State.freshRead, if_neg (by omega), State.closeTag_notice]
  simp only [ho, Option.getD_some, Option.isSome_some, if_true]
  split
  · rfl
  · split <;> rfl

/-- A read of an empty nest closes the check when it finds no tag, and holds it otherwise. -/
theorem State.freshRead_empty {o : TagOpening} (ho : o.occupant = none) (h : value < 251) :
    s.freshRead o value = if value = 0 then s.tagClosed o
      else (s.postTag .tagUnexpected o (some value)).setTag (.held o value false) := by
  rw [State.freshRead, if_neg (by omega), State.closeTag_notice]
  simp only [ho, Option.getD_none]
  split
  · rfl
  · rfl

end

theorem State.tagReadExpires_due {s : State} {o : TagOpening} (ho : s.trk.tag = .opened o)
    (hdue : s.due { start := o.openedAt, limit := s.cfg.line.tRead } = true) :
    s.tagReadExpires = (s.postTag .tagUnreadable o none).tagClosed o := by
  simp only [State.tagReadExpires, ho, hdue, if_true, State.closeTag_notice]

/-! ## The obligation -/

/-- Settles O54: the travel timer and the jam, a conveyor's report and its credits, the outcomes of RELEASE, and the tag
check at the end of T_read and at a fresh read. -/
theorem travelAndTagTimersExpire : Obligations.TravelAndTagTimersExpire := by
  refine ⟨?_, ?_, ?_, ?_, ?_, State.credit_eq, ?_, ?_, ?_, ?_⟩
  · intro t number s c tm hnumber htravel hflowing hlimit
    have hdue : (s.at t).due tm = true := State.due_of_le (s := s.at t) hlimit
    have hexpires : (s.at t).travelExpiresAt number = (s.at t).travelJam c := by
      rw [State.travelExpiresAt, hnumber]
      exact State.travelExpires_due htravel hdue
    have hexec : exec (.travelTimeout t number) s = .next ((s.at t).travelJam c).closeEvent :=
      congrArg (fun u : State => Host.Outcome.next u.closeEvent) hexpires
    have hc : c ∈ (s.at t).cvt.convs.map (·.1) :=
      State.mem_convs_of_ne fun hfresh => nomatch (congrArg Conveyor.travel hfresh).symm.trans htravel
    obtain ⟨hstate, hcause, hstopped⟩ := State.jam_conv hc hflowing .travelTimeout
      ((oldestInTransit (s.list c)).map (·.pallet))
    refine ⟨hexec, _, hexec, ?_, ?_, ?_, flowsTo_closeEvent (State.jam_still (s := s.at t) hflowing _ _)⟩
    · rw [State.closeEvent_conv]; exact hstate
    · rw [State.closeEvent_conv]; exact hcause
    · rw [State.closeEvent_conv]; exact hstopped
  · intro t s o ho hlimit
    have hexec : exec (.tagReadTimeout t) s
        = .next (((s.at t).postTag .tagUnreadable o none).tagClosed o).closeEvent :=
      congrArg (fun u : State => Host.Outcome.next u.closeEvent)
        (State.tagReadExpires_due (s := s.at t) ho (State.due_of_le (s := s.at t) hlimit))
    refine ⟨hexec, _, hexec, ?_⟩
    rw [← State.closeTag_notice]
    have hmap := ((s.at t).postTag .tagUnreadable o none).closeTag_map o.notice
    refine ⟨?_, ?_, fun k => ?_, ?_, worksTo_closeEvent (by simp)⟩
    · rw [State.closeEvent_trk, tag_of_map hmap]; rfl
    · rw [State.closeEvent_trackHold_any, State.closeTag_trackHold]
    · rw [State.closeEvent_nests, nests_of_map hmap]; rfl
    · rw [State.closeEvent_trk, lists_of_map hmap]; rfl
  · intro s c cause id
    refine ⟨fun h => State.jam_jammed h cause id, fun h => ?_, fun l k => mem_heldSegments⟩
    refine (State.jam_flowing h cause id).trans
      (congrArg (fun f => List.foldl f _ _) (funext₂ fun y k => ?_))
    split
    · next hready => exact State.withdrawReservation_ready hready
    · next hqueued => exact State.withdrawReservation_queued hqueued
    · next hready hqueued => exact State.withdrawReservation_other hready hqueued
  · intro t chars a c nd e count jam head s hhears hrole
    have hheard := State.replyHeard_hears hhears t
    rw [hrole] at hheard
    exact congrArg (fun x : State => Host.Outcome.next x.closeEvent) hheard
  · intro s c count jam head hcount
    exact ⟨State.conveyorReport_first, fun image himage hi => State.conveyorReport_counted himage hi hcount⟩
  · exact fun e l n => ⟨creditOldest_zero l, creditOldest_nil n, rfl⟩
  · intro s
    refine ⟨rfl, rfl, rfl, rfl, rfl, fun c code hspur => ?_, fun c code hstale => ?_⟩
    · have hreserved := State.spurReserved_iff.mpr hspur
      refine ⟨fun e rest hvs => ?_, State.releaseRefused_reserved hreserved⟩
      refine (State.releaseDelivered_reserved hreserved).trans ?_
      rw [State.spurMoves_cons hvs]
      rfl
    · have hfree := State.spurReserved_false hstale
      exact ⟨State.releaseDelivered_stale hfree, State.releaseRefused_stale hfree⟩
  · intro t chars a nd e sequence value s hhears hrole
    have hheard := State.replyHeard_hears hhears t
    rw [hrole] at hheard
    exact congrArg (fun x : State => Host.Outcome.next x.closeEvent) hheard
  · intro s sequence value x
    refine ⟨State.readerReport_notFresh, fun o ho hi => ?_⟩
    intro closed posted holds
    rw [State.readerReport_fresh ho hi]
    refine ⟨State.freshRead_unreadable o, fun hv => ⟨fun id hid _ => State.freshRead_seated hid hv,
      fun hempty => State.freshRead_empty hempty hv⟩⟩

end Sys2Proof.Machine
end

section
/-! PROOF. Resets (R145, R189), UNCOMMIT (R155, R159) and RESTART (R156). -/

namespace Sys2Proof.Machine

@[simp] theorem State.taking_lsv (s : State) (t : LineTime) : (s.taking t).lsv = s.lsv := rfl

/-! ## The reset state -/

/-- The reset state holds the initial values that R145 lists. -/
theorem State.reset_values :
    State.reset.lsv.lineState = .config ∧ State.reset.lsv.mode = .auto
    ∧ State.reset.lsv.estop = false ∧ State.reset.lsv.permits = [] ∧ State.reset.clock = 0
    ∧ State.reset.estopHeld = 0
    ∧ State.reset.trk.pallets = [] ∧ State.reset.clp.requests = [] ∧ State.reset.clp.replies = []
    ∧ State.reset.clp.events = [] ∧ State.reset.clp.gap = false ∧ State.reset.clp.linkError = false
    ∧ State.reset.clp.overrun = false ∧ State.reset.clp.rx = .hunting
    ∧ State.reset.rdy = true ∧ State.reset.atn = false
    ∧ State.reset.sbm.scan = .silent ∧ State.reset.sbm.nodes = [] ∧ State.reset.rtu.serial = 1 := by
  decide

/-- An asserted ESTOP_IN right after a reset is an assertion in CONFIG (R151). -/
theorem State.afterReset_asserted (waiting : List Instr) (br : BitVec 2) :
    State.afterReset waiting true br =
      { State.reset with
        pending := waiting,
        lsv := { Lsv.reset with estop := true },
        clp := { Clp.reset with
          rate := br,
          events := [{ kind := .estopOn, time := 0, subject := { kind := .line, number := 0 },
                       pallet := none, detail := .none }] } } := rfl

theorem State.outputs_bde_silent {s : State} (h : s.sbm.scan = .silent) : (s.outputs true).bde = some false := by
  simp [State.outputs, h]

/-- Settles O3: a reset writes the reset state out whole, and the outputs are functions of the level of RESETn. -/
theorem hardwareResetGivesTheResetState : Obligations.HardwareResetGivesTheResetState :=
  ⟨fun br s => ⟨rfl, congrArg Host.Outcome.next (State.afterReset_asserted s.pending br)⟩,
    fun _ => ⟨rfl, rfl, rfl, State.outputs_bde_silent⟩, State.reset_values⟩

theorem State.reset_queuesWithin : State.reset.QueuesWithin where
  requests := by decide
  replies := by decide
  events := by decide
  pallets := by decide
  sending := nofun
  waiting := fun h => absurd rfl h

theorem State.reset_within : State.reset.within :=
  ⟨by decide, ⟨by decide, by decide, by decide⟩, by decide⟩

theorem State.reset_mapSound : State.reset.MapSound where
  map := ⟨List.Pairwise.nil, List.nodup_nil, nofun, nofun⟩
  segments := nofun
  conveyors := nofun
  queue := ⟨List.nodup_nil, nofun⟩
  check := fun h => absurd rfl h
  passed := nofun

/-- Settles O16: with nothing in service every table of the reset state is empty. -/
theorem resetMeetsTheInvariants : Obligations.ResetMeetsTheInvariants :=
  ⟨State.reset_queuesWithin, State.reset_shaped, State.reset_within, nofun, State.reset_mapSound⟩

/-! ## UNCOMMIT and RESTART -/

theorem State.requestUncommit_elsewhere {s : State} (hl : s.lsv.lineState ≠ .idle) :
    s.requestUncommit = (s, .state) := by
  simp [State.requestUncommit, hl]

/-- A scan in progress at UNCOMMIT runs its slot to the end (R159). -/
theorem Sbm.uncommitted_scanning {b : Sbm} {first cut : _} (h : b.scan = .scanning first cut) :
    b.uncommitted = { nodes := [], schedule := [], scan := .ending, window := none, tx := b.tx } := by
  simp [Sbm.uncommitted, h]

theorem State.scanStarts_ending {s : State} (h : s.sbm.scan = .ending) : s.scanStarts = s.fallSilent := by
  simp [State.scanStarts, h]

theorem State.slotPolls_ending {s : State} (h : s.sbm.scan = .ending) (slot : Nat) :
    s.slotPolls slot = s.fallSilent := by
  simp [State.slotPolls, h]

/-- A reply outside every response window is ignored (R162). -/
theorem State.replyHeard_closed {s : State} (h : s.sbm.window = none) (chars : List BusChar) :
    s.replyHeard chars = s := by
  simp [State.replyHeard, h]

/-- Settles O26: UNCOMMIT's next state written out, and the bus at the next slot boundary. -/
theorem uncommitTakesTheConfigurationOutOfService : Obligations.UncommitTakesTheConfigurationOutOfService := by
  refine ⟨fun t tag s hr => ⟨fun hl first cut hscan => ?_, fun hl => ?_⟩, fun t s hscan => ?_⟩
  · rw [exec_uncommit hr, State.requestUncommit_idle (s := s.taking t) hl, State.uncommitLine,
      Sbm.uncommitted_scanning (b := (s.taking t).sbm) hscan]
    rfl
  · rw [exec_uncommit hr, State.requestUncommit_elsewhere (s := s.taking t) hl]
  · refine ⟨congrArg Host.Outcome.next (State.scanStarts_ending (s := s.at t) hscan),
      fun slot => congrArg Host.Outcome.next (State.slotPolls_ending (s := s.at t) hscan slot),
      fun chars hw => congrArg Host.Outcome.next ?_⟩
    rw [State.replyHeard_closed (s := s.at t) hw]

theorem State.requestRestart_accepted {s : State} (h : s.lineIn [.config, .idle, .halt] = true) :
    s.requestRestart = (s.modClp fun c => { c with restarting := true }, okEmpty) := by
  simp [State.requestRestart, h]

theorem State.requestRestart_refused {s : State} (h : s.lineIn [.config, .idle, .halt] = false) :
    s.requestRestart = (s, .state) := by
  simp [State.requestRestart, h]

/-- Settles O32, by the line states in which RESTART is accepted. -/
theorem restartStopsTheTakingOfFrames : Obligations.RestartStopsTheTakingOfFrames := by
  refine fun t tag s hr => ⟨fun hl => ?_, fun hl => ?_⟩
  · have hin : (s.taking t).lineIn [.config, .idle, .halt] = true := by
      rcases hl with h | h | h <;> simp [State.lineIn, h]
    rw [exec_restart hr, State.requestRestart_accepted hin]
    rfl
  · have hin : (s.taking t).lineIn [.config, .idle, .halt] = false := by
      rcases hl with h | h <;> simp [State.lineIn, h]
    rw [exec_restart hr, State.requestRestart_refused hin]

end Sys2Proof.Machine
end

section
/-! PROOF. RECOVER (R154): the stations that leave FAULT (R69), and the travel that starts again (R128). -/

namespace Sys2Proof.Machine

/-! ## A station's recovery -/

/-- A station record after RECOVER, by what is pending at its node (R69). -/
def Station.recovered (st : Station) (pending : Option CmdCode) : Station :=
  if st.state = .fault ∧ st.cause = some .estop ∧ (st.node = .online ∨ st.node = .missing)
      ∧ pending = none ∧ st.reportsUnclamped = true then st.idleIn .released
  else if st.state = .fault ∧ st.cause = some .estop ∧ (st.node = .online ∨ st.node = .missing)
      ∧ pending = none ∧ st.reportsLockout = true then st.idleIn .lockout
  else st

theorem Station.recovered_settled {st : Station} (h : st.state ≠ .fault) (pending : Option CmdCode) :
    st.recovered pending = st := by
  simp [Station.recovered, h]

theorem Station.recovered_recovered (st : Station) (pending : Option CmdCode) :
    (st.recovered pending).recovered pending = st.recovered pending := by
  by_cases hun : st.state = .fault ∧ st.cause = some .estop ∧ (st.node = .online ∨ st.node = .missing)
      ∧ pending = none ∧ st.reportsUnclamped = true
  · rw [show st.recovered pending = st.idleIn .released from if_pos hun]
    exact Station.recovered_settled (by simp [Station.idleIn]) pending
  · by_cases hlock : st.state = .fault ∧ st.cause = some .estop ∧ (st.node = .online ∨ st.node = .missing)
        ∧ pending = none ∧ st.reportsLockout = true
    · rw [show st.recovered pending = st.idleIn .lockout from (if_neg hun).trans (if_pos hlock)]
      exact Station.recovered_settled (by simp [Station.idleIn]) pending
    · have hsame : st.recovered pending = st := (if_neg hun).trans (if_neg hlock)
      rw [hsame, hsame]

theorem State.recoverStation_eq (s : State) (n : Nat) :
    s.recoverStation n = s
        ∧ (s.station n).recovered (s.stationPending n) = s.station n
      ∨ ∃ st', s.recoverStation n = s.stationIdle n st'
        ∧ (s.station n).recovered (s.stationPending n) = (s.station n).idleIn st' := by
  by_cases hf : (s.station n).state = .fault ∧ (s.station n).cause = some .estop
      ∧ ((s.station n).node = .online ∨ (s.station n).node = .missing) ∧ s.stationPending n = none
  · obtain ⟨hstate, hcause, hnode, hpending⟩ := hf
    cases hun : (s.station n).reportsUnclamped
    case true =>
      exact .inr ⟨.released, by simp [State.recoverStation, *], by simp [Station.recovered, *]⟩
    case false =>
      cases hlock : (s.station n).reportsLockout
      case true => exact .inr ⟨.lockout, by simp [State.recoverStation, *], by simp [Station.recovered, *]⟩
      case false => exact .inl ⟨by simp [State.recoverStation, *], by simp [Station.recovered, *]⟩
  · refine .inl ⟨?_, ?_⟩
    · simp only [State.recoverStation, Bool.and_eq_true, Bool.or_eq_true, decide_eq_true_eq,
        Option.isNone_iff_eq_none]
      exact if_neg fun h => hf (by tauto)
    · exact (if_neg fun h => hf (by tauto)).trans (if_neg fun h => hf (by tauto))

theorem State.recoverStation_numbers (s : State) (n : Nat) :
    (s.recoverStation n).stationNumbers = s.stationNumbers := by
  obtain ⟨heq, -⟩ | ⟨st', heq, -⟩ := s.recoverStation_eq n
  · rw [heq]
  · rw [heq]; simp [State.stationNumbers, State.stationIdle]

theorem State.recoverStation_pending (s : State) (n m : Nat) :
    (s.recoverStation n).stationPending m = s.stationPending m := by
  obtain ⟨heq, -⟩ | ⟨st', heq, -⟩ := s.recoverStation_eq n
  · rw [heq]
  · rw [heq]; rfl

theorem State.recoverStation_same {s : State} {n : Nat} (hn : n ∈ s.stationNumbers) :
    (s.recoverStation n).station n = (s.station n).recovered (s.stationPending n) := by
  obtain ⟨heq, hrec⟩ | ⟨st', heq, hrec⟩ := s.recoverStation_eq n
  · rw [heq, hrec]
  · obtain ⟨st, hst⟩ := tableGet_of_key hn
    rw [heq, hrec, State.stationIdle, State.station_modStation_same hst, State.station_of_get hst]

theorem State.recoverStation_other (s : State) {n m : Nat} (h : m ≠ n) :
    (s.recoverStation n).station m = s.station m := by
  obtain ⟨heq, -⟩ | ⟨st', heq, -⟩ := s.recoverStation_eq n
  · rw [heq]
  · rw [heq, State.stationIdle, State.station_modStation_other h]

/-- Each station of the list is recovered once, however often the list names it. -/
theorem State.forEach_recoverStation {l : List Nat} {s : State} {n : Nat} (hn : n ∈ s.stationNumbers) (hl : n ∈ l) :
    (forEach (fun m x => x.recoverStation m) l s).station n
      = (s.station n).recovered (s.stationPending n) := by
  have hkept (l : List Nat) {x : State} (hn : n ∈ x.stationNumbers)
      (hx : (x.station n).recovered (x.stationPending n) = x.station n) :
      (forEach (fun m x => x.recoverStation m) l x).station n = x.station n := by
    induction l generalizing x with
    | nil => rfl
    | cons m rest ih =>
      have hm : (x.recoverStation m).station n = x.station n := by
        by_cases h : n = m
        · subst h; rw [State.recoverStation_same hn, hx]
        · exact x.recoverStation_other h
      rw [forEach, ih (x.recoverStation_numbers m ▸ hn) (by rw [x.recoverStation_pending, hm, hx]), hm]
  induction l generalizing s with
  | nil => cases hl
  | cons m rest ih =>
    by_cases h : n = m
    · subst h
      rw [forEach, hkept rest (s.recoverStation_numbers n ▸ hn)
        (by rw [State.recoverStation_pending, State.recoverStation_same hn, Station.recovered_recovered]),
        State.recoverStation_same hn]
    · rw [forEach, ih (s.recoverStation_numbers m ▸ hn) ((List.mem_cons.mp hl).resolve_left h),
        s.recoverStation_pending, s.recoverStation_other h]

theorem State.recoverStations_station {s : State} {n : Nat} (hn : n ∈ s.stationNumbers) :
    s.recoverStations.station n = (s.station n).recovered (s.stationPending n) := by
  rw [State.recoverStations, State.station_of_stations (forEach_view (fun x : State => x.sqs.stations)
    (fun k x => x.sqsAfter_stations k) _ _) n]
  exact State.forEach_recoverStation hn hn

/-! ## The travel after RECOVER -/

theorem State.restartTravel_stations (s : State) : s.restartTravel.sqs.stations = s.sqs.stations := by
  simp only [State.restartTravel]
  rw [forEach_view (f := fun c x => State.setTravel x c) (fun x : State => x.sqs.stations) fun _ _ => rfl]

theorem State.restartTravel_lists (s : State) :
    s.restartTravel.trk.lists = s.trk.lists.map fun p => (p.1, restampInTransit s.clock p.2) := by
  simp only [State.restartTravel]
  rw [forEach_view (f := fun c x => State.setTravel x c) (fun x : State => x.trk.lists) fun _ _ => rfl]

/-! ## RECOVER -/

theorem State.requestRecover_elsewhere {s : State} (h : s.lsv.lineState ≠ .halt) :
    s.requestRecover = (s, .state) := by
  simp [State.requestRecover, h]

theorem State.requestRecover_asserted {s : State} (hl : s.lsv.lineState = .halt) (he : s.lsv.estop = true) :
    s.requestRecover = (s, .interlock) := by
  simp [State.requestRecover, hl, he]

theorem State.requestRecover_released {s : State} (hl : s.lsv.lineState = .halt) (he : s.lsv.estop = false) :
    s.requestRecover = (s.recoverLine.closeEvent, .ok []) := by
  simp [State.requestRecover, hl, he, okEmpty]

theorem State.recoverLine_fixed (s : State) :
    s.recoverLine.fixed = { s with lsv := { s.lsv with lineState := .idle } }.fixed := by
  simp [State.recoverLine, State.enterLine_fixed]

theorem State.recoverLine_lineState (s : State) : s.recoverLine.lsv.lineState = .idle :=
  lineState_of_fixed s.recoverLine_fixed

theorem State.recoverLine_station {s : State} {n : Nat} (hn : n ∈ s.stationNumbers) :
    s.recoverLine.closeEvent.station n = (s.station n).recovered (s.stationPending n) := by
  rw [State.station_of_stations (State.closeEvent_stations _), State.recoverLine,
    State.station_of_stations (State.restartTravel_stations _)]
  exact State.recoverStations_station (s := s.enterLine .idle .recover) hn

theorem State.recoverLine_lists (s : State) :
    s.recoverLine.closeEvent.trk.lists = s.trk.lists.map fun p => (p.1, restampInTransit s.clock p.2) := by
  have hkept := lists_of_map (mapView.recoverStations (s.enterLine .idle .recover))
  have hclock := congrArg (fun x : State => x.clock) (State.recoverStations_fixed (s.enterLine .idle .recover))
  rw [State.closeEvent_trk, State.recoverLine, State.restartTravel_lists, hkept]
  exact congrArg (fun t : LineTime => s.trk.lists.map fun p => (p.1, restampInTransit t p.2)) hclock

/-- Settles O31, by the line state and the ESTOP image. -/
theorem recoverReturnsTheLineToIdle : Obligations.RecoverReturnsTheLineToIdle := by
  refine fun t tag s hr => ⟨fun hl he => ?_, fun hl he => ?_, fun hl => ?_⟩
  · refine ⟨(s.taking t).recoverLine.closeEvent, ?_, ?_, fun n hn => ?_, ?_, ?_⟩
    · rw [exec_recover hr, State.requestRecover_released (s := s.taking t) hl he]
    · rw [State.closeEvent_notices (by simp [State.recoverLine_lineState]) (by simp [State.recoverLine_lineState])]
      exact State.recoverLine_lineState _
    · have hst : (s.taking t).recoverLine.closeEvent.station n = (s.station n).recovered (s.stationPending n) :=
        State.recoverLine_station (s := s.taking t) hn
      unfold Station.recovered at hst
      dsimp only
      split_ifs at hst ⊢ <;> exact hst
    · exact State.recoverLine_lists (s.taking t)
    · exact worksTo_closeEvent (State.recoverLine_fixed (s.taking t))
  · rw [exec_recover hr, State.requestRecover_asserted (s := s.taking t) hl he]
  · rw [exec_recover hr, State.requestRecover_elsewhere (s := s.taking t) hl]

end Sys2Proof.Machine
end

section
/-! PROOF. What the work between the blocks keeps in each line state: one law for every property that the updates it is
made of keep, each update where the line state lets it happen (R94, R109). In RUN a segment may be admitted; outside it
the lift history is only pruned, no segment is QUEUED, and no segment leaves OFF or FAULT. -/

namespace Sys2Proof.Machine

/-- What the work outside RUN leaves but for its events, the segment records, the lift history and the common
releases. -/
structure Standing where
  clock : LineTime
  line : LineState
  cfg : ConfigStore
  clp : Clp
  sc : List (Nat × Segment)
  common : List (Nat × CommonState)
  nests : List (Nat × List (Option Nat) × Option OpenIndex)
  lists : List (ConvId × List Entry)
  tag : TagCheck
  lifts : List LineTime
  spacing : Option LineTime × List (Nat × LineTime)

def State.standing (s : State) : Standing :=
  { clock := s.clock, line := s.lsv.lineState, cfg := s.cfg, clp := s.clp, sc := s.sc, common := s.sqs.common,
    nests := s.trk.segs.map fun p => (p.1, p.2.nests, p.2.openIndex), lists := s.trk.lists, tag := s.trk.tag,
    lifts := s.ada.h, spacing := (s.ada.lastAny, s.ada.lastSeg) }

/-- A property that the work between the blocks keeps: every update beside what `standing` holds; in RUN every update
beside the clock, the line state, the cell link and the segment records; the pruning of the lift history; the events
of RUN, and MOTION_FAULT and STATION_FAULT; changes of segment records that keep the state, in RUN those that leave OFF
or FAULT, and others that come to another state than OFF, to QUEUED in RUN only; and the common releases, which
become due outside HALT only. -/
structure KeptByWork (P : State → Prop) : Prop where
  aside : ∀ {x u : State}, P x → u.standing = x.standing → P u
  runs : ∀ {x u : State}, P x → x.lsv.lineState = .run → u.lsv.lineState = x.lsv.lineState → u.clock = x.clock →
    u.clp = x.clp → u.sc = x.sc → P u
  refresh : ∀ {x : State}, P x → P x.adaRefresh
  posts : ∀ {x : State}, P x → ∀ (kind : EventKind) (subject : Subject) (pallet : Option Nat) (detail : Detail),
    x.lsv.lineState = .run ∨ kind = .motionFault ∨ kind = .stationFault → P (x.post kind subject pallet detail)
  keeps : ∀ (x : State) (j : Nat) (f : Segment → Segment), (∀ g, (f g).state = g.state) → P x → P (x.modSeg j f)
  moves : ∀ (x : State) (j : Nat) (f : Segment → Segment),
    x.lsv.lineState = .run ∨ (x.seg j).state ≠ .off ∧ (x.seg j).state ≠ .fault →
    (∀ g, (f g).state ≠ .off ∧ ((f g).state = .queued → x.lsv.lineState = .run)) → P x → P (x.modSeg j f)
  commons : ∀ (x : State) (j : Nat) (c : CommonState), c = .none ∨ x.lsv.lineState ≠ .halt → P x →
    P (x.setCommon j c)

/-- Effects between the blocks keep the line state. -/
theorem State.line_of_fixed {s u : State} {l : LineState} (hl : s.lsv.lineState = l) (h : u.fixed = s.fixed) :
    u.lsv.lineState = l :=
  (lineState_of_fixed h).trans hl

section
variable {P : State → Prop} (h : KeptByWork P)
include h

/-! ## Drives and admission -/

theorem KeptByWork.needDrive {s : State} (hs : P s) (j : Nat) (code : CmdCode) : P (s.needDrive j code) := by
  unfold State.needDrive
  split
  · exact h.keeps s j _ (fun _ => rfl) hs
  · exact h.aside hs rfl

theorem KeptByWork.replaceCmd {s : State} (hs : P s) (a : Nat) (code : CmdCode) : P (s.replaceCmd a code) := by
  unfold State.replaceCmd
  split
  · exact hs
  · exact h.aside hs rfl

theorem KeptByWork.adaSettle {s : State} (hs : P s) : P s.adaSettle := h.aside hs rfl

theorem KeptByWork.cvtCarry {s : State} (hs : P s) (j : Nat) (dest : Option ConvId) : P (s.cvtCarry j dest) := by
  unfold State.cvtCarry
  split
  · exact h.aside hs rfl
  · exact hs

/-- An admission, which is in RUN only (R109, R80). -/
theorem KeptByWork.adaAdmit {s : State} (hl : s.lsv.lineState = .run) (hs : P s) (q : AdaRequest) :
    P (s.adaAdmit q) := by
  let y := s.modAda fun a =>
    { a with r := a.r - q.demand, h := a.h ++ [s.clock], lastAny := some s.clock,
             lastSeg := tableInsert q.segment s.clock a.lastSeg, queue := dropRequest q.segment a.queue }
  let z := y.modSegMap q.segment fun m => { m with openIndex := some (y.indexToOpen q.segment) }
  have hz : P z := h.runs hs hl rfl rfl rfl rfl
  have hcarried := h.cvtCarry hz q.segment (y.indexToOpen q.segment).dest
  have hline : (z.cvtCarry q.segment (y.indexToOpen q.segment).dest).lsv.lineState = .run :=
    State.line_of_fixed (s := z) hl (by simp)
  exact h.needDrive (h.moves _ q.segment Segment.admitted (.inl hline)
    (fun _ => ⟨nofun, nofun⟩) hcarried) q.segment .lift

theorem KeptByWork.adaRounds (n : Nat) {s : State} (hs : P s) : P (State.adaRounds n s) := by
  induction n generalizing s with
  | zero => exact h.adaSettle (h.refresh hs)
  | succ n ih =>
    simp only [State.adaRounds]
    split
    · next q hq =>
      have hadmissible := (State.scanQueue_admissible hq).1
      have hline : s.adaRefresh.lsv.lineState = .run := by
        simp only [State.admissible, State.admissionOpen, Bool.and_eq_true, decide_eq_true_eq] at hadmissible
        exact hadmissible.1.1.1.1.1
      have hrounds := ih (h.adaAdmit hline (h.refresh hs) q)
      unfold State.staggerPassed
      split
      · exact h.runs hrounds (State.line_of_fixed hline (by simp)) rfl rfl rfl rfl
      · exact hrounds
    · exact h.adaSettle (h.refresh hs)

theorem KeptByWork.adaEvaluate {s : State} (hs : P s) : P s.adaEvaluate := h.adaRounds _ hs

theorem KeptByWork.adaWithdraw {s : State} (hs : P s) (j : Nat) : P (s.adaWithdraw j) :=
  h.adaEvaluate (h.aside hs rfl)

/-! ## Feed -/

theorem KeptByWork.scEnqueue {s : State} (hl : s.lsv.lineState = .run) (hs : P s) (j : Nat) (entryTaken : Bool) :
    P (s.scEnqueue j entryTaken) := by
  have hqueued : P (s.modSeg j fun g => { g with
      state := .queued, feedWait := none,
      queued := some {
        entryTaken := entryTaken,
        n := occupied (s.nests j) - (if (s.exitPallet j).isSome then 1 else 0) + (if entryTaken then 1 else 0),
        enqueued := s.clock } }) := h.moves s j _ (.inl hl) (fun _ => ⟨nofun, fun _ => hl⟩) hs
  exact h.adaEvaluate (h.aside hqueued rfl)

theorem KeptByWork.scFeed {s : State} (hl : s.lsv.lineState = .run) (hs : P s) (j : Nat) : P (s.scFeed j) := by
  unfold State.scFeed
  (repeat' split)
  · exact h.scEnqueue hl hs j true
  · exact h.scEnqueue hl hs j false
  · exact h.keeps s j _ (fun _ => rfl) hs
  · exact hs

theorem KeptByWork.stopFeed {s : State} (hs : P s) (j : Nat) : P (s.stopFeed j) :=
  h.keeps s j _ (fun _ => rfl) hs

/-! ## Room -/

theorem KeptByWork.grantSegment {s : State} (hs : P s) (c : ConvId) (j : Nat) : P (s.grantSegment c j) := by
  have hadded : P (s.addReservation c (.segment j) .held) := h.aside hs rfl
  have hheld := h.keeps _ j (fun g => { g with room := .held c }) (fun _ => rfl) hadded
  simp only [State.grantSegment, State.scRoomGranted]
  split
  · next hready =>
    have hl : (s.addReservation c (.segment j) .held).lsv.lineState = .run :=
      of_decide_eq_true (Bool.and_eq_true_iff.mp hready).1
    exact h.scFeed (State.line_of_fixed hl (by simp)) hheld j
  · exact hheld

theorem KeptByWork.grantSpur {s : State} (hs : P s) : P s.grantSpur := h.aside hs rfl

theorem KeptByWork.grantRounds {s : State} (hs : P s) (c : ConvId) (n : Nat) : P (State.grantRounds c n s) := by
  induction n generalizing s with
  | zero => exact hs
  | succ n ih =>
    simp only [State.grantRounds]
    (repeat' split)
    · exact ih (h.grantSegment hs c _)
    · exact hs
    · exact hs

theorem KeptByWork.mergeRounds {s : State} (hs : P s) (n : Nat) : P (State.mergeRounds n s) := by
  induction n generalizing s with
  | zero => exact hs
  | succ n ih =>
    have hpass (m : Nat) : P (s.setPassOver m) := h.aside hs rfl
    simp only [State.mergeRounds]
    (repeat' split)
    · exact ih (h.grantSegment (hpass _) .rc _)
    · exact ih (h.grantSpur (hpass 0))
    · exact ih (h.grantSpur (hpass 0))
    · exact ih (h.grantSegment hs .rc _)
    · exact hs
    · exact hs

theorem KeptByWork.grantPass {s : State} (hs : P s) (c : ConvId) : P (s.grantPass c) := by
  unfold State.grantPass
  split
  · exact h.mergeRounds hs _
  · exact h.grantRounds hs c _

theorem KeptByWork.releaseRoom {s : State} (hs : P s) (c : ConvId) (holder : Holder) :
    P (s.releaseRoom c holder) :=
  h.grantPass (h.aside (u := s.removeReservation c holder) hs rfl) c

theorem KeptByWork.requestRoom {s : State} (hs : P s) (c : ConvId) (holder : Holder) :
    P (s.requestRoom c holder) :=
  h.grantPass (h.aside (u := s.modConv c fun v => { v with requests := v.requests ++ [holder] }) hs rfl) c

theorem KeptByWork.giveUpRoom {s : State} (hs : P s) (j : Nat) : P (s.giveUpRoom j) := by
  have hleft := h.keeps s j (fun g => { g with room := .none }) (fun _ => rfl) hs
  simp only [State.giveUpRoom]
  split
  · exact hs
  · exact h.aside hleft rfl
  · exact h.releaseRoom hleft _ _

theorem KeptByWork.divertChoice {s : State} (hl : s.lsv.lineState = .run) (hs : P s) (id : Nat) :
    P (s.divertChoice id) := by
  have hmarked : P (s.modPallet id fun p => { p with overdue := true }) := h.aside hs rfl
  simp only [State.divertChoice, State.postpone]
  (repeat' split)
  · exact hmarked
  · exact h.aside (h.posts hmarked .verifyPostponed _ _ _ (.inl hl)) rfl
  · exact hs

theorem KeptByWork.seekRoom {s : State} (hl : s.lsv.lineState = .run) (hs : P s) (j id : Nat) :
    P (s.seekRoom j id) := by
  simp only [State.seekRoom]
  have hchosen : P (if j < s.nseg then s else s.divertChoice id) := by
    split
    · exact hs
    · exact h.divertChoice hl hs id
  have hseeks := h.keeps _ j (fun g => { g with
    room := .requested (if j < s.nseg then bufferId j else s.divertDest id) }) (fun _ => rfl) hchosen
  exact h.requestRoom hseeks _ _

/-! ## Tests and withdrawals -/

theorem KeptByWork.scTest {s : State} (hs : P s) (j : Nat) : P (s.scTest j) := by
  unfold State.scTest
  split
  · next hready =>
    have hl : s.lsv.lineState = .run := of_decide_eq_true (Bool.and_eq_true_iff.mp hready).1
    (repeat' split)
    · exact h.scFeed (State.line_of_fixed hl (by simp)) (h.giveUpRoom hs j) j
    · exact h.seekRoom (State.line_of_fixed hl (by simp)) (h.stopFeed hs j) j _
    · exact h.stopFeed hs j
    · exact h.scFeed hl hs j
    · exact h.stopFeed (h.giveUpRoom hs j) j
  · exact hs

/-- A change of a segment's state from another state than OFF and FAULT to one that is neither OFF nor QUEUED. -/
theorem KeptByWork.shifts {s : State} (hs : P s) {j : Nat} (f : Segment → Segment)
    (hfrom : (s.seg j).state ≠ .off ∧ (s.seg j).state ≠ .fault)
    (hto : ∀ g, (f g).state ≠ .off ∧ (f g).state ≠ .queued) : P (s.modSeg j f) :=
  h.moves s j f (.inr hfrom) (fun g => ⟨(hto g).1, fun hq => absurd hq (hto g).2⟩) hs

theorem KeptByWork.scMaybeReady {s : State} (hs : P s) (j : Nat) : P (s.scMaybeReady j) := by
  unfold State.scMaybeReady
  split
  · next hwork =>
    simp only [Bool.and_eq_true, decide_eq_true_eq] at hwork
    obtain ⟨⟨⟨-, hstate⟩, -⟩, -⟩ := hwork
    exact h.scTest (h.shifts hs (fun g => { g with state := .ready }) (by simp [hstate]) fun _ => by simp) j
  · exact hs

/-- A withdrawal, from the change of the segment's state on. -/
theorem KeptByWork.scWithdraw {s : State} {j : Nat} {target : SegState}
    (hleft : P (s.modSeg j fun g => { g with state := target, queued := none, room := .none })) (releaseIt : Bool) :
    P (s.scWithdraw j target releaseIt) := by
  have hdropped := h.adaWithdraw hleft j
  simp only [State.scWithdraw]
  (repeat' split)
  · exact h.releaseRoom hdropped _ _
  · exact hdropped
  · exact hdropped

theorem KeptByWork.scStationsFree {s : State} (hs : P s) (j : Nat) (free : Bool) : P (s.scStationsFree j free) := by
  have htold := h.keeps s j (fun g => { g with stationsFree := free }) (fun _ => rfl) hs
  have hstate : ((s.modSeg j fun g => { g with stationsFree := free }).seg j).state = (s.seg j).state :=
    State.seg_modSeg_view (·.state) s j j _ fun _ => rfl
  simp only [State.scStationsFree]
  split
  · exact h.scMaybeReady htold j
  · split
    · next hready =>
      have hworks := h.shifts htold (j := j) (fun g => { g with state := .work })
        (by simp [hstate, hready]) fun _ => by simp
      exact h.stopFeed (h.giveUpRoom hworks j) j
    · next hqueued =>
      exact h.scWithdraw (h.shifts htold _ (by simp [hstate, hqueued]) fun _ => by simp) _
    · exact htold

/-! ## The stations' part -/

theorem KeptByWork.sqsAfter {s : State} (hs : P s) (j : Nat) : P (s.sqsAfter j) := by
  have hended : P (if s.common j = .running && !((s.stationsOn j).any fun p => p.2.underCommon) then
      s.setCommon j .none else s) := by
    split
    · exact h.commons s j .none (.inl rfl) hs
    · exact hs
  have hdue (y : State) (hy : P y) :
      P (if y.commonDue j then (y.setCommon j .requested).scReleaseAllDue j else y) := by
    split
    · next hdue =>
      simp only [State.commonDue, Bool.and_eq_true, decide_eq_true_eq] at hdue
      exact h.needDrive (h.commons y j .requested (.inr hdue.1.1.2) hy) j .releaseAll
    · exact hy
  have htold (y : State) (hy : P y) :
      P (if (y.seg j).stationsFree ≠ y.allFree j then y.scStationsFree j (y.allFree j) else y) := by
    split
    · exact h.scStationsFree hy j _
    · exact hy
  exact htold _ (hdue _ hended)

theorem KeptByWork.sqsJob {s : State} (hs : P s) (n : Nat) (o : JobOrder) : P (s.sqsJob n o) := by
  have hmissed (id : Nat) : P (s.trkOpMissed n id) := h.aside hs rfl
  cases o with
  | pass => exact hs
  | miss id => exact hmissed id
  | work j =>
    have hkept : P (if j.kind = .machine then s.trkOpMissed n j.pallet else s) := by
      split
      · exact hmissed j.pallet
      · exact hs
    simp only [State.sqsJob]
    split
    · next r _ hr =>
      exact h.sqsAfter (h.aside (u := (s.modStation n fun st =>
        { st with state := .clamping, job := some j, outcomeGiven := false, startTime := none,
                  timer := some (s.stationTimer .clamp r.tClampMax) }).postCmd r.node .clamp []) hs rfl) r.segment
    · exact hkept
    · exact hkept
    · exact hkept
    · exact hs

theorem KeptByWork.loadDecision {s : State} (hl : s.lsv.lineState = .run) (hs : P s) (n id : Nat) (p : Pallet) :
    P (s.loadDecision n id p) := by
  unfold State.loadDecision
  (repeat' split)
  · exact h.sqsJob (h.aside (u := s.modWorkpiece id fun w => { w with holdOver := true }) hs rfl) n .pass
  · exact h.sqsJob hs n .pass
  · exact h.sqsJob (h.posts hs .verifyOverdue _ _ _ (.inl hl)) n .pass
  · exact h.sqsJob hs n _

theorem KeptByWork.arrival {s : State} (hl : s.lsv.lineState = .run) (hs : P s) (i j id : Nat) :
    P (s.arrival i j id) := by
  unfold State.arrival
  (repeat' split)
  · exact h.sqsJob hs _ _
  · exact h.loadDecision hl hs _ _ _
  · exact h.sqsJob hs _ _
  · exact hs

/-- The close of an edited tag check at START, with its notice and the test of S1 (R40, R41). -/
theorem KeptByWork.closeEdited {s : State} (hl : s.lsv.lineState = .run) (hs : P s) : P s.closeEdited := by
  unfold State.closeEdited
  split
  · have hclosed : P ((s.setTag .none).setTrackHold false) :=
      h.keeps _ 1 _ (fun _ => rfl) (h.runs (u := s.setTag .none) hs hl rfl rfl rfl rfl)
    have hline : ((s.setTag .none).setTrackHold false).lsv.lineState = .run := hl
    refine h.scTest ?_ 1
    unfold State.noticeN1
    (repeat' split)
    · exact h.arrival hline hclosed 1 1 _
    · exact hclosed
    · exact hclosed
  · exact hs

theorem KeptByWork.tryCheck {s : State} (hs : P s) : P s.tryCheck := by
  simp only [State.tryCheck]
  (repeat' split)
  · exact h.aside hs rfl
  · exact h.aside hs rfl
  · exact hs
  · exact hs

/-! ## START, STOP and RECOVER -/

/-- START at one segment, from its change to WORK on. -/
theorem KeptByWork.startSegment {s : State} {j : Nat} (hstays : (s.seg j).state ≠ .off → P s)
    (hworks : (s.seg j).state = .off → P (s.modSeg j fun g => { g with state := .work })) : P (s.startSegment j) := by
  unfold State.startSegment
  split
  · next hoff => exact h.scMaybeReady (hworks hoff) j
  · next hon => exact hstays hon

/-- STOP at one segment, from its change to READY on. -/
theorem KeptByWork.stopSegment {s : State} {j : Nat} (hstays : (s.seg j).state ≠ .queued → P s)
    (hleft : (s.seg j).state = .queued →
      P (s.modSeg j fun g => { g with state := .ready, queued := none, room := .none })) : P (s.stopSegment j) := by
  unfold State.stopSegment
  split
  · next hqueued => exact h.scWithdraw (hleft hqueued) true
  · next hready => exact h.stopFeed (h.giveUpRoom (hstays (by simp [hready])) j) j
  · next hne _ => exact hstays hne

theorem KeptByWork.recoverStations {s : State} (hs : P s) : P s.recoverStations := by
  refine forEach_keeps (p := P) (fun k x hx => h.sqsAfter hx k) _ (forEach_keeps (p := P) (fun n x hx => ?_) _ hs)
  obtain ⟨heq, -⟩ | ⟨st', heq, -⟩ := x.recoverStation_eq n
  · rw [heq]; exact hx
  · rw [heq]; exact h.aside hx rfl

end

end Sys2Proof.Machine
end

section
/-! PROOF. The entry into HALT (R68, R95, R128, R152, R170): what each block's part of it keeps, where a segment and a
station end, and what the whole entry leaves. -/

namespace Sys2Proof.Machine

/-- A segment that is OFF or in FAULT (R95). -/
def Segment.halted (g : Segment) : Prop := g.state = .off ∨ g.state = .fault

/-- A property that the entry into HALT keeps besides the work between the blocks: segments come to OFF or FAULT, and
the common releases end (R57, R95). -/
structure KeptByHalt (P : State → Prop) : Prop extends KeptByWork P where
  halts : ∀ {x : State}, P x → x.lsv.lineState = .halt → ∀ (j : Nat) (f : Segment → Segment),
    (∀ g, (f g).halted) → P (x.modSeg j f)
  releases : ∀ {x : State}, P x →
    P { x with sqs := { x.sqs with common := x.sqs.common.map fun p => (p.1, .none) } }

theorem State.stopTravel_standing (s : State) : s.stopTravel.standing = s.standing := rfl

section
variable {P : State → Prop} (h : KeptByHalt P)
include h

/-! ## The bus's part (R170) -/

theorem KeptByHalt.driveSuperseded {s : State} (hs : P s) (j : Nat) (code : CmdCode) :
    P (s.driveSuperseded j code) := by
  unfold State.driveSuperseded
  split
  · exact h.sqsAfter (h.commons s j .none (.inl rfl) hs) j
  · split
    · exact h.keeps s j _ (fun _ => rfl) hs
    · exact hs

theorem KeptByHalt.releaseSuperseded {s : State} (hs : P s) : P s.releaseSuperseded := by
  unfold State.releaseSuperseded
  split
  · exact h.aside (h.releaseRoom hs .rc .spur) rfl
  · exact h.grantPass (h.aside (u := { s with cvt := { s.cvt with staleRelease := false } }) hs rfl) .rc

theorem KeptByHalt.checkSuperseded {s : State} (hs : P s) : P s.checkSuperseded := by
  unfold State.checkSuperseded
  (repeat' split)
  · exact h.tryCheck (h.aside (u := s.modRtu fun r => { r with stale := false }) hs rfl)
  · exact h.aside hs rfl
  · exact hs

theorem KeptByHalt.haltNode {s : State} (hs : P s) (a : Nat) : P (s.haltNode a) := by
  unfold State.haltNode
  split
  · exact hs
  · split
    · exact hs
    · next n _ c _ =>
      split
      · have hleft : P (s.modNode a fun x => { x with pending := none, resync := true }) := h.aside hs rfl
        unfold State.ownerSuperseded
        split
        · exact h.driveSuperseded hleft _ _
        · exact h.releaseSuperseded hleft
        · exact h.checkSuperseded hleft
        · exact hleft
        · exact hleft
        · exact hleft
      · exact hs

theorem KeptByHalt.haltBus {s : State} (hs : P s) : P s.haltBus :=
  forEach_keeps (p := P) (fun a _ hx => h.haltNode hx a) _ (h.aside hs rfl)

/-! ## The segments' part (R95) -/

theorem KeptByHalt.lowerCertainty {s : State} (hs : P s) (j : Nat) (c : Certainty) : P (s.lowerCertainty j c) := by
  refine h.aside hs ?_
  have hnests : (s.lowerCertainty j c).trk.segs.map (fun p => (p.1, p.2.nests, p.2.openIndex))
      = s.trk.segs.map fun p => (p.1, p.2.nests, p.2.openIndex) :=
    tableModify_map (fun p : Nat × SegMap => (p.1, p.2.nests, p.2.openIndex)) fun _ => rfl
  simp only [State.standing, hnests]
  rfl

theorem KeptByHalt.furtherFault {s : State} (hs : P s) (j : Nat) (cause : SegCause) :
    P (s.furtherFault j cause) := by
  unfold State.furtherFault
  split
  · exact h.lowerCertainty hs j _
  · exact hs

/-- A segment's change to OFF or FAULT is kept, if the property held until then or holds of every such segment. -/
def KeepsHalting (P : State → Prop) (s : State) (j : Nat) : Prop :=
  ∀ (x : State) (f : Segment → Segment), x.fixed = s.fixed → (P s → P x) → (∀ g, (f g).halted) → P (x.modSeg j f)

omit h in
theorem KeptByHalt.keepsHalting (h : KeptByHalt P) {s : State} (hl : s.lsv.lineState = .halt) (hs : P s) (j : Nat) :
    KeepsHalting P s j :=
  fun _ f hx hkept hf => h.halts (hkept hs) (State.line_of_fixed hl hx) j f hf

/-- A fault at ESTOP (R89). -/
theorem KeptByHalt.scFault {s : State} {j : Nat} (hl : s.lsv.lineState = .halt)
    (hagain : (s.seg j).state = .fault → P s) (hhalts : KeepsHalting P s j) : P (s.scFault j .estop) := by
  simp only [State.scFault, ne_eq, not_true_eq_false, decide_false, Bool.false_and, Bool.false_eq_true, if_false]
  split
  · next hfault => exact h.furtherFault (hagain hfault) j .estop
  · let x := if (s.seg j).state.inMotion then
        (s.lowerCertainty j (faultCertainty (s.seg j).motion .estop)).setPermit j false
      else s
    have hx : x.fixed = s.fixed := by
      simp only [x]
      split <;> simp
    have hkept (hs : P s) : P x := by
      simp only [x]
      split
      · exact h.aside (h.lowerCertainty hs j _) rfl
      · exact hs
    have hfault : P (x.modSeg j fun g => g.inFault .estop) := hhalts x _ hx hkept fun _ => .inr rfl
    have hline : (x.modSeg j fun g => g.inFault .estop).lsv.lineState = .halt :=
      State.line_of_fixed (s := x) (State.line_of_fixed hl hx) (by simp)
    have hleft : P ((x.modSeg j fun g => g.inFault .estop).leaveQueue j (s.seg j).state .fault) := by
      unfold State.leaveQueue
      split
      · exact h.scWithdraw (h.halts hfault hline j _ fun _ => .inr rfl) true
      · exact h.giveUpRoom hfault j
    exact h.posts hleft .motionFault (.segment j) none _ (.inr (.inl rfl))

/-- The entry into HALT at one segment: one that is OFF or in FAULT stays, another comes to OFF or FAULT. -/
theorem KeptByHalt.haltSegment {s : State} {j : Nat} (hl : s.lsv.lineState = .halt)
    (hstays : (s.seg j).halted → P s) (hhalts : KeepsHalting P s j) : P (s.haltSegment j) := by
  have hoff (x : State) (hx : x.fixed = s.fixed) (hkept : P s → P x) :
      P (x.modSeg j fun g => { g with state := .off }) := hhalts x _ hx hkept fun _ => .inl rfl
  have hfaults : P (s.scFault j .estop) := h.scFault hl (fun hf => hstays (.inr hf)) hhalts
  refine h.keeps _ j _ (fun _ => rfl) ?_
  split
  · exact hfaults
  · exact hfaults
  · exact hfaults
  · split
    · exact hfaults
    · exact hoff s rfl id
  · exact h.scWithdraw (hhalts s _ rfl id fun _ => .inl rfl) true
  · exact hoff _ (by simp) fun hs => h.stopFeed (h.giveUpRoom hs j) j
  · next hstate => exact hstays (.inl hstate)
  · next hstate => exact h.keeps _ j _ (fun _ => rfl) (h.furtherFault (hstays (.inr hstate)) j .estop)

theorem KeptByHalt.haltSegment_keeps {s : State} (hl : s.lsv.lineState = .halt) (hs : P s) (j : Nat) :
    P (s.haltSegment j) :=
  h.haltSegment hl (fun _ => hs) (h.keepsHalting hl hs j)

/-! ## The stations' part (R68) -/

theorem KeptByHalt.handOn {s : State} (hs : P s) (n : Nat) (e : JobEnd) : P (s.handOn n e) := by
  unfold State.handOn
  (repeat' split) <;> exact h.aside hs rfl

theorem KeptByHalt.stationFault {s : State} (hs : P s) (n : Nat) (cause : StationCause) (e : JobEnd) :
    P (s.stationFault n cause e) := by
  simp only [State.stationFault]
  split
  · exact hs
  · exact h.handOn (h.posts (h.aside (u := s.modStation n fun st =>
      { st with state := .fault, timer := none, cause := some cause }) hs rfl) .stationFault _ _ _
      (.inr (.inr rfl))) n e

theorem KeptByHalt.stationRetract {s : State} (hs : P s) (n : Nat) : P (s.stationRetract n) := by
  simp only [State.stationRetract]
  split
  · exact h.handOn (h.replaceCmd hs _ _) n .missed
  · exact h.replaceCmd hs _ _

theorem KeptByHalt.haltStation {s : State} (hs : P s) (n : Nat) : P (s.haltStation n) := by
  unfold State.haltStation
  (repeat' split)
  · exact h.stationRetract (h.stationFault hs n _ _) n
  · exact h.stationRetract (h.stationFault hs n _ _) n
  · exact h.stationRetract (h.stationFault hs n _ _) n
  · exact h.stationFault hs n _ _
  · exact h.stationFault hs n _ _
  · exact h.aside hs rfl
  · exact h.aside hs rfl
  · exact h.aside hs rfl
  · exact hs
  · exact hs

theorem KeptByHalt.haltStations {s : State} (hs : P s) : P s.haltStations :=
  forEach_keeps (p := P) (fun k _ hx => h.sqsAfter hx k) _
    (h.releases (forEach_keeps (p := P) (fun n _ hx => h.haltStation hx n) _ hs))

/-! ## The whole entry (R152) -/

/-- The segments' part keeps the property with the line in HALT. -/
theorem KeptByHalt.haltSegments {s : State} (hl : s.lsv.lineState = .halt) (hs : P s) (l : List Nat) :
    P (forEach (fun k x => x.haltSegment k) l s) :=
  (forEach_keeps (p := fun x => x.lsv.lineState = .halt ∧ P x)
    (fun k _ hx => ⟨State.line_of_fixed hx.1 (by simp), h.haltSegment_keeps hx.1 hx.2 k⟩) l ⟨hl, hs⟩).2

theorem KeptByHalt.enterHalt {s : State} {cause : LineCause} (hs : P (s.enterLine .halt cause)) :
    P (s.enterHalt cause) := by
  have hbus := h.haltBus hs
  have hline : (s.enterLine .halt cause).haltBus.lsv.lineState = .halt := State.haltBus_lineState _
  exact h.aside (h.haltStations (h.haltSegments hline hbus _)) (State.stopTravel_standing _)

end

end Sys2Proof.Machine
end

section
/-! PROOF. Properties that the work between the blocks and the entry into HALT keep: an event once posted (R184), a
segment out of OFF or not QUEUED, and what a halted line holds (R95, R128, R152). -/

namespace Sys2Proof.Machine

/-! ## What equal standings agree in -/

section
variable {s u : State} (h : u.standing = s.standing)
include h

theorem line_of_standing : u.lsv.lineState = s.lsv.lineState := (congrArg Standing.line h :)

theorem clp_of_standing : u.clp = s.clp := (congrArg Standing.clp h :)

theorem common_of_standing : u.sqs.common = s.sqs.common := (congrArg Standing.common h :)

theorem seg_of_standing (k : Nat) : u.seg k = s.seg k := State.seg_of_sc (congrArg Standing.sc h :) k

end

/-! ## Events -/

/-- The Event Queue holds the record, or GAP tells that one was lost (R184). -/
def Clp.remembers (c : Clp) (e : Event) : Prop := c.gap = true ∨ e ∈ c.events

theorem Clp.remembers_postEvent_self (c : Clp) (e : Event) : (c.postEvent e).remembers e := by
  unfold Clp.postEvent
  split <;> exact .inr (by simp)

theorem Clp.remembers.postEvent {c : Clp} {e : Event} (h : c.remembers e) (e' : Event) :
    (c.postEvent e').remembers e := by
  unfold Clp.postEvent
  split
  · exact h.imp_right (List.mem_append_left _)
  · exact .inl rfl

theorem keptByHalt_remembers (e : Event) : KeptByHalt fun x => x.clp.remembers e where
  aside hx hu := clp_of_standing hu ▸ hx
  runs hx _ _ _ hclp _ := hclp ▸ hx
  refresh hx := hx
  posts hx _ _ _ _ _ := hx.postEvent _
  keeps _ _ _ _ hx := hx
  moves _ _ _ _ _ hx := hx
  commons _ _ _ _ hx := hx
  halts hx _ _ _ _ := hx
  releases hx := hx

/-! ## A segment's state -/

/-- A property of a segment's state through a change of one segment's record. -/
theorem State.seg_modSeg_of {s : State} {j k : Nat} {f : Segment → Segment} {Q : Segment → Prop}
    (hs : Q (s.seg k)) (hf : k = j → Q (f (s.seg k))) : Q ((s.modSeg j f).seg k) := by
  obtain h | ⟨hk, h⟩ := s.seg_modSeg j k f
  · rwa [h]
  · rw [h]; exact hf hk

/-- A segment out of OFF stays out of it in the work between the blocks. -/
theorem keptByWork_active (k : Nat) : KeptByWork fun x => (x.seg k).state ≠ .off where
  aside hx hu := seg_of_standing hu k ▸ hx
  runs hx _ _ _ _ hsc := State.seg_of_sc hsc k ▸ hx
  refresh hx := hx
  posts hx _ _ _ _ _ := hx
  keeps _ _ _ hf hx := State.seg_modSeg_of (Q := fun g => g.state ≠ .off) hx fun _ => (hf _).symm ▸ hx
  moves _ _ _ _ hto hx := State.seg_modSeg_of (Q := fun g => g.state ≠ .off) hx fun _ => (hto _).1
  commons _ _ _ _ hx := hx

/-- Outside RUN no segment becomes QUEUED. -/
theorem keptByWork_unqueued (k : Nat) :
    KeptByWork fun x => x.lsv.lineState ≠ .run ∧ (x.seg k).state ≠ .queued where
  aside hx hu := ⟨line_of_standing hu ▸ hx.1, seg_of_standing hu k ▸ hx.2⟩
  runs hx hrun _ _ _ _ := absurd hrun hx.1
  refresh hx := hx
  posts hx _ _ _ _ _ := hx
  keeps _ _ _ hf hx :=
    ⟨hx.1, State.seg_modSeg_of (Q := fun g => g.state ≠ .queued) hx.2 fun _ => (hf _).symm ▸ hx.2⟩
  moves _ _ _ _ hto hx :=
    ⟨hx.1, State.seg_modSeg_of (Q := fun g => g.state ≠ .queued) hx.2 fun _ hq => hx.1 ((hto _).2 hq)⟩
  commons _ _ _ _ hx := hx

/-- A halted segment stays halted while the line is in HALT. -/
theorem keptByHalt_halted (k : Nat) : KeptByHalt fun x => x.lsv.lineState = .halt ∧ (x.seg k).halted where
  aside hx hu := ⟨line_of_standing hu ▸ hx.1, seg_of_standing hu k ▸ hx.2⟩
  runs hx hrun _ _ _ _ := nomatch hx.1.symm.trans hrun
  refresh hx := hx
  posts hx _ _ _ _ _ := hx
  keeps _ _ _ hf hx := ⟨hx.1, State.seg_modSeg_of hx.2 fun _ => by rw [Segment.halted, hf]; exact hx.2⟩
  moves x j _ hfrom _ hx := by
    refine ⟨hx.1, State.seg_modSeg_of hx.2 fun hk => ?_⟩
    obtain hrun | ⟨hoff, hfault⟩ := hfrom
    · exact nomatch hx.1.symm.trans hrun
    · exact absurd (hk ▸ hx.2) (not_or.mpr ⟨hoff, hfault⟩)
  commons _ _ _ _ hx := hx
  halts hx _ _ _ hf := ⟨hx.1, State.seg_modSeg_of hx.2 fun _ => hf _⟩
  releases hx := hx

/-! ## The common releases -/

/-- In HALT no common release becomes due (R57). -/
theorem keptByHalt_unreleased :
    KeptByHalt fun x => x.lsv.lineState = .halt ∧ ∀ p ∈ x.sqs.common, p.2 = .none where
  aside hx hu := ⟨line_of_standing hu ▸ hx.1, common_of_standing hu ▸ hx.2⟩
  runs hx hrun _ _ _ _ := nomatch hx.1.symm.trans hrun
  refresh hx := hx
  posts hx _ _ _ _ _ := hx
  keeps _ _ _ _ hx := hx
  moves _ _ _ _ _ hx := hx
  commons x j c hc hx := by
    obtain rfl : c = .none := hc.resolve_right fun hne => hne hx.1
    exact ⟨hx.1, forall_mem_tableModify (p := fun c : CommonState => c = .none) hx.2 fun _ _ => rfl⟩
  halts hx _ _ _ _ := hx
  releases hx := ⟨hx.1, List.forall_mem_map.mpr fun _ _ => rfl⟩

/-! ## What a halted line keeps -/

theorem Clp.posted_posted (c : Clp) (l l' : List Event) : (c.posted l).posted l' = c.posted (l ++ l') := by
  simp [Clp.posted, List.foldl_append]

/-- A fault that a halt causes, posted at an instant (R68, R95). -/
def Event.haltFault (e : Event) (t : LineTime) : Prop :=
  e.time = t ∧ (e.kind = .motionFault ∨ e.kind = .stationFault)

/-- What the blocks' part of an entry into HALT leaves of the state `s` in which the line entered it: the instant, the
configuration and the map, the spacing of lifts, the lift history but for its pruning, and the cell link but for the
faults of segments and stations. -/
structure State.HaltWork (s u : State) : Prop where
  line : u.lsv.lineState = .halt
  clock : u.clock = s.clock
  cfg : u.cfg = s.cfg
  nests : u.trk.segs.map (fun p => (p.1, p.2.nests, p.2.openIndex))
    = s.trk.segs.map fun p => (p.1, p.2.nests, p.2.openIndex)
  lists : u.trk.lists = s.trk.lists
  tag : u.trk.tag = s.trk.tag
  lifts : u.ada.h = s.ada.h.filter (fun x => elapsed x s.clock < s.cfg.line.tWindow) ∨ u.ada.h = s.ada.h
  spacing : u.ada.lastAny = s.ada.lastAny ∧ u.ada.lastSeg = s.ada.lastSeg
  faults : ∃ faults, u.clp = s.clp.posted faults ∧ ∀ e ∈ faults, e.haltFault s.clock

theorem State.HaltWork.start {s : State} (hl : s.lsv.lineState = .halt) : s.HaltWork s :=
  ⟨hl, rfl, rfl, rfl, rfl, rfl, .inr rfl, ⟨rfl, rfl⟩, [], rfl, List.forall_mem_nil _⟩

theorem State.HaltWork.of_standing {s x u : State} (h : s.HaltWork x) (hu : u.standing = x.standing) :
    s.HaltWork u := by
  have hclock : u.clock = x.clock := congrArg Standing.clock hu
  have hcfg : u.cfg = x.cfg := congrArg Standing.cfg hu
  have hnests : u.trk.segs.map (fun p => (p.1, p.2.nests, p.2.openIndex))
    = x.trk.segs.map fun p => (p.1, p.2.nests, p.2.openIndex) := congrArg Standing.nests hu
  have hlists : u.trk.lists = x.trk.lists := congrArg Standing.lists hu
  have htag : u.trk.tag = x.trk.tag := congrArg Standing.tag hu
  have hlifts : u.ada.h = x.ada.h := congrArg Standing.lifts hu
  have hspacing : (u.ada.lastAny, u.ada.lastSeg) = (x.ada.lastAny, x.ada.lastSeg) := congrArg Standing.spacing hu
  obtain ⟨hany, hseg⟩ := Prod.mk.inj hspacing
  exact ⟨line_of_standing hu ▸ h.line, hclock ▸ h.clock, hcfg ▸ h.cfg, hnests ▸ h.nests, hlists ▸ h.lists,
    htag ▸ h.tag, hlifts ▸ h.lifts, hany ▸ hseg ▸ h.spacing, clp_of_standing hu ▸ h.faults⟩

/-- An update of other blocks. -/
theorem State.HaltWork.beside {s x u : State} (h : s.HaltWork x) (hl : u.lsv = x.lsv) (hc : u.clock = x.clock)
    (hcfg : u.cfg = x.cfg) (htrk : u.trk = x.trk) (hada : u.ada = x.ada) (hclp : u.clp = x.clp) :
    s.HaltWork u :=
  ⟨hl ▸ h.line, hc ▸ h.clock, hcfg ▸ h.cfg, htrk ▸ h.nests, htrk ▸ h.lists, htrk ▸ h.tag, hada ▸ h.lifts,
    hada ▸ h.spacing, hclp ▸ h.faults⟩

/-- Steps 1 and 2 of an evaluation prune the lift history (R103). -/
theorem State.adaRefresh_lifts (s : State) :
    s.adaRefresh.ada.h = s.ada.h.filter fun x => elapsed x s.clock < s.cfg.line.tWindow := by
  simp only [State.adaRefresh, State.modAda_ada, Ada.prune, Ada.update_h]

theorem State.adaRefresh_spacing (s : State) :
    s.adaRefresh.ada.lastAny = s.ada.lastAny ∧ s.adaRefresh.ada.lastSeg = s.ada.lastSeg := by
  simp only [State.adaRefresh, State.modAda_ada, Ada.prune]
  rw [s.ada.update_eq]
  exact ⟨rfl, rfl⟩

theorem State.HaltWork.refresh {s x : State} (h : s.HaltWork x) : s.HaltWork x.adaRefresh := by
  have hlifts : x.adaRefresh.ada.h = s.ada.h.filter fun x => elapsed x s.clock < s.cfg.line.tWindow := by
    rw [State.adaRefresh_lifts, h.clock, h.cfg]
    obtain hh | hh := h.lifts
    · rw [hh, List.filter_filter]; simp
    · rw [hh]
  obtain ⟨hany, hseg⟩ := x.adaRefresh_spacing
  exact ⟨h.line, h.clock, h.cfg, h.nests, h.lists, h.tag, .inl hlifts,
    ⟨hany.trans h.spacing.1, hseg.trans h.spacing.2⟩, h.faults⟩

theorem State.HaltWork.post {s x : State} (h : s.HaltWork x) (kind : EventKind) (subject : Subject)
    (pallet : Option Nat) (detail : Detail) (hk : kind = .motionFault ∨ kind = .stationFault) :
    s.HaltWork (x.post kind subject pallet detail) := by
  obtain ⟨faults, hclp, hfaults⟩ := h.faults
  let e : Event := { kind := kind, time := x.clock, subject := subject, pallet := pallet, detail := detail }
  refine ⟨h.line, h.clock, h.cfg, h.nests, h.lists, h.tag, h.lifts, h.spacing, faults ++ [e], ?_,
    List.forall_mem_append.mpr ⟨hfaults, List.forall_mem_singleton.mpr ⟨h.clock, hk⟩⟩⟩
  rw [← Clp.posted_posted, ← hclp]
  rfl

theorem keptByHalt_haltWork (s : State) : KeptByHalt s.HaltWork where
  aside hx hu := hx.of_standing hu
  runs hx hrun _ _ _ _ := nomatch hx.line.symm.trans hrun
  refresh hx := hx.refresh
  posts hx _ _ _ _ hk := hx.post _ _ _ _ (hk.resolve_left fun hrun => nomatch hx.line.symm.trans hrun)
  keeps _ _ _ _ hx := hx.beside rfl rfl rfl rfl rfl rfl
  moves _ _ _ _ _ hx := hx.beside rfl rfl rfl rfl rfl rfl
  commons _ _ _ _ hx := hx.beside rfl rfl rfl rfl rfl rfl
  halts hx _ _ _ _ := hx.beside rfl rfl rfl rfl rfl rfl
  releases hx := hx.beside rfl rfl rfl rfl rfl rfl

end Sys2Proof.Machine
end

section
/-! PROOF. The entry into HALT (R152): where segments and stations end, what of the state it leaves, and ESTOP_IN and
HALT, which bring it about (O6, O7). -/

namespace Sys2Proof.Machine

/-- What every round keeps under an invariant of the loop, and the round of one element brings about, holds after a loop
that takes the element. -/
theorem forEach_establishes {α σ : Type} {inv p : σ → Prop} {f : α → σ → σ} {a : α}
    (hinv : ∀ b x, inv x → inv (f b x)) (hkeeps : ∀ b x, inv x → p x → p (f b x)) (hself : ∀ x, inv x → p (f a x))
    {l : List α} (ha : a ∈ l) {s : σ} (hs : inv s) : p (forEach f l s) := by
  induction l generalizing s with
  | nil => cases ha
  | cons b rest ih =>
    obtain rfl | ha := List.mem_cons.mp ha
    · exact (forEach_keeps (p := fun x => inv x ∧ p x) (fun c x hx => ⟨hinv c x hx.1, hkeeps c x hx.1 hx.2⟩) rest
        ⟨hinv a s hs, hself s hs⟩).2
    · exact ih ha (hinv b s hs)

/-! ## Segments (R95) -/

/-- The line is in HALT with segment k OFF or in FAULT. -/
theorem State.haltSegment_halted {s : State} {k : Nat} (hl : s.lsv.lineState = .halt) (hk : k ∈ s.segNumbers) :
    (s.haltSegment k).lsv.lineState = .halt ∧ ((s.haltSegment k).seg k).halted := by
  refine (keptByHalt_halted k).haltSegment hl (fun hstays => ⟨hl, hstays⟩) fun x f hx _ hf => ?_
  have hkx : k ∈ x.segNumbers := State.segNumbers_of_units (units_of_fixed hx) ▸ hk
  have hline : x.lsv.lineState = .halt := State.line_of_fixed hl hx
  exact ⟨hline, State.seg_modSeg_same hkx f ▸ hf _⟩

theorem State.enterHalt_segment {s : State} {k : Nat} (hk : k ∈ s.segNumbers) (cause : LineCause) :
    ((s.enterHalt cause).seg k).halted := by
  have hkept := keptByHalt_halted k
  let y := (s.enterLine .halt cause).haltBus
  have hline : y.lsv.lineState = .halt := State.haltBus_lineState _
  have hky : k ∈ y.segNumbers := State.segNumbers_of_units (State.haltBus_units (s.enterLine .halt cause)) ▸ hk
  have hsegments := forEach_establishes (inv := fun x : State => x.fixed = y.fixed)
    (p := fun x => x.lsv.lineState = .halt ∧ (x.seg k).halted) (f := fun j x => x.haltSegment j)
    (fun j x hx => (x.haltSegment_fixed j).trans hx)
    (fun j x hx hp => hkept.haltSegment_keeps hp.1 hp j)
    (fun x hx => State.haltSegment_halted (State.line_of_fixed hline hx)
      (State.segNumbers_of_units (units_of_fixed hx) ▸ hky)) hky rfl
  exact (hkept.aside (hkept.haltStations hsegments) (State.stopTravel_standing _)).2

/-! ## Stations (R68) -/

theorem State.stationNumbers_of_units {s u : State} (h : u.units = s.units) :
    u.stationNumbers = s.stationNumbers :=
  congrArg Units.stations h


/-- A station that is in FAULT or SKIPPED (R68). -/
def Station.halted (st : Station) : Prop := st.state = .fault ∨ st.state = .skipped

theorem State.station_modStation (s : State) (n m : Nat) (f : Station → Station) :
    (s.modStation n f).station m = s.station m ∨ (s.modStation n f).station m = f (s.station m) := by
  by_cases hm : m = n
  · subst hm
    simp only [State.station, State.modStation_sqs, tableGet_modify_same]
    cases tableGet m s.sqs.stations with
    | none => exact .inl rfl
    | some st => exact .inr rfl
  · exact .inl (State.station_modStation_other hm f)

/-- A halted station stays halted through a change that keeps its state or comes to FAULT. -/
theorem State.station_modStation_halted {s : State} {n m : Nat} {f : Station → Station} (hs : (s.station m).halted)
    (hf : ∀ st, (f st).state = st.state ∨ (f st).state = .fault) : ((s.modStation n f).station m).halted := by
  obtain h | h := s.station_modStation n m f
  · rwa [h]
  · rw [h]
    obtain hf | hf := hf (s.station m)
    · rw [Station.halted, hf]; exact hs
    · exact .inl hf

theorem State.station_handOn_state (s : State) (n m : Nat) (e : JobEnd) :
    ((s.handOn n e).station m).state = (s.station m).state := by
  have hgiven (x : State) : ((x.outcomeGiven n).station m).state = (x.station m).state := by
    obtain h | h := x.station_modStation n m fun st => { st with outcomeGiven := true } <;> rw [State.outcomeGiven, h]
  unfold State.handOn
  (repeat' split)
  · exact hgiven _
  · exact hgiven _
  · exact hgiven _
  · rfl

theorem State.station_stationRetract_state (s : State) (n m : Nat) :
    ((s.stationRetract n).station m).state = (s.station m).state := by
  have hposted (code : CmdCode) : (s.replaceCmd (s.stationNode n) code).station m = s.station m := by
    unfold State.replaceCmd
    split <;> rfl
  simp only [State.stationRetract]
  split
  · rw [State.station_handOn_state, hposted]
  · rw [hposted]

theorem State.station_stationFault_halted {s : State} {m : Nat} (hs : (s.station m).halted) (n : Nat)
    (cause : StationCause) (e : JobEnd) : ((s.stationFault n cause e).station m).halted := by
  by_cases hf : (s.station n).state = .fault
  · rwa [State.stationFault_again hf]
  · rw [State.stationFault_enters hf, Station.halted, State.station_handOn_state]
    exact State.station_modStation_halted hs fun _ => .inr rfl

theorem State.station_stationFault_fault {s : State} {n : Nat} (hn : n ∈ s.stationNumbers) (cause : StationCause)
    (e : JobEnd) : ((s.stationFault n cause e).station n).state = .fault := by
  by_cases hf : (s.station n).state = .fault
  · rwa [State.stationFault_again hf]
  · obtain ⟨st, hst⟩ := tableGet_of_key hn
    rw [State.stationFault_enters hf, State.station_handOn_state]
    exact congrArg Station.state (State.station_modStation_same (s := s) hst fun st => st.inFault cause)

theorem State.haltStation_keeps {s : State} {m : Nat} (hs : (s.station m).halted) (n : Nat) :
    ((s.haltStation n).station m).halted := by
  have hretracted {x : State} (hx : (x.station m).halted) : ((x.stationRetract n).station m).halted := by
    rw [Station.halted, State.station_stationRetract_state]; exact hx
  unfold State.haltStation
  (repeat' split)
  · exact hretracted (State.station_stationFault_halted hs n _ _)
  · exact hretracted (State.station_stationFault_halted hs n _ _)
  · exact hretracted (State.station_stationFault_halted hs n _ _)
  · exact State.station_stationFault_halted hs n _ _
  · exact State.station_stationFault_halted hs n _ _
  · exact State.station_modStation_halted hs fun _ => .inr rfl
  · exact State.station_modStation_halted hs fun _ => .inr rfl
  · exact State.station_modStation_halted hs fun _ => .inl rfl
  · exact hs
  · exact hs

theorem State.haltStation_halted {s : State} {n : Nat} (hn : n ∈ s.stationNumbers) :
    ((s.haltStation n).station n).halted := by
  have hfault (cause : StationCause) (e : JobEnd) : ((s.stationFault n cause e).station n).halted :=
    .inl (State.station_stationFault_fault hn cause e)
  have hretracted (cause : StationCause) (e : JobEnd) :
      (((s.stationFault n cause e).stationRetract n).station n).halted := by
    rw [Station.halted, State.station_stationRetract_state]; exact hfault cause e
  obtain ⟨st, hst⟩ := tableGet_of_key hn
  have hidle : ((s.modStation n fun st => { st with state := .fault, cause := some .estop, timer := none }).station
      n).halted := .inl (congrArg Station.state (State.station_modStation_same hst _))
  by_cases hs : (s.station n).halted
  · exact State.haltStation_keeps hs n
  · unfold State.haltStation
    split
    case h_8 h => exact absurd (.inl h) hs
    case h_9 h => exact absurd (.inr h) hs
    case h_1 | h_2 | h_3 => exact hretracted _ _
    case h_4 | h_5 => exact hfault _ _
    case h_6 | h_7 => exact hidle

theorem State.haltStations_station {s : State} {n : Nat} (hn : n ∈ s.stationNumbers) :
    (s.haltStations.station n).halted := by
  have hhalted := forEach_establishes (inv := fun x : State => n ∈ x.stationNumbers)
    (p := fun x => (x.station n).halted) (f := fun m x => x.haltStation m)
    (fun m x hx => State.stationNumbers_of_units (units_of_fixed (x.haltStation_fixed m)) ▸ hx)
    (fun m x _ hx => State.haltStation_keeps hx m) (fun x hx => State.haltStation_halted hx) hn hn
  have hkept : s.haltStations.sqs.stations = (forEach (fun m x => x.haltStation m) s.stationNumbers s).sqs.stations :=
    (forEach_view (fun x : State => x.sqs.stations) (fun k x => x.sqsAfter_stations k) _ _).trans rfl
  rw [State.station_of_stations hkept]
  exact hhalted

/-- No common release is due or runs once the stations have halted (R57). -/
theorem State.haltStations_common {s : State} (hl : s.lsv.lineState = .halt) :
    ∀ p ∈ s.haltStations.sqs.common, p.2 = .none := by
  let y := forEach (fun n x => x.haltStation n) s.stationNumbers s
  have hline : y.lsv.lineState = .halt := State.line_of_fixed hl (by simp [y])
  exact (forEach_keeps (p := fun x : State => x.lsv.lineState = .halt ∧ ∀ p ∈ x.sqs.common, p.2 = .none)
    (fun k _ hx => keptByHalt_unreleased.sqsAfter hx k) _
    (s := { y with sqs := { y.sqs with common := y.sqs.common.map fun p => (p.1, .none) } })
    ⟨hline, List.forall_mem_map.mpr fun _ _ => rfl⟩).2

/-! ## The whole entry (R152) -/

theorem State.stopTravel_sqs (s : State) : s.stopTravel.sqs = s.sqs := rfl

theorem State.stopTravel_station (s : State) (n : Nat) : s.stopTravel.station n = s.station n := rfl

theorem State.stopTravel_travel (s : State) : ∀ p ∈ s.stopTravel.cvt.convs, p.2.travel = none :=
  List.forall_mem_map.mpr fun _ _ => rfl

/-- The state of an entry into HALT in which the stations' part begins. -/
def State.segmentsHalted (s : State) (cause : LineCause) : State :=
  forEach (fun k x => x.haltSegment k) ((s.enterLine .halt cause).haltBus).segNumbers (s.enterLine .halt cause).haltBus

theorem State.enterHalt_eq (s : State) (cause : LineCause) :
    s.enterHalt cause = (s.segmentsHalted cause).haltStations.stopTravel := rfl

theorem State.segmentsHalted_fixed (s : State) (cause : LineCause) :
    (s.segmentsHalted cause).fixed = (s.enterLine .halt cause).haltBus.fixed := by
  simp [State.segmentsHalted]

theorem State.enterHalt_station {s : State} {n : Nat} (hn : n ∈ s.stationNumbers) (cause : LineCause) :
    ((s.enterHalt cause).station n).halted := by
  have hunits : (s.segmentsHalted cause).units = s.units :=
    (units_of_fixed (s.segmentsHalted_fixed cause)).trans (State.haltBus_units (s.enterLine .halt cause))
  rw [State.enterHalt_eq, State.stopTravel_station]
  exact State.haltStations_station (State.stationNumbers_of_units hunits ▸ hn)

theorem State.enterHalt_common (s : State) (cause : LineCause) :
    ∀ p ∈ (s.enterHalt cause).sqs.common, p.2 = .none := by
  rw [State.enterHalt_eq, State.stopTravel_sqs]
  exact State.haltStations_common
    (State.line_of_fixed (State.haltBus_lineState (s.enterLine .halt cause)) (s.segmentsHalted_fixed cause))

theorem State.enterHalt_travel (s : State) (cause : LineCause) :
    ∀ p ∈ (s.enterHalt cause).cvt.convs, p.2.travel = none := by
  rw [State.enterHalt_eq]
  exact State.stopTravel_travel _

theorem tx_of_fixed {s u : State} (h : u.fixed = s.fixed) : u.sbm.tx = s.sbm.tx :=
  show u.fixed.sbm.tx = s.fixed.sbm.tx from congrArg (fun x : State => x.sbm.tx) h

theorem State.enterHalt_tx (s : State) (cause : LineCause) : (s.enterHalt cause).sbm.tx = estopBroadcast :=
  (tx_of_fixed (s.enterHalt_fixed cause)).trans
    ((tx_of_fixed (forEach_fixed (fun a x => x.haltNode_fixed a) _ _)).trans rfl)

theorem estopHeld_of_fixed {s u : State} (h : u.fixed = s.fixed) : u.estopHeld = s.estopHeld :=
  show u.fixed.estopHeld = s.fixed.estopHeld from congrArg (fun x : State => x.estopHeld) h

theorem State.enterHalt_estopHeld (s : State) (cause : LineCause) : (s.enterHalt cause).estopHeld = s.estopHeld :=
  (estopHeld_of_fixed (s.enterHalt_fixed cause)).trans
    ((estopHeld_of_fixed (forEach_fixed (fun a x => x.haltNode_fixed a) _ _)).trans rfl)

theorem State.enterHalt_work (s : State) (cause : LineCause) : (s.enterLine .halt cause).HaltWork (s.enterHalt cause) :=
  (keptByHalt_haltWork _).enterHalt (.start rfl)

/-- Posting events changes the Event Queue and GAP alone (R184). -/
theorem Clp.posted_link (c : Clp) (l : List Event) :
    { c.posted l with events := c.events, gap := c.gap } = c := by
  have hlink : { c.posted l with events := [], gap := false } = { c with events := [], gap := false } := by
    induction l generalizing c with
    | nil => rfl
    | cons e rest ih => exact (ih (c.postEvent e)).trans (c.postEvent_link e)
  exact congrArg (fun x : Clp => { x with events := c.events, gap := c.gap }) hlink

/-- The end of the event in HALT takes the notices alone. -/
theorem State.HaltedFrom.closeEvent {s u : State} (h : s.HaltedFrom u) : s.HaltedFrom u.closeEvent := by
  obtain ⟨hline, -⟩ := h.line
  rw [State.closeEvent_notices (by rw [hline]; decide) (by rw [hline]; decide)]
  exact ⟨h.line, h.segments, h.stations, h.common, h.travel, h.broadcast, h.tables, h.nests, h.lists, h.tag, h.lifts,
    h.spacing, h.link, h.clock⟩

/-- The entry into HALT as events: LINE_STATE, and the faults of segments and stations only. -/
theorem State.enterHalt_clp (s : State) (cause : LineCause) : ∃ faults, (s.enterHalt cause).closeEvent.clp
      = (s.clp.posted [{ kind := .lineState, time := s.clock, subject := { kind := .line, number := 0 },
                         pallet := none, detail := .lineState .halt cause }]).posted faults
    ∧ ∀ e ∈ faults, e.haltFault s.clock := by
  obtain ⟨faults, hclp, hfaults⟩ := (s.enterHalt_work cause).faults
  rw [State.closeEvent_clp (by rw [State.enterHalt_lineState]; decide)]
  exact ⟨faults, hclp, hfaults⟩

/-- An entry into HALT leaves what R152 says. -/
theorem State.enterHalt_halted (s : State) (cause : LineCause) : s.HaltedFrom (s.enterHalt cause) := by
  have hwork := s.enterHalt_work cause
  have hlink : { (s.enterHalt cause).clp with events := s.clp.events, gap := s.clp.gap } = s.clp := by
    obtain ⟨faults, hclp, -⟩ := hwork.faults
    have hposted : (s.enterHalt cause).clp = s.clp.posted
        ({ kind := .lineState, time := s.clock, subject := .line, pallet := none,
           detail := .lineState .halt cause } :: faults) := hclp
    rw [hposted, Clp.posted_link]
  exact ⟨⟨hwork.line, s.enterHalt_mode cause⟩, fun k hk => State.enterHalt_segment hk cause,
    fun n hn => State.enterHalt_station hn cause, s.enterHalt_common cause, s.enterHalt_travel cause,
    s.enterHalt_tx cause, hwork.cfg, hwork.nests, hwork.lists, hwork.tag, hwork.lifts, hwork.spacing, hlink,
    hwork.clock⟩

end Sys2Proof.Machine
end

section
/-! PROOF. ESTOP_IN (R151, R189) and HALT (R153): the levels that the filter accepts, and the entry into HALT that an
assertion or the request brings about (O6, O7). -/

namespace Sys2Proof.Machine

/-- The end of the event keeps the whole lsv but for the line state and the notices. -/
theorem State.closeEvent_halt {s : State} (hl : s.lsv.lineState = .halt) :
    s.closeEvent.lsv.estop = s.lsv.estop ∧ s.closeEvent.estopHeld = s.estopHeld := by
  rw [State.closeEvent_notices (by rw [hl]; decide) (by rw [hl]; decide)]
  exact ⟨rfl, rfl⟩

/-! ## HALT (R153) -/

/-- The line states from which HALT and an assertion of ESTOP_IN halt the line (R151, R153). -/
def LineState.stoppable (l : LineState) : Prop := l = .idle ∨ l = .run ∨ l = .stopping

theorem State.requestHalt_stoppable {s : State} (h : s.lsv.lineState.stoppable) :
    s.requestHalt = ((s.enterHalt .haltRequest).closeEvent, .ok []) := by
  obtain h | h | h := h <;> simp [State.requestHalt, h, okEmpty]

theorem State.requestHalt_halt {s : State} (h : s.lsv.lineState = .halt) : s.requestHalt = (s, .ok []) := by
  simp [State.requestHalt, h, okEmpty]

theorem State.requestHalt_config {s : State} (h : s.lsv.lineState = .config) : s.requestHalt = (s, .state) := by
  simp [State.requestHalt, h]

/-- Settles O7, by the line state. -/
theorem haltRequestHaltsTheLine : Obligations.HaltRequestHaltsTheLine := by
  refine fun t tag s hr => ⟨fun hl => ?_, fun hl => ?_, fun hl => ?_⟩
  · let x := s.taking t
    have hhalted := x.enterHalt_halted .haltRequest
    obtain ⟨faults, hclp, hfaults⟩ := x.enterHalt_clp .haltRequest
    have hestop := (State.closeEvent_halt hhalted.line.1).1.trans (x.enterHalt_estop .haltRequest)
    refine ⟨(x.enterHalt .haltRequest).closeEvent, faults, ?_, hestop, hhalted.closeEvent, hclp, hfaults⟩
    rw [exec_halt hr, State.requestHalt_stoppable (s := s.taking t) hl]
  · rw [exec_halt hr, State.requestHalt_halt (s := s.taking t) hl]
  · rw [exec_halt hr, State.requestHalt_config (s := s.taking t) hl]

/-! ## ESTOP_IN (R151) -/

/-- The ESTOP image takes an accepted level and its event is posted. -/
def State.estopTaken (s : State) (level : Bool) (kind : EventKind) : State :=
  (s.setEstop level).post kind .line none .none

theorem State.estopTaken_clp (s : State) (level : Bool) (kind : EventKind) : (s.estopTaken level kind).clp =
    s.clp.posted [{ kind := kind, time := s.clock, subject := .line, pallet := none, detail := .none }] := rfl

theorem State.estopOn_again {s : State} (h : s.lsv.estop = true) : s.estopOn = s := by
  simp [State.estopOn, h]

theorem State.estopOff_again {s : State} (h : s.lsv.estop = false) : s.estopOff = s := by
  simp [State.estopOff, h]

theorem State.estopOff_taken {s : State} (h : s.lsv.estop = true) : s.estopOff = s.estopTaken false .estopOff := by
  simp [State.estopOff, State.estopTaken, h]

theorem State.estopOn_standing {s : State} (h : s.lsv.estop = false)
    (hl : s.lsv.lineState = .config ∨ s.lsv.lineState = .halt) : s.estopOn = s.estopTaken true .estopOn := by
  obtain hl | hl := hl <;> simp [State.estopOn, State.estopTaken, h, hl]

theorem State.estopOn_stoppable {s : State} (h : s.lsv.estop = false) (hl : s.lsv.lineState.stoppable) :
    s.estopOn = (s.estopTaken true .estopOn).enterHalt .estop := by
  obtain hl | hl | hl := hl <;> simp [State.estopOn, State.estopTaken, h, hl]

theorem exec_estopInAsserted_passes {s : State} {t : LineTime} (h : (s.at t).filterPasses = true) :
    exec (.estopInAsserted t) s = .next (s.at t).estopOn.closeEvent :=
  congrArg Host.Outcome.next (if_pos h)

theorem exec_estopInReleased_passes {s : State} {t : LineTime} (h : (s.at t).filterPasses = true) :
    exec (.estopInReleased t) s = .next (s.at t).estopOff :=
  congrArg Host.Outcome.next (if_pos h)

theorem exec_estopIn_filtered {s : State} {t : LineTime} (h : (s.at t).filterPasses = false) :
    exec (.estopInAsserted t) s = .next (s.at t) ∧ exec (.estopInReleased t) s = .next (s.at t) :=
  ⟨congrArg Host.Outcome.next (if_neg (by simp [h])), congrArg Host.Outcome.next (if_neg (by simp [h]))⟩

/-- A halted line leaves of the state before an event of ESTOP_IN what it leaves of the state after it. -/
theorem State.HaltedFrom.of_taken {s u : State} {level : Bool} {kind : EventKind}
    (h : (s.estopTaken level kind).HaltedFrom u) : s.HaltedFrom u := by
  have hposted : { (s.estopTaken level kind).clp with events := s.clp.events, gap := s.clp.gap } = s.clp :=
    Clp.posted_link s.clp [{ kind := kind, time := s.clock, subject := .line, pallet := none, detail := .none }]
  have hlink : { u.clp with events := s.clp.events, gap := s.clp.gap } = s.clp :=
    (congrArg (fun c : Clp => { c with events := s.clp.events, gap := s.clp.gap }) h.link).trans hposted
  exact ⟨h.line, h.segments, h.stations, h.common, h.travel, h.broadcast, h.tables, h.nests, h.lists, h.tag, h.lifts,
    h.spacing, hlink, h.clock⟩

/-- An assertion of ESTOP_IN that halts the line. -/
theorem State.estopOn_halts {s : State} (h : s.lsv.estop = false) (hl : s.lsv.lineState.stoppable) :
    s.estopOn.closeEvent.lsv.estop = true ∧ s.estopOn.closeEvent.estopHeld = 0 ∧ s.HaltedFrom s.estopOn.closeEvent
      ∧ ∃ faults, s.estopOn.closeEvent.clp = (s.clp.posted
          [{ kind := .estopOn, time := s.clock, subject := { kind := .line, number := 0 }, pallet := none,
             detail := .none },
           { kind := .lineState, time := s.clock, subject := { kind := .line, number := 0 }, pallet := none,
             detail := .lineState .halt .estop }]).posted faults
        ∧ ∀ e ∈ faults, e.haltFault s.clock := by
  rw [State.estopOn_stoppable h hl]
  have hhalted := (s.estopTaken true .estopOn).enterHalt_halted .estop
  obtain ⟨hestop, hheld⟩ := State.closeEvent_halt hhalted.line.1
  rw [State.enterHalt_estop] at hestop
  rw [State.enterHalt_estopHeld] at hheld
  obtain ⟨faults, hclp, hfaults⟩ := (s.estopTaken true .estopOn).enterHalt_clp .estop
  rw [State.estopTaken_clp, Clp.posted_posted] at hclp
  exact ⟨hestop, hheld, hhalted.closeEvent.of_taken, faults, hclp, hfaults⟩

/-- Settles O6: the filter, the image, and the line state. -/
theorem estopInputIsTaken : Obligations.EstopInputIsTaken := by
  intro t s
  dsimp only
  refine ⟨fun hheld => ?_, fun hheld => ?_⟩
  · have hpass : (s.at t).filterPasses = true := (s.filterPasses_at t).mpr hheld
    rw [exec_estopInAsserted_passes hpass, exec_estopInReleased_passes hpass]
    refine ⟨fun he => ⟨fun hl => ?_, fun hl => ?_, fun hl => ?_, ?_⟩, fun he => ⟨?_, ?_⟩⟩
    · rw [State.estopOn_standing (s := s.at t) he (.inl hl), State.closeEvent_config (s := (s.at t).estopTaken true .estopOn) hl]
      rfl
    · rw [State.estopOn_standing (s := s.at t) he (.inr hl),
        State.closeEvent_notices (s := (s.at t).estopTaken true .estopOn) (fun hc => nomatch hl.symm.trans hc)
          fun hc => nomatch hl.symm.trans hc]
      rfl
    · obtain ⟨hestop, hzero, hfrom, faults, hclp, hfaults⟩ := State.estopOn_halts (s := s.at t) he hl
      exact ⟨_, faults, rfl, hestop, hzero, hfrom, hclp, hfaults⟩
    · rw [State.estopOff_again (s := s.at t) he]
    · rw [State.estopOff_taken (s := s.at t) he]
      rfl
    · rw [State.estopOn_again (s := s.at t) he]
  · have hfiltered : (s.at t).filterPasses = false := by
      rw [← Bool.not_eq_true, s.filterPasses_at t]
      exact Nat.not_le.mpr hheld
    exact exec_estopIn_filtered hfiltered

end Sys2Proof.Machine
end

section
/-! PROOF. START, STOP and MODE (R147, R148, R150), and the end of STOPPING (R94, R149). -/

namespace Sys2Proof.Machine

/-! ## The end of an event (R149) -/

/-- The line stands in another state than STOPPING, or is not settled yet (R149). -/
def State.goesOn (s : State) : Prop := s.lsv.lineState = .stopping → ¬ s.lineSettled

/-- Outside CONFIG the end of an event takes the notices, and ends no STOPPING that goes on. -/
theorem State.closeEvent_goesOn {s : State} (hc : s.lsv.lineState ≠ .config) (h : s.goesOn) :
    s.closeEvent = s.takeNotices := by
  have hstays : (s.takeNotices.lsv.lineState = .stopping && s.takeNotices.lsv.allSettled) = false := by
    rw [Bool.and_eq_false_iff, decide_eq_false_iff_not, ← Bool.not_eq_true, State.takeNotices_allSettled]
    exact Decidable.not_or_of_imp h
  simp only [State.closeEvent, if_neg hc, hstays, Bool.false_eq_true, if_false]

theorem State.closeEvent_settled {s : State} (hl : s.lsv.lineState = .stopping) (h : s.lineSettled) :
    s.closeEvent = s.takeNotices.leaveStopping := by
  have hends : (s.takeNotices.lsv.lineState = .stopping && s.takeNotices.lsv.allSettled) = true :=
    Bool.and_eq_true_iff.mpr ⟨decide_eq_true hl, State.takeNotices_allSettled s |>.mpr h⟩
  rw [State.closeEvent, if_neg (by rw [hl]; decide)]
  exact if_pos hends

theorem Segment.rest_eq (g : Segment) :
    g.rest = if g.state = .work ∨ g.state = .ready then { g with state := .off } else g := by
  simp [Segment.rest]

/-- At the end of STOPPING a settled segment comes to OFF or is in FAULT. -/
theorem Segment.rest_state {g : Segment} (h : g.settled = true) : g.rest.state = .off ∨ g.rest.state = .fault := by
  rw [Segment.settled_iff] at h
  obtain h | h | h | ⟨h, -⟩ := h <;> simp [Segment.rest, h]

/-- The notices of a settled line are all YES. -/
theorem State.lineSettled_notices {s : State} (h : s.lineSettled) :
    (s.sc.map fun p => (p.1, p.2.settled)) = (s.sc.map fun p => (p.1, true)) ∧ s.stationsAllSettled = true := by
  refine ⟨List.map_congr_left fun p hp => ?_, List.all_eq_true.mpr fun p hp => ?_⟩
  · rw [(Segment.settled_iff p.2).mpr (h.1 p hp)]
  · exact (Station.settled_iff p.2).mpr (h.2 p hp)

/-- The whole state after the end of STOPPING. -/
theorem State.closeEvent_ends {s : State} (hl : s.lsv.lineState = .stopping) (h : s.lineSettled) :
    s.closeEvent = { s with
      lsv := { s.lsv with lineState := .idle, segSettled := s.sc.map fun p => (p.1, true),
                          stationsSettled := some true },
      clp := s.clp.postEvent
        { kind := .lineState, time := s.clock, subject := { kind := .line, number := 0 }, pallet := none,
          detail := .lineState .idle .settled },
      sc := s.sc.map fun p =>
        (p.1, if p.2.state = .work ∨ p.2.state = .ready then { p.2 with state := .off } else p.2) } := by
  obtain ⟨hsegments, hstations⟩ := State.lineSettled_notices h
  rw [State.closeEvent_settled hl h, ← hsegments, ← hstations]
  simp only [← Segment.rest_eq]
  rfl

theorem Clp.postEvent_last (c : Clp) (e : Event) : (c.postEvent e).events.getLast? = some e := by
  unfold Clp.postEvent
  split <;> exact List.getLast?_concat

/-- The line that STOPPING left is settled and at rest, with LINE_STATE (IDLE, SETTLED) last (R94, R149). -/
theorem State.closeEvent_rest {s : State} (hl : s.lsv.lineState = .stopping) (h : s.lineSettled) :
    s.closeEvent.lineSettled ∧ (∀ p ∈ s.closeEvent.sc, p.2.state = .off ∨ p.2.state = .fault)
      ∧ s.closeEvent.clp.events.getLast? = some
        { kind := .lineState, time := s.clock, subject := { kind := .line, number := 0 }, pallet := none,
          detail := .lineState .idle .settled } := by
  rw [State.closeEvent_settled hl h]
  have hrest : ∀ p ∈ s.takeNotices.leaveStopping.sc, p.2.state = .off ∨ p.2.state = .fault :=
    List.forall_mem_map.mpr fun p hp => Segment.rest_state ((Segment.settled_iff p.2).mpr (h.1 p hp))
  refine ⟨⟨fun p hp => (hrest p hp).imp_right fun hf => .inr (.inl hf), h.2⟩, hrest, ?_⟩
  exact Clp.postEvent_last _ _

/-- After the end of an event the line goes on. -/
theorem State.goesOn_closeEvent (s : State) : s.closeEvent.goesOn := by
  by_cases hc : s.lsv.lineState = .config
  · rw [State.closeEvent_config hc]
    exact fun hs => nomatch hc.symm.trans hs
  · by_cases hs : s.lsv.lineState = .stopping ∧ s.lineSettled
    · rw [State.closeEvent_settled hs.1 hs.2]
      exact nofun
    · have hgoes : s.goesOn := not_and.mp hs
      rw [State.closeEvent_goesOn hc hgoes]
      exact hgoes

/-! ## START (R147, R94) -/

theorem State.startLine_fixed (s : State) (m : Mode) :
    (s.startLine m).fixed = { s with lsv := { s.lsv with lineState := .run, mode := m } }.fixed := by
  simp [State.startLine, State.enterLine_fixed]

theorem State.startLine_lineState (s : State) (m : Mode) : (s.startLine m).lsv.lineState = .run :=
  lineState_of_fixed (s.startLine_fixed m)

/-- START takes every segment out of OFF, and none comes back. -/
theorem State.startLine_active {s : State} {k : Nat} (hk : k ∈ s.segNumbers) (m : Mode) :
    ((s.startLine m).seg k).state ≠ .off := by
  have hkept := keptByWork_active k
  let y := (s.modLsv fun l => { l with mode := m }).enterLine .run .start
  have hrun {x : State} (hx : x.fixed = y.fixed) : x.lsv.lineState = .run := State.line_of_fixed rfl hx
  have hsegments := forEach_establishes (inv := fun x : State => x.fixed = y.fixed)
    (p := fun x => (x.seg k).state ≠ .off) (f := fun j x => x.startSegment j)
    (fun j x hx => (x.startSegment_fixed j).trans hx)
    (fun j x hx hp => hkept.startSegment (fun _ => hp) fun _ =>
      hkept.moves x j _ (.inl (hrun hx)) (fun _ => ⟨nofun, nofun⟩) hp)
    (fun x hx => hkept.startSegment id fun _ => by
      rw [State.seg_modSeg_same (State.segNumbers_of_units (units_of_fixed hx) ▸ hk)]
      exact nofun)
    (s := y) (l := y.segNumbers) hk rfl
  have hline : (forEach (fun j x => x.startSegment j) y.segNumbers y).lsv.lineState = .run := hrun (by simp)
  exact hkept.tryCheck (hkept.grantPass (hkept.closeEdited hline hsegments) .rc)

theorem State.requestStart_idle {s : State} (hl : s.lsv.lineState = .idle) {code : Nat} {m : Mode}
    (hm : Mode.ofCode code = some m) : s.requestStart code = ((s.startLine m).closeEvent, .ok []) := by
  simp [State.requestStart, hl, hm, okEmpty]

theorem State.requestStart_unknown {s : State} (hl : s.lsv.lineState = .idle) {code : Nat}
    (hm : Mode.ofCode code = none) : s.requestStart code = (s, .arg 1) := by
  simp [State.requestStart, hl, hm]

theorem State.requestStart_elsewhere {s : State} (hl : s.lsv.lineState ≠ .idle) (code : Nat) :
    s.requestStart code = (s, .state) := by
  simp [State.requestStart, hl]

/-! ## STOP (R148, R79) -/

theorem State.stopLine_fixed (s : State) :
    s.stopLine.fixed = { s with lsv := { s.lsv with lineState := .stopping } }.fixed := by
  simp [State.stopLine, State.enterLine_fixed]

theorem State.stopLine_lineState (s : State) : s.stopLine.lsv.lineState = .stopping :=
  lineState_of_fixed s.stopLine_fixed

/-- STOP leaves no segment QUEUED. -/
theorem State.stopLine_unqueued {s : State} {k : Nat} (hk : k ∈ s.segNumbers) :
    (s.stopLine.seg k).state ≠ .queued := by
  have hkept := keptByWork_unqueued k
  let y := s.enterLine .stopping .stop
  have hstopping {x : State} (hx : x.fixed = y.fixed) : x.lsv.lineState ≠ .run := by
    rw [State.line_of_fixed (l := .stopping) rfl hx]
    decide
  have hsegments := forEach_establishes (inv := fun x : State => x.fixed = y.fixed)
    (p := fun x => x.lsv.lineState ≠ .run ∧ (x.seg k).state ≠ .queued) (f := fun j x => x.stopSegment j)
    (fun j x hx => (x.stopSegment_fixed j).trans hx)
    (fun j x _ hp => hkept.stopSegment (fun _ => hp) fun hq => hkept.shifts hp _ (by simp [hq]) fun _ => by simp)
    (fun x hx => hkept.stopSegment (fun hq => ⟨hstopping hx, hq⟩) fun _ => by
      refine ⟨(hstopping hx : x.lsv.lineState ≠ .run), ?_⟩
      rw [State.seg_modSeg_same (State.segNumbers_of_units (units_of_fixed hx) ▸ hk)]
      exact nofun)
    (s := y) (l := y.segNumbers) hk rfl
  exact (hkept.tryCheck (hkept.grantPass hsegments .rc)).2

/-- The end of an event makes no segment QUEUED. -/
theorem State.closeEvent_unqueued {s : State} {k : Nat} (h : (s.seg k).state ≠ .queued) :
    (s.closeEvent.seg k).state ≠ .queued := by
  obtain heq | heq := s.seg_closeEvent k
  · rwa [heq]
  · rw [heq, Segment.rest]
    split
    · exact nofun
    · exact h

/-- After an event in STOPPING the line is in IDLE exactly when it is settled (R149). -/
theorem State.closeEvent_idle_iff {s : State} (hl : s.lsv.lineState = .stopping) :
    s.closeEvent.lsv.lineState = .idle ↔ s.closeEvent.lineSettled := by
  by_cases h : s.lineSettled
  · exact ⟨fun _ => (State.closeEvent_rest hl h).1, fun _ => State.closeEvent_settled hl h ▸ rfl⟩
  · have hnotices := State.closeEvent_goesOn (by rw [hl]; decide) fun _ => h
    rw [hnotices]
    exact ⟨fun hi => (nomatch hl.symm.trans hi), fun hs => absurd hs h⟩

theorem State.requestStop_run {s : State} (hl : s.lsv.lineState = .run) :
    s.requestStop = (s.stopLine.closeEvent, .ok []) := by
  simp [State.requestStop, hl, okEmpty]

theorem State.requestStop_elsewhere {s : State} (hl : s.lsv.lineState ≠ .run) : s.requestStop = (s, .state) := by
  simp [State.requestStop, hl]

/-! ## MODE (R150) -/

theorem State.modeLine_same {s : State} {m : Mode} (h : s.lsv.mode = m) : s.modeLine m = s := by
  simp [State.modeLine, h]

theorem State.modeLine_still {s : State} {m : Mode} (h : s.lsv.mode ≠ m) :
    (s.modeLine m).still = { s with lsv := { s.lsv with mode := m } }.still := by
  rw [State.modeLine, if_neg h, forEach_still fun k x => x.modeSegment_still k]
  rfl

theorem State.requestMode_run {s : State} (hl : s.lsv.lineState = .run) {code : Nat} {m : Mode}
    (hm : Mode.ofCode code = some m) : s.requestMode code = ((s.modeLine m).closeEvent, .ok []) := by
  simp [State.requestMode, hl, hm, okEmpty]

theorem State.requestMode_unknown {s : State} (hl : s.lsv.lineState = .run) {code : Nat}
    (hm : Mode.ofCode code = none) : s.requestMode code = (s, .arg 1) := by
  simp [State.requestMode, hl, hm]

theorem State.requestMode_elsewhere {s : State} (hl : s.lsv.lineState ≠ .run) (code : Nat) :
    s.requestMode code = (s, .state) := by
  simp [State.requestMode, hl]

/-! ## The three requests -/

section
variable {s : State} (hr : s.linkReady) (t : LineTime) (tag : Byte)
include hr

/-- START in IDLE. -/
theorem exec_start_idle (hl : s.lsv.lineState = .idle) {code : Byte} {m : Mode}
    (hm : Mode.ofCode code.toNat = some m) :
    ∃ u : State, exec (.start t tag code) s = .next (u.replied 0x20 tag (.ok []))
      ∧ u.lsv.lineState = .run ∧ u.lsv.mode = m
      ∧ (∀ k ∈ s.segNumbers, (s.seg k).state = .off → (u.seg k).state ≠ .off)
      ∧ ({ s.taking t with lsv := { (s.taking t).lsv with lineState := .run, mode := m } } : State).worksTo u := by
  have hrun := (s.taking t).startLine_lineState m
  have hmode : ((s.taking t).startLine m).lsv.mode = m := mode_of_fixed ((s.taking t).startLine_fixed m)
  have hnotices := State.closeEvent_notices (s := (s.taking t).startLine m) (by rw [hrun]; decide)
    (by rw [hrun]; decide)
  refine ⟨((s.taking t).startLine m).closeEvent, ?_, ?_, ?_, fun k hk _ => ?_, ?_⟩
  · rw [exec_start hr, State.requestStart_idle (s := s.taking t) hl hm]
  · rw [hnotices]; exact hrun
  · rw [hnotices]; exact hmode
  · rw [hnotices]; exact State.startLine_active (s := s.taking t) hk m
  · exact worksTo_closeEvent ((s.taking t).startLine_fixed m)

/-- STOP in RUN. -/
theorem exec_stop_run (hl : s.lsv.lineState = .run) :
    ∃ u : State, exec (.stop t tag) s = .next (u.replied 0x22 tag (.ok []))
      ∧ (u.lsv.lineState = .stopping ∨ u.lsv.lineState = .idle)
      ∧ (u.lsv.lineState = .idle ↔ u.lineSettled)
      ∧ (∀ k ∈ s.segNumbers, (u.seg k).state ≠ .queued)
      ∧ ({ s.taking t with lsv := { (s.taking t).lsv with lineState := .stopping } } : State).worksTo u := by
  have hstopping := (s.taking t).stopLine_lineState
  refine ⟨(s.taking t).stopLine.closeEvent, ?_, ?_, State.closeEvent_idle_iff hstopping, fun k hk => ?_, ?_⟩
  · rw [exec_stop hr, State.requestStop_run (s := s.taking t) hl]
  · obtain heq | ⟨-, hidle⟩ := (s.taking t).stopLine.closeEvent_lineState
    · exact .inl (heq.trans hstopping)
    · exact .inr hidle
  · exact State.closeEvent_unqueued (State.stopLine_unqueued (s := s.taking t) hk)
  · exact worksTo_closeEvent (s.taking t).stopLine_fixed

/-- MODE in RUN (R150). -/
theorem exec_mode_run (hl : s.lsv.lineState = .run) {code : Byte} {m : Mode}
    (hm : Mode.ofCode code.toNat = some m) :
    (s.lsv.mode = m → exec (.mode t tag code) s = .next ((s.taking t).takeNotices.replied 0x21 tag (.ok [])))
      ∧ (s.lsv.mode ≠ m → ∃ u : State, exec (.mode t tag code) s = .next (u.replied 0x21 tag (.ok []))
        ∧ u.lsv.mode = m
        ∧ ({ s.taking t with lsv := { (s.taking t).lsv with mode := m } } : State).flowsTo u) := by
  rw [exec_mode hr, State.requestMode_run (s := s.taking t) hl hm]
  refine ⟨fun hmode => ?_, fun hmode => ?_⟩
  · rw [State.modeLine_same (s := s.taking t) hmode,
      State.closeEvent_notices (s := s.taking t) (fun hc => nomatch hl.symm.trans hc) fun hc => nomatch hl.symm.trans hc]
  · have hstill := State.modeLine_still (s := s.taking t) hmode
    have hflows := flowsTo_closeEvent hstill
    refine ⟨((s.taking t).modeLine m).closeEvent, rfl, ?_, hflows⟩
    exact (congrArg (fun x : State => x.lsv.mode) hflows.1 :)

end

end Sys2Proof.Machine
end

section
/-! PROOF. What an event can do to the line (R146): leave it as it was, work in its line state, or enter another one with
LINE_STATE. -/

namespace Sys2Proof.Machine

/-! ## The views -/

/-- What the line state and the end of STOPPING turn on. -/
structure Outline where
  clock : LineTime
  pending : List Instr
  line : LineState
  segments : List (Nat × Segment)
  stations : List (Nat × Station)

def State.outline (s : State) : Outline :=
  { clock := s.clock, pending := s.pending, line := s.lsv.lineState, segments := s.sc,
    stations := s.sqs.stations }

/-- The outline with the Event Queue. -/
def State.told (s : State) : Outline × List Event × Bool := (s.outline, s.clp.events, s.clp.gap)

/-- The clock, the waiting commands and the line state. -/
def State.course (s : State) : LineTime × List Instr × LineState := (s.clock, s.pending, s.lsv.lineState)

theorem course_of_fixed {s u : State} (h : u.fixed = s.fixed) : u.course = s.course :=
  show u.fixed.course = s.fixed.course from congrArg State.course h

theorem course_of_outline {s u : State} (h : u.outline = s.outline) : u.course = s.course :=
  congrArg (fun o : Outline => (o.clock, o.pending, o.line)) h

theorem outline_of_told {s u : State} (h : u.told = s.told) : u.outline = s.outline := congrArg (·.1) h

theorem line_of_course {s u : State} (h : u.course = s.course) : u.lsv.lineState = s.lsv.lineState :=
  congrArg (·.2.2) h

theorem clock_of_course {s u : State} (h : u.course = s.course) : u.clock = s.clock ∧ u.pending = s.pending :=
  ⟨congrArg (·.1) h, congrArg (·.2.1) h⟩

theorem line_of_outline {s u : State} (h : u.outline = s.outline) : u.lsv.lineState = s.lsv.lineState :=
  line_of_course (course_of_outline h)

theorem settled_of_outline {s u : State} (h : u.outline = s.outline) : u.lineSettled ↔ s.lineSettled := by
  have hsc : u.sc = s.sc := congrArg Outline.segments h
  have hst : u.sqs.stations = s.sqs.stations := congrArg Outline.stations h
  simp only [State.lineSettled, hsc, hst]

theorem goesOn_of_outline {s u : State} (h : u.outline = s.outline) (hs : s.goesOn) : u.goesOn := fun hl hset =>
  hs (line_of_outline h ▸ hl) ((settled_of_outline h).mp hset)

/-- The end of an event keeps the clock and the waiting commands. -/
theorem State.closeEvent_clock (s : State) :
    s.closeEvent.clock = s.clock ∧ s.closeEvent.pending = s.pending := by
  simp only [State.closeEvent]
  (repeat' split) <;> exact ⟨rfl, rfl⟩

/-! ## LINE_STATE (R146) -/

/-- The record LINE_STATE of the present instant and line state. -/
def State.lineEvent (s : State) (cause : LineCause) : Event :=
  { kind := .lineState, time := s.clock, subject := { kind := .line, number := 0 }, pallet := none,
    detail := .lineState s.lsv.lineState cause }

/-- The Event Queue tells the present line state, or GAP that a record was lost. -/
def State.announces (s : State) : Prop := ∃ cause, s.clp.remembers (s.lineEvent cause)

theorem State.announces_of_told {s u : State} (h : u.told = s.told) (hs : s.announces) : u.announces := by
  obtain ⟨cause, hcause⟩ := hs
  have hout : u.outline = s.outline := outline_of_told h
  have hevents : u.clp.events = s.clp.events := congrArg (·.2.1) h
  have hgap : u.clp.gap = s.clp.gap := congrArg (·.2.2) h
  refine ⟨cause, ?_⟩
  have hclock : u.clock = s.clock := congrArg Outline.clock hout
  rw [Clp.remembers, hevents, hgap, State.lineEvent, hclock, line_of_outline hout]
  exact hcause

theorem State.enterLine_remembers (s : State) (st : LineState) (cause : LineCause) :
    (s.enterLine st cause).clp.remembers ((s.enterLine st cause).lineEvent cause) :=
  Clp.remembers_postEvent_self _ _

/-- A line that remembers the LINE_STATE of its entry announces its state as long as instant and state stand. -/
theorem State.announces_of_entered {y u : State} {cause : LineCause} (h : u.clp.remembers (y.lineEvent cause))
    (hc : u.course = y.course) : u.announces := by
  refine ⟨cause, ?_⟩
  have hclock : u.clock = y.clock := congrArg (·.1) hc
  rw [State.lineEvent, hclock, line_of_course hc]
  exact h

/-- The end of an event announces the line state that was announced, or IDLE (R149). -/
theorem State.closeEvent_announces {s : State} (h : s.announces) : s.closeEvent.announces := by
  by_cases hs : s.lsv.lineState = .stopping ∧ s.lineSettled
  · rw [State.closeEvent_settled hs.1 hs.2]
    exact ⟨.settled, State.enterLine_remembers s.takeNotices .idle .settled⟩
  · by_cases hc : s.lsv.lineState = .config
    · rwa [State.closeEvent_config hc]
    · rw [State.closeEvent_goesOn hc (not_and.mp hs)]
      exact h

/-! ## What an event can do to the line -/

/-- What an event can do to the line, with the line states that its cause can bring about: leave segments, stations and
line state as they were; work between the blocks; or enter one of those line states with LINE_STATE, IDLE from CONFIG or
HALT only. The last two close the event. -/
inductive State.LineEffect (s : State) (lines : List LineState) (u : State) : Prop
  | stays (h : u.outline = s.outline)
  | works {y : State} (hy : y.course = s.course) (hu : u.told = y.closeEvent.told)
  | enters {y : State} (hclock : y.clock = s.clock) (hpending : y.pending = s.pending)
      (hline : y.lsv.lineState ∈ lines) (ha : y.announces)
      (hidle : y.lsv.lineState = .idle → s.lsv.lineState = .config ∨ s.lsv.lineState = .halt)
      (hu : u.told = y.closeEvent.told)

namespace State.LineEffect
variable {s u v : State} {lines : List LineState}

theorem refl (s : State) (lines : List LineState) : s.LineEffect lines s := .stays rfl

/-- Work between the blocks with the end of the event after it. -/
theorem event {y : State} (hy : y.fixed = s.fixed) : s.LineEffect lines y.closeEvent :=
  .works (course_of_fixed hy) rfl

theorem answered (h : s.LineEffect lines u) (a : Answer) : s.LineEffect lines (u, a).1 := h

theorem guarded {c : Prop} [Decidable c] {a : Answer} {r : State × Answer} (h : ¬c → s.LineEffect lines r.1) :
    s.LineEffect lines (if c then (s, a) else r).1 := by
  split
  · exact .refl s lines
  · next hc => exact h hc

/-- The effect turns on the outline of the state before it, and is seen in outline and events of the state after it. -/
theorem congr {s' u' : State} (h : s.LineEffect lines u) (hs : s.outline = s'.outline) (hu : u'.told = u.told) :
    s'.LineEffect lines u' := by
  have hcourse := course_of_outline hs
  cases h with
  | stays h => exact .stays ((outline_of_told hu).trans (h.trans hs))
  | works hy hy' => exact .works (hy.trans hcourse) (hu.trans hy')
  | enters hclock hpending hline ha hidle hy' =>
    refine .enters (hclock.trans (congrArg (·.1) hcourse)) (hpending.trans (congrArg (·.2.1) hcourse)) hline ha
      (fun hi => ?_) (hu.trans hy')
    rw [← line_of_outline hs]
    exact hidle hi

/-- The clock and the waiting commands stay. -/
theorem clock (h : s.LineEffect lines u) : u.clock = s.clock ∧ u.pending = s.pending := by
  cases h with
  | stays h => exact ⟨congrArg Outline.clock h, congrArg Outline.pending h⟩
  | @works y hy hu =>
    obtain ⟨hc, hp⟩ := y.closeEvent_clock
    have hout := outline_of_told hu
    exact ⟨(congrArg Outline.clock hout).trans (hc.trans (congrArg (·.1) hy)),
      (congrArg Outline.pending hout).trans (hp.trans (congrArg (·.2.1) hy))⟩
  | @enters y hclock hpending hline ha hidle hu =>
    obtain ⟨hc, hp⟩ := y.closeEvent_clock
    have hout := outline_of_told hu
    exact ⟨(congrArg Outline.clock hout).trans (hc.trans hclock),
      (congrArg Outline.pending hout).trans (hp.trans hpending)⟩

/-- The line state stays, settles from STOPPING, or is one that the cause can bring about; STOPPING may settle at
once. -/
theorem line (h : s.LineEffect lines u) (hstop : .stopping ∈ lines → .idle ∈ lines) :
    u.lsv.lineState = s.lsv.lineState ∨ (s.lsv.lineState = .stopping ∧ u.lsv.lineState = .idle)
      ∨ u.lsv.lineState ∈ lines := by
  cases h with
  | stays h => exact .inl (line_of_outline h)
  | @works y hy hu =>
    rw [line_of_outline (outline_of_told hu), ← line_of_course hy]
    exact y.closeEvent_lineState.imp_right .inl
  | @enters y hclock hpending hline ha hidle hu =>
    rw [line_of_outline (outline_of_told hu)]
    obtain heq | ⟨hs, hi⟩ := y.closeEvent_lineState
    · exact .inr (.inr (heq ▸ hline))
    · exact .inr (.inr (hi ▸ hstop (hs ▸ hline)))

/-- A change of the line state is announced (R146). -/
theorem announces (h : s.LineEffect lines u) (hne : u.lsv.lineState ≠ s.lsv.lineState) : u.announces := by
  cases h with
  | stays h => exact absurd (line_of_outline h) hne
  | @works y hy hu =>
    refine State.announces_of_told hu ?_
    rw [line_of_outline (outline_of_told hu), ← line_of_course hy] at hne
    by_cases hs : y.lsv.lineState = .stopping ∧ y.lineSettled
    · rw [State.closeEvent_settled hs.1 hs.2]
      exact ⟨.settled, State.enterLine_remembers y.takeNotices .idle .settled⟩
    · by_cases hc : y.lsv.lineState = .config
      · exact absurd (congrArg (fun x : State => x.lsv.lineState) (State.closeEvent_config hc)) hne
      · exact absurd (congrArg (fun x : State => x.lsv.lineState) (State.closeEvent_goesOn hc (not_and.mp hs))) hne
  | enters hclock hpending hline ha hidle hu => exact State.announces_of_told hu (State.closeEvent_announces ha)

/-- A settled line does not stay in STOPPING (R149). -/
theorem goesOn (h : s.LineEffect lines u) (hs : s.goesOn) : u.goesOn := by
  cases h with
  | stays h => exact goesOn_of_outline h hs
  | works hy hu => exact goesOn_of_outline (outline_of_told hu) (State.goesOn_closeEvent _)
  | enters hclock hpending hline ha hidle hu =>
    exact goesOn_of_outline (outline_of_told hu) (State.goesOn_closeEvent _)

/-- From RUN and STOPPING the line comes to IDLE settled and at rest, with LINE_STATE (IDLE, SETTLED) last (R94, R149). -/
theorem rests (h : s.LineEffect lines u) (hs : s.lsv.lineState = .run ∨ s.lsv.lineState = .stopping)
    (hu : u.lsv.lineState = .idle) : u.lineSettled ∧ (∀ p ∈ u.sc, p.2.state = .off ∨ p.2.state = .fault)
      ∧ u.clp.events.getLast? = some
        { kind := .lineState, time := u.clock, subject := { kind := .line, number := 0 }, pallet := none,
          detail := .lineState .idle .settled } := by
  have hclosed {y : State} (hyu : u.told = y.closeEvent.told) (hy : y.lsv.lineState ≠ .idle) :
      u.lineSettled ∧ (∀ p ∈ u.sc, p.2.state = .off ∨ p.2.state = .fault)
        ∧ u.clp.events.getLast? = some
          { kind := .lineState, time := u.clock, subject := { kind := .line, number := 0 }, pallet := none,
            detail := .lineState .idle .settled } := by
    have hout := outline_of_told hyu
    have hidle : y.closeEvent.lsv.lineState = .idle := (line_of_outline hout).symm.trans hu
    have hstop : y.lsv.lineState = .stopping :=
      (y.closeEvent_lineState.resolve_left fun heq => hy (heq.symm.trans hidle)).1
    have hset : y.lineSettled := not_not.mp fun hn => by
      rw [State.closeEvent_goesOn (by rw [hstop]; decide) fun _ => hn] at hidle
      exact hy hidle
    obtain ⟨hsettled, hrest, hlast⟩ := State.closeEvent_rest hstop hset
    have hsc : u.sc = y.closeEvent.sc := congrArg Outline.segments hout
    have hevents : u.clp.events = y.closeEvent.clp.events := congrArg (·.2.1) hyu
    have hclock : u.clock = y.clock := (congrArg Outline.clock hout).trans y.closeEvent_clock.1
    exact ⟨(settled_of_outline hout).mpr hsettled, hsc ▸ hrest, by rw [hevents, hclock]; exact hlast⟩
  have hne : s.lsv.lineState ≠ .idle := by obtain h | h := hs <;> rw [h] <;> decide
  cases h with
  | stays h => exact absurd ((line_of_outline h).symm.trans hu) hne
  | works hy hyu => exact hclosed hyu (line_of_course hy ▸ hne)
  | enters hclock hpending hline ha hidle hyu =>
    refine hclosed hyu fun hi => ?_
    obtain hfrom | hfrom := hidle hi <;> obtain hs | hs := hs <;> exact nomatch hs.symm.trans hfrom

end State.LineEffect

end Sys2Proof.Machine
end

section
/-! PROOF. What the requests can do to the line: the six that change its state, each with the LINE_STATE of the new one,
and the others, which work in the line state they find (R146, R157). -/

namespace Sys2Proof.Machine

/-! ## The operations that enter a line state -/

theorem State.enterHalt_course (s : State) (cause : LineCause) :
    (s.enterHalt cause).course = (s.enterLine .halt cause).course :=
  (course_of_fixed (s.enterHalt_fixed cause)).trans
    ((course_of_fixed (forEach_fixed (fun a x => x.haltNode_fixed a) _ _)).trans rfl)

theorem State.enterHalt_announces (s : State) (cause : LineCause) : (s.enterHalt cause).announces :=
  State.announces_of_entered ((keptByHalt_remembers _).enterHalt (s.enterLine_remembers .halt cause))
    (s.enterHalt_course cause)

theorem State.startLine_announces (s : State) (m : Mode) : (s.startLine m).announces := by
  let y := (s.modLsv fun l => { l with mode := m }).enterLine .run .start
  have hkept := (keptByHalt_remembers (y.lineEvent .start)).toKeptByWork
  have hsegments : (forEach (fun k x => x.startSegment k) y.segNumbers y).clp.remembers (y.lineEvent .start) :=
    forEach_keeps (p := fun x : State => x.clp.remembers (y.lineEvent .start))
      (fun k x hx => hkept.startSegment (fun _ => hx) fun _ => hx) _ (State.enterLine_remembers _ _ _)
  have hline : (forEach (fun k x => x.startSegment k) y.segNumbers y).lsv.lineState = .run :=
    State.line_of_fixed (s := y) rfl (by simp)
  exact State.announces_of_entered (y := y) (hkept.tryCheck (hkept.grantPass (hkept.closeEdited hline hsegments) .rc))
    (course_of_fixed (by simp [State.startLine, y]))

theorem State.stopLine_announces (s : State) : s.stopLine.announces := by
  let y := s.enterLine .stopping .stop
  have hkept := (keptByHalt_remembers (y.lineEvent .stop)).toKeptByWork
  have hsegments : (forEach (fun k x => x.stopSegment k) y.segNumbers y).clp.remembers (y.lineEvent .stop) :=
    forEach_keeps (p := fun x : State => x.clp.remembers (y.lineEvent .stop))
      (fun k x hx => hkept.stopSegment (fun _ => hx) fun _ => hx) _ (State.enterLine_remembers _ _ _)
  exact State.announces_of_entered (y := y) (hkept.tryCheck (hkept.grantPass hsegments .rc))
    (course_of_fixed (by simp [State.stopLine, y]))

theorem State.restartTravel_clp (s : State) : s.restartTravel.clp = s.clp := by
  simp only [State.restartTravel]
  rw [forEach_view (f := fun c x => State.setTravel x c) (fun x : State => x.clp) fun _ _ => rfl]

theorem State.recoverLine_announces (s : State) : s.recoverLine.announces := by
  let y := s.enterLine .idle .recover
  have hstations : y.recoverStations.clp.remembers (y.lineEvent .recover) :=
    (keptByHalt_remembers (y.lineEvent .recover)).toKeptByWork.recoverStations (State.enterLine_remembers _ _ _)
  refine State.announces_of_entered (y := y) (cause := .recover) ?_ (course_of_fixed (by simp [State.recoverLine, y]))
  rw [State.recoverLine, State.restartTravel_clp]
  exact hstations

theorem State.firstScanInHalt_told (s : State) : s.firstScanInHalt.told = s.told := rfl

theorem State.firstScanInHalt_clock (s : State) : s.firstScanInHalt.clock = s.clock := rfl

theorem State.firstScanInHalt_pending (s : State) : s.firstScanInHalt.pending = s.pending := rfl

theorem State.commitLine_announces (s : State) : s.commitLine.announces := by
  cases he : s.lsv.estop with
  | false =>
    rw [State.commitLine_released he]
    exact ⟨.commit, State.enterLine_remembers _ _ _⟩
  | true =>
    rw [State.commitLine_asserted he]
    exact State.announces_of_told (State.firstScanInHalt_told _)
      (State.enterHalt_announces (s.putIntoService.enterLine .idle .commit) .estop)

theorem State.commitLine_course (s : State) : s.commitLine.clock = s.clock ∧ s.commitLine.pending = s.pending := by
  cases he : s.lsv.estop with
  | false =>
    rw [State.commitLine_released he]
    exact ⟨rfl, rfl⟩
  | true =>
    rw [State.commitLine_asserted he]
    obtain ⟨hclock, hpending⟩ := clock_of_course
      (State.enterHalt_course (s.putIntoService.enterLine .idle .commit) .estop)
    rw [State.firstScanInHalt_clock, State.firstScanInHalt_pending, hclock, hpending]
    exact ⟨rfl, rfl⟩

theorem State.commitLine_line (s : State) :
    s.commitLine.lsv.lineState = .idle ∨ s.commitLine.lsv.lineState = .halt := by
  cases he : s.lsv.estop with
  | false => exact .inl (by rw [State.commitLine_released he]; rfl)
  | true => exact .inr (State.commitLine_halted he).1

/-! ## The requests that change the line state (R147 to R149, R151 to R155) -/

section
variable (s : State)

/-- The line states that a request of a type can bring about in the present one (R146). -/
def State.mayEnter (s : State) (type : Byte) : List LineState := linesAnswered type s.lsv.lineState

theorem State.requestCommit_line : s.LineEffect (s.mayEnter 0x14) s.requestCommit.1 := by
  unfold State.requestCommit
  split
  · exact .refl s _
  · next hl =>
    have hconfig : s.lsv.lineState = .config := not_not.mp hl
    split
    · exact .refl s _
    · obtain ⟨hclock, hpending⟩ := s.commitLine_course
      refine .enters hclock hpending ?_ s.commitLine_announces (fun _ => .inl hconfig) rfl
      rw [State.mayEnter, hconfig]
      obtain h | h := s.commitLine_line <;> rw [h] <;> decide

theorem State.requestUncommit_line : s.LineEffect (s.mayEnter 0x15) s.requestUncommit.1 := by
  unfold State.requestUncommit
  split
  · exact .refl s _
  · next hl =>
    refine .enters (y := s.uncommitLine) rfl rfl ?_ ⟨.uncommit, s.enterLine_remembers .config .uncommit⟩ nofun ?_
    · rw [State.mayEnter, not_not.mp hl]
      exact List.mem_singleton_self LineState.config
    · rw [State.closeEvent_config rfl]

theorem State.requestStart_line (code : Nat) : s.LineEffect (s.mayEnter 0x20) (s.requestStart code).1 := by
  unfold State.requestStart
  split
  · exact .refl s _
  · next hl =>
    split
    · exact .refl s _
    · next m _ =>
      obtain ⟨hclock, hpending⟩ := clock_of_course (course_of_fixed (s.startLine_fixed m))
      have hrun := s.startLine_lineState m
      refine .enters hclock hpending ?_ (s.startLine_announces m)
        (fun hi => nomatch hrun.symm.trans hi) rfl
      rw [State.mayEnter, not_not.mp hl, hrun]
      decide

theorem State.requestStop_line : s.LineEffect (s.mayEnter 0x22) s.requestStop.1 := by
  unfold State.requestStop
  split
  · exact .refl s _
  · next hl =>
    obtain ⟨hclock, hpending⟩ := clock_of_course (course_of_fixed s.stopLine_fixed)
    have hstopping := s.stopLine_lineState
    refine .enters hclock hpending ?_ s.stopLine_announces
      (fun hi => nomatch hstopping.symm.trans hi) rfl
    rw [State.mayEnter, not_not.mp hl, hstopping]
    decide

/-- HALT and an assertion of ESTOP_IN can bring about HALT in IDLE, RUN and STOPPING. -/
theorem State.halt_mayEnter {s : State} (hl : s.lsv.lineState.stoppable) : .halt ∈ s.mayEnter 0x23 := by
  unfold State.mayEnter
  obtain h | h | h := hl <;> rw [h] <;> decide

theorem State.enterHalt_line (hl : s.lsv.lineState.stoppable) (cause : LineCause) :
    s.LineEffect (s.mayEnter 0x23) (s.enterHalt cause).closeEvent := by
  obtain ⟨hclock, hpending⟩ := clock_of_course (s.enterHalt_course cause)
  have hhalt := s.enterHalt_lineState cause
  exact .enters hclock hpending (hhalt ▸ State.halt_mayEnter hl)
    (s.enterHalt_announces cause) (fun hi => nomatch hhalt.symm.trans hi) rfl

theorem State.requestHalt_line : s.LineEffect (s.mayEnter 0x23) s.requestHalt.1 := by
  unfold State.requestHalt
  split
  case h_1 | h_2 => exact .refl s _
  case h_3 hl => exact .answered (s.enterHalt_line (.inl hl) _) _
  case h_4 hl => exact .answered (s.enterHalt_line (.inr (.inl hl)) _) _
  case h_5 hl => exact .answered (s.enterHalt_line (.inr (.inr hl)) _) _

theorem State.requestRecover_line : s.LineEffect (s.mayEnter 0x24) s.requestRecover.1 := by
  unfold State.requestRecover
  split
  · exact .refl s _
  · next hl =>
    have hhalt : s.lsv.lineState = .halt := not_not.mp hl
    split
    · exact .refl s _
    · obtain ⟨hclock, hpending⟩ := clock_of_course (course_of_fixed s.recoverLine_fixed)
      refine .enters hclock hpending ?_ s.recoverLine_announces
        (fun _ => .inr hhalt) rfl
      rw [State.mayEnter, hhalt, s.recoverLine_lineState]
      decide

end

end Sys2Proof.Machine
end

section
/-! PROOF. The requests that work in the line state they find, and the hand-over of a frame to its owner (R181). -/

namespace Sys2Proof.Machine

section
variable (s : State) (lines : List LineState)

/-! ## Requests that change no line state (R157) -/

theorem State.requestLineSet_line (body : List Byte) : s.LineEffect lines (s.requestLineSet body).1 := by
  refine .guarded fun _ => ?_
  split
  · exact .refl s lines
  · exact .stays rfl

theorem State.requestSegmentSet_line (body : List Byte) : s.LineEffect lines (s.requestSegmentSet body).1 := by
  refine .guarded fun _ => ?_
  split
  · exact .refl s lines
  · exact .stays rfl

theorem State.requestStationSet_line (body : List Byte) : s.LineEffect lines (s.requestStationSet body).1 := by
  refine .guarded fun _ => ?_
  split
  · exact .refl s lines
  · split <;> exact .stays rfl

theorem State.requestBusSet_line (body : List Byte) : s.LineEffect lines (s.requestBusSet body).1 := by
  refine .guarded fun _ => ?_
  split
  · exact .refl s lines
  · exact .stays rfl

theorem State.requestMode_line (code : Nat) : s.LineEffect lines (s.requestMode code).1 := by
  refine .guarded fun _ => ?_
  split
  · exact .refl s lines
  · next m _ =>
    refine .answered (.works (y := s.modeLine m) ?_ rfl) _
    unfold State.modeLine
    split
    · rfl
    · exact (course_of_fixed (forEach_fixed (fun k x => x.modeSegment_fixed k) _ _)).trans rfl

theorem State.requestStepGrant_line (mask : Byte) : s.LineEffect lines (s.requestStepGrant mask).1 :=
  .guarded fun _ => .guarded fun _ => .answered (.event (by simp)) _

theorem State.requestHold_line (mask : Byte) : s.LineEffect lines (s.requestHold mask).1 :=
  .guarded fun _ => .guarded fun _ => .answered (.event (by simp)) _

theorem State.requestContinue_line (mask : Byte) : s.LineEffect lines (s.requestContinue mask).1 :=
  .guarded fun _ => .guarded fun _ => .answered (.event (by simp)) _

theorem State.requestRestart_line : s.LineEffect lines s.requestRestart.1 :=
  .guarded fun _ => .stays rfl

theorem State.requestBypassOn_line (n : Nat) : s.LineEffect lines (s.requestBypassOn n).1 := by
  refine .guarded fun _ => .guarded fun _ => ?_
  split
  · exact .refl s lines
  · refine .guarded fun _ => .guarded fun _ => ?_
    split
    · exact .answered (.event (by simp)) _
    · split
      · exact .guarded fun _ => .answered (.event (by simp)) _
      · exact .refl s lines

theorem State.requestBypassOff_line (n : Nat) : s.LineEffect lines (s.requestBypassOff n).1 := by
  refine .guarded fun _ => .guarded fun _ => ?_
  split
  · exact .refl s lines
  · refine .guarded fun _ => ?_
    split
    · split
      · exact .answered (.event (by simp)) _
      · split
        · exact .answered (.event (by simp)) _
        · exact .refl s lines
    · exact .refl s lines

theorem State.requestBypass_line (n setting : Nat) : s.LineEffect lines (s.requestBypass n setting).1 := by
  unfold State.requestBypass
  split
  · exact s.requestBypassOff_line lines n
  · exact s.requestBypassOn_line lines n
  · exact .guarded fun _ => .guarded fun _ => .refl s lines

theorem State.requestAbortCycle_line (n : Nat) : s.LineEffect lines (s.requestAbortCycle n).1 := by
  refine .guarded fun _ => .guarded fun _ => ?_
  split
  · exact .refl s lines
  · next r _ =>
    have habort : s.LineEffect lines (s.abortStation n r).closeEvent := .event (s.abortStation_fixed n r)
    split
    case h_4 => exact .refl s lines
    all_goals exact .answered habort _

theorem State.requestClearStation_line (n : Nat) : s.LineEffect lines (s.requestClearStation n).1 := by
  refine .guarded fun _ => .guarded fun _ => ?_
  split
  · exact .refl s lines
  · refine .guarded fun _ => .guarded fun _ => .guarded fun _ => ?_
    split
    · exact .refl s lines
    · exact .guarded fun _ => .answered (.event (by simp)) _

theorem State.requestClearSegment_line (k : Nat) : s.LineEffect lines (s.requestClearSegment k).1 :=
  .guarded fun _ => .guarded fun _ => .guarded fun _ => .guarded fun _ => .guarded fun _ =>
    .guarded fun _ => .guarded fun _ => .answered (.event (by simp)) _

theorem State.requestClearConveyor_line (number : Nat) : s.LineEffect lines (s.requestClearConveyor number).1 := by
  refine .guarded fun _ => ?_
  split
  · exact .refl s lines
  · exact .guarded fun _ => .guarded fun _ => .guarded fun _ => .answered (.event (by simp)) _

theorem State.requestClearFault_line (kind number : Nat) : s.LineEffect lines (s.requestClearFault kind number).1 := by
  unfold State.requestClearFault
  split
  · exact s.requestClearSegment_line lines number
  · exact s.requestClearStation_line lines number
  · exact s.requestClearConveyor_line lines number
  · exact .refl s lines

theorem State.requestPalletDefine_line (id variant : Nat) :
    s.LineEffect lines (s.requestPalletDefine id variant).1 := by
  refine .guarded fun _ => ?_
  split
  · exact .refl s lines
  · exact .guarded fun _ => .guarded fun _ => .stays rfl

theorem State.requestPalletDelete_line (id : Nat) : s.LineEffect lines (s.requestPalletDelete id).1 := by
  refine .guarded fun _ => ?_
  split
  · exact .refl s lines
  · exact .guarded fun _ => .stays rfl

theorem State.requestPalletRead_line (id : Nat) : s.LineEffect lines (s.requestPalletRead id).1 := by
  refine .guarded fun _ => ?_
  split <;> exact .refl s lines

theorem State.requestPlace_line (id position : Nat) : s.LineEffect lines (s.requestPlace id position).1 := by
  refine .guarded fun _ => .guarded fun _ => ?_
  split
  · exact .refl s lines
  · refine .guarded fun _ => ?_
    split
    · exact .refl s lines
    · exact .guarded fun _ => .guarded fun _ => .answered (.event (by simp)) _
    · exact .guarded fun _ => .guarded fun _ => .answered (.event (by simp)) _

theorem State.requestRemove_line (id : Nat) : s.LineEffect lines (s.requestRemove id).1 := by
  refine .guarded fun _ => .guarded fun _ => ?_
  split
  · exact .refl s lines
  · split
    · exact .refl s lines
    · split
      · exact .answered (.event (by simp)) _
      · exact .refl s lines

theorem State.requestAcceptTag_line : s.LineEffect lines s.requestAcceptTag.1 := by
  refine .guarded fun _ => ?_
  split
  · exact .guarded fun _ => .guarded fun _ => .answered (.event (by simp)) _
  · exact .refl s lines

theorem State.requestConfirmBefore_line (k : Nat) : s.LineEffect lines (s.requestConfirmBefore k).1 := by
  refine .guarded fun _ => .guarded fun _ => ?_
  split
  · exact .refl s lines
  · exact .answered (.event (by simp)) _

theorem State.requestConfirmAfter_line (k : Nat) : s.LineEffect lines (s.requestConfirmAfter k).1 := by
  refine .guarded fun _ => .guarded fun _ => ?_
  split
  · exact .refl s lines
  · exact .answered (.event (by simp)) _

theorem State.requestConfirmList_line (k flag : Nat) (occupants : List Byte) :
    s.LineEffect lines (s.requestConfirmList k flag occupants).1 := by
  refine .guarded fun _ => .guarded fun _ => ?_
  split
  · exact .refl s lines
  · exact .guarded fun _ => .guarded fun _ => .answered (.event (by simp)) _

theorem State.requestConfirm_line (body : List Byte) : s.LineEffect lines (s.requestConfirm body).1 := by
  unfold State.requestConfirm
  dsimp only
  split
  · exact s.requestConfirmBefore_line lines _
  · exact s.requestConfirmAfter_line lines _
  · exact s.requestConfirmList_line lines _ _ _
  · exact .guarded fun _ => .guarded fun _ => .refl s lines

theorem State.requestMapRead_line (start count : Nat) : s.LineEffect lines (s.requestMapRead start count).1 :=
  .guarded fun _ => .guarded fun _ => .refl s lines

theorem State.requestReserveSet_line (volume : Nat) : s.LineEffect lines (s.requestReserveSet volume).1 :=
  .guarded fun _ => .guarded fun _ => .answered (.event (by simp)) _

theorem State.requestStatus_line (number : Nat) : s.LineEffect lines (s.requestStatus number).1 :=
  .guarded fun _ => .stays rfl

theorem State.requestEventsTake_line (count : Nat) : s.LineEffect lines (s.requestEventsTake count).1 :=
  .stays rfl

end

/-! ## The hand-over to the owners (R181) -/

/-- A frame's request brings about what its type can bring about (R146). -/
theorem State.owner_line (s : State) (type : Byte) (body : List Byte) :
    s.LineEffect (s.mayEnter type) (s.owner type body).1 := by
  have htype {n : Byte} (h : type.toNat = n.toNat) : type = n := BitVec.eq_of_toNat_eq h
  unfold State.owner
  split
  · exact s.requestLineSet_line _ body
  · exact s.requestSegmentSet_line _ body
  · exact s.requestStationSet_line _ body
  · exact s.requestBusSet_line _ body
  · next h => exact htype (n := 0x14) h ▸ s.requestCommit_line
  · next h => exact htype (n := 0x15) h ▸ s.requestUncommit_line
  · next h => exact htype (n := 0x20) h ▸ s.requestStart_line _
  · exact s.requestMode_line _ _
  · next h => exact htype (n := 0x22) h ▸ s.requestStop_line
  · next h => exact htype (n := 0x23) h ▸ s.requestHalt_line
  · next h => exact htype (n := 0x24) h ▸ s.requestRecover_line
  · exact s.requestStepGrant_line _ _
  · exact s.requestHold_line _ _
  · exact s.requestContinue_line _ _
  · exact s.requestRestart_line _
  · exact s.requestBypass_line _ _ _
  · exact s.requestAbortCycle_line _ _
  · exact s.requestClearFault_line _ _ _
  · exact s.requestPalletDefine_line _ _ _
  · exact s.requestPalletDelete_line _ _
  · exact s.requestPalletRead_line _ _
  · exact s.requestPlace_line _ _ _
  · exact s.requestRemove_line _ _
  · exact s.requestAcceptTag_line _
  · exact s.requestConfirm_line _ _
  · exact s.requestMapRead_line _ _ _
  · exact s.requestReserveSet_line _ _
  · exact s.requestStatus_line _ _
  · exact .refl s _
  · exact s.requestEventsTake_line _ _
  · exact .refl s _

theorem State.answer_line (s : State) (f : Frame) : s.LineEffect (s.mayEnter f.type) (s.answer f).1 := by
  unfold State.answer
  split
  · exact .refl s _
  · split
    · exact .refl s _
    · exact s.owner_line f.type f.body

theorem State.takeFrame_line (s : State) (f : Frame) (rest : List Frame) :
    s.LineEffect (s.mayEnter f.type) (s.takeFrame f rest) :=
  (State.answer_line (s.modClp fun c => { c with requests := rest }) f).congr rfl rfl

end Sys2Proof.Machine
end

section
/-! PROOF. What every command can do to the line: a reset, the frame it carries or lets be taken, or an event that
changes it by its own cause (R145, R146, R177). -/

namespace Sys2Proof.Machine

/-! ## The frames of the cell link (R175 to R178) -/

theorem Clp.mayTake_full {c : Clp} (h : c.replies.length = Config.replyQueueCapacity) : c.mayTake = false := by
  simp [Clp.mayTake, h]

/-- Where no frame may be taken none is. -/
theorem State.takeFrames_full {s : State} (h : s.clp.mayTake = false) (n : Nat) : State.takeFrames n s = s := by
  cases n with
  | zero => rfl
  | succ n =>
    unfold State.takeFrames
    split
    · rfl
    · exact if_neg (by simp [h])

/-- With one turn the frame at the head is taken, where one may be. -/
theorem State.takeFrames_head {s : State} {f : Frame} {rest : List Frame} (hreq : s.clp.requests = f :: rest)
    (h : s.clp.mayTake = true) (n : Nat) : State.takeFrames (n + 1) s = State.takeFrames n (s.takeFrame f rest) := by
  rw [State.takeFrames, hreq]
  exact if_pos h

/-- A frame waits only where none may be taken (R177). -/
def State.frameWaits (s : State) : Prop := s.clp.requests ≠ [] → s.clp.mayTake = false

theorem State.linkReady.frameWaits {s : State} (h : s.linkReady) : s.frameWaits := fun hne => absurd h.1 hne

theorem State.QueuesWithin.frameWaits {s : State} (h : s.QueuesWithin) : s.frameWaits := by
  intro hne
  obtain hfull | hrestart := h.waiting hne
  · exact Clp.mayTake_full hfull
  · simp [Clp.mayTake, hrestart]

/-- A frame offered is taken at once, or waits, or is lost. -/
theorem State.offer_line {s : State} (hs : s.frameWaits) (f : Frame) :
    s.LineEffect (s.mayEnter f.type) (s.offer f) := by
  let x := s.modClp fun c => { c with requests := c.requests ++ [f] }
  have hx : s.LineEffect (s.mayEnter f.type) x := .stays rfl
  unfold State.offer
  split
  · cases hmay : s.clp.mayTake with
    | false =>
      have hkept : x.takeAll = x := State.takeFrames_full (s := x) hmay _
      exact hkept.symm ▸ hx
    | true =>
      have hempty : s.clp.requests = [] := not_not.mp fun hne => nomatch (hs hne).symm.trans hmay
      have hone : x.clp.requests = [f] := congrArg (· ++ [f]) hempty
      have htaken : x.takeAll = x.takeFrame f [] := by
        rw [State.takeAll, hone]
        exact State.takeFrames_head (s := x) hone hmay 0
      exact htaken ▸ (x.takeFrame_line f []).congr rfl rfl
  · exact .stays rfl

theorem State.judgeFrame_line {s : State} (hs : s.frameWaits) (type tag : Byte) (body : List Byte)
    (check : BitVec 16) : s.LineEffect (s.mayEnter type) (s.judgeFrame type tag body check) := by
  unfold State.judgeFrame
  split
  · exact (State.offer_line (s := s.hunt) hs { type := type, tag := tag, body := body }).congr (s' := s) rfl rfl
  · exact .stays rfl

theorem State.frameArrives_line {s : State} (hs : s.frameWaits) (type tag : Byte) (body : List Byte)
    (check : BitVec 16) : s.LineEffect (s.mayEnter type) (s.frameArrives type tag body check) := by
  unfold State.frameArrives
  split
  · exact .stays rfl
  · exact State.judgeFrame_line hs ..

theorem State.requestArrives_line {s : State} (hs : s.frameWaits) (type tag : Byte) (body : List Byte) :
    s.LineEffect (s.mayEnter type) (s.requestArrives type tag body) :=
  State.frameArrives_line hs ..

/-- A byte leaves the line alone or completes a frame, whose type is the third byte after the sync byte. -/
theorem State.byteArrives_line {s : State} (hs : s.frameWaits) (b : Byte) :
    s.LineEffect [] (s.byteArrives b) ∨ ∃ bytes gap, s.clp.rx = .assembling bytes gap
      ∧ s.LineEffect (s.mayEnter (((bytes ++ [b])[2]?).getD 0)) (s.byteArrives b) := by
  unfold State.byteArrives
  split
  · split <;> exact .inl (.stays rfl)
  · next bytes gap hrx =>
    unfold State.assemble
    split
    · exact .inl (.stays rfl)
    · split
      · exact .inr ⟨bytes, gap, hrx, State.judgeFrame_line hs ..⟩
      · exact .inl (.stays rfl)

/-- The reply queue is full again once the first waiting frame has been taken (R176, R177). -/
theorem State.QueuesWithin.takeFrame_full {s : State} (hs : s.QueuesWithin) {f : Frame} {rest : List Frame}
    (hreq : s.clp.requests = f :: rest)
    (hmay : (s.modClp fun c => { c with replies := c.replies.drop 1, sending := none }).clp.mayTake = true) :
    ((s.modClp fun c => { c with replies := c.replies.drop 1, sending := none }).takeFrame f rest).clp.mayTake
      = false := by
  let x := s.modClp fun c => { c with replies := c.replies.drop 1, sending := none }
  have hrestart : s.clp.restarting = false := by
    simpa using (Bool.and_eq_true_iff.mp hmay).2
  have hfull : s.clp.replies.length = Config.replyQueueCapacity :=
    (hs.waiting (by simp [hreq])).resolve_right (by simp [hrestart])
  have hreplies := ((x.modClp fun c => { c with requests := rest }).answer_keepsQueues f).replies
  have hlength : (x.takeFrame f rest).clp.replies.length = Config.replyQueueCapacity := by
    calc (x.takeFrame f rest).clp.replies.length
        = ((x.modClp fun c => { c with requests := rest }).answer f).1.clp.replies.length + 1 := List.length_append
      _ = (s.clp.replies.drop 1).length + 1 := by rw [hreplies]; rfl
      _ = Config.replyQueueCapacity := by rw [List.length_drop, hfull]; rfl
  exact Clp.mayTake_full hlength

/-- The last byte of a reply resets the part after RESTART, leaves the line alone, or lets the first waiting frame be
taken (R156, R178). -/
theorem State.replyEnds_line {s : State} (hs : s.QueuesWithin) (br : BitVec 2) :
    (s.clp.restarting = true ∧ s.replyEnds br = State.afterReset s.pending s.lsv.estop br)
      ∨ s.LineEffect [] (s.replyEnds br)
      ∨ ∃ f ∈ s.clp.requests, s.LineEffect (s.mayEnter f.type) (s.replyEnds br) := by
  simp only [State.replyEnds]
  split
  · exact .inr (.inl (.stays rfl))
  · split
    · next hreset => exact .inl ⟨(Bool.and_eq_true_iff.mp hreset).1, rfl⟩
    · let x := s.modClp fun c => { c with replies := c.replies.drop 1, sending := none }
      refine .inr ?_
      cases hmay : x.clp.mayTake with
      | false =>
        have hkept : x.takeAll = x := State.takeFrames_full hmay _
        exact .inl (hkept.symm ▸ .stays rfl)
      | true =>
        cases hreq : s.clp.requests with
        | nil =>
          have hkept : x.takeAll = x := by rw [State.takeAll, show x.clp.requests = [] from hreq]; rfl
          exact .inl (hkept.symm ▸ .stays rfl)
        | cons f rest =>
          have hwaiting : x.clp.requests = f :: rest := hreq
          have htaken : x.takeAll = x.takeFrame f rest := by
            rw [State.takeAll, hwaiting, List.length_cons, State.takeFrames_head hwaiting hmay]
            exact State.takeFrames_full (hs.takeFrame_full hreq hmay) _
          exact .inr ⟨f, List.mem_cons_self, htaken ▸ (x.takeFrame_line f rest).congr (s' := s) rfl rfl⟩

/-! ## In any state -/

/-- A property that an event keeps whatever it does to the line. -/
def KeptByLine (P : State → Prop) : Prop :=
  ∀ (x u : State) (lines : List LineState), x.LineEffect lines u → P x → P u

theorem keptByLine_clock (t : LineTime) (waiting : List Instr) :
    KeptByLine fun x => x.clock = t ∧ x.pending = waiting := fun _ _ _ h hx =>
  ⟨h.clock.1.trans hx.1, h.clock.2.trans hx.2⟩

theorem keptByLine_goesOn : KeptByLine State.goesOn := fun _ _ _ h hx => h.goesOn hx

section
variable {P : State → Prop} (h : KeptByLine P)
include h

theorem KeptByLine.stays {s u : State} (hs : P s) (hu : u.outline = s.outline) : P u := h s u [] (.stays hu) hs

theorem KeptByLine.takeFrames (n : Nat) {s : State} (hs : P s) : P (State.takeFrames n s) := by
  induction n generalizing s with
  | zero => exact hs
  | succ n ih =>
    unfold State.takeFrames
    split
    · exact hs
    · next f rest _ =>
      split
      · exact ih (h _ _ _ (s.takeFrame_line f rest) hs)
      · exact hs

theorem KeptByLine.judgeFrame {s : State} (hs : P s) (type tag : Byte) (body : List Byte) (check : BitVec 16) :
    P (s.judgeFrame type tag body check) := by
  unfold State.judgeFrame State.offer
  (repeat' split)
  · exact h.takeFrames _ (h.stays hs rfl)
  · exact h.stays hs rfl
  · exact h.stays hs rfl

theorem KeptByLine.frameArrives {s : State} (hs : P s) (type tag : Byte) (body : List Byte) (check : BitVec 16) :
    P (s.frameArrives type tag body check) := by
  unfold State.frameArrives
  split
  · exact h.stays hs rfl
  · exact h.judgeFrame hs ..

theorem KeptByLine.byteArrives {s : State} (hs : P s) (b : Byte) : P (s.byteArrives b) := by
  unfold State.byteArrives State.assemble
  (repeat' split)
  · exact h.stays hs rfl
  · exact hs
  · exact h.stays hs rfl
  · exact h.judgeFrame hs ..
  · exact h.stays hs rfl

/-- The last byte of a reply, but for the reset after RESTART. -/
theorem KeptByLine.replyEnds {s : State} (hs : P s) (br : BitVec 2) : P (s.replyEnds br)
    ∨ s.clp.restarting = true ∧ s.replyEnds br = State.afterReset s.pending s.lsv.estop br := by
  simp only [State.replyEnds]
  split
  · exact .inl hs
  · split
    · next hrestart => exact .inr ⟨(Bool.and_eq_true_iff.mp hrestart).1, rfl⟩
    · exact .inl (h.takeFrames _ (h.stays hs rfl))

end

/-! ## The commands -/

theorem linesAnswered_none {type : Byte} (h : type ∉ ([0x14, 0x15, 0x20, 0x22, 0x23, 0x24] : List Byte))
    (l : LineState) : linesAnswered type l = [] := by
  have hne {n : Byte} (hn : n ∈ ([0x14, 0x15, 0x20, 0x22, 0x23, 0x24] : List Byte)) : type.toNat ≠ n.toNat :=
    fun heq => h (BitVec.eq_of_toNat_eq heq ▸ hn)
  unfold linesAnswered
  split
  case h_1 heq => exact absurd heq (hne (n := 0x14) (by decide))
  case h_2 heq => exact absurd heq (hne (n := 0x15) (by decide))
  case h_3 heq => exact absurd heq (hne (n := 0x20) (by decide))
  case h_4 heq => exact absurd heq (hne (n := 0x22) (by decide))
  case h_5 heq | h_6 heq | h_7 heq => exact absurd heq (hne (n := 0x23) (by decide))
  case h_8 heq => exact absurd heq (hne (n := 0x24) (by decide))
  case h_9 => rfl

theorem linesAnswered_unknown {type : Byte} (h : requestTypeCodes.contains type = false) (l : LineState) :
    linesAnswered type l = [] := by
  refine linesAnswered_none (fun hin => ?_) l
  have hknown : ∀ n ∈ ([0x14, 0x15, 0x20, 0x22, 0x23, 0x24] : List Byte), requestTypeCodes.contains n = true := by
    decide
  exact nomatch h.symm.trans (hknown type hin)

/-- A request that may bring about STOPPING may bring about IDLE, into which STOPPING settles (R148, R149). -/
theorem idle_of_stopping {type : Byte} {l : LineState} (h : .stopping ∈ linesAnswered type l) :
    .idle ∈ linesAnswered type l := by
  unfold linesAnswered at h ⊢
  split at h <;> simp_all

/-- What a command can do: reset the part; let the frame of a request arrive; take bytes or frames of the link; or act
by itself, with the line states that R146's table lets it bring about. -/
inductive LineCommand (c : Instr) (s : State) : State → Prop
  | reset (estop : Bool) (br : BitVec 2) (hc : c = .hardwareReset estop br) :
      LineCommand c s (State.afterReset s.pending estop br)
  | event (t : LineTime) (ht : lineTimeOf c = some t) {lines : List LineState}
      (hlines : ∀ l ∈ lines, l = .halt ∧ l ∈ linesReached c s.lsv.lineState) {u : State}
      (h : (s.at t).LineEffect lines u) : LineCommand c s u
  | request (t : LineTime) (ht : lineTimeOf c = some t) (type tag : Byte) (body : List Byte)
      (hlines : carriesFrames c = false →
        ∀ l ∈ linesAnswered type s.lsv.lineState, l ∈ linesReached c s.lsv.lineState)
      (hframe : carriesFrames c = true → type ∈ frameTypes c s) :
      LineCommand c s ((s.at t).requestArrives type tag body)
  | frame (t : LineTime) (type tag : Byte) (body : List Byte) (check : BitVec 16)
      (hc : c = .frameReceived t type tag body check) : LineCommand c s ((s.at t).frameArrives type tag body check)
  | byte (t : LineTime) (b : Byte) (hc : c = .cellLinkByteReceived t b) : LineCommand c s ((s.at t).byteArrives b)
  | replyEnd (t : LineTime) (br : BitVec 2) (hc : c = .replySendEnd t br) :
      LineCommand c s ((s.at t).replyEnds br)

/-- A command that works in the line state it finds. -/
theorem LineCommand.works {c : Instr} {s u : State} (t : LineTime) (ht : lineTimeOf c = some t)
    (h : (s.at t).LineEffect [] u) : LineCommand c s u :=
  .event t ht (List.forall_mem_nil _) h

/-- A timer's command with the end of the event after it. -/
theorem LineCommand.timer {c : Instr} {s y : State} (t : LineTime) (ht : lineTimeOf c = some t)
    (h : y.fixed = (s.at t).fixed) : LineCommand c s y.closeEvent :=
  .works t ht (.event h)

/-- The request of a command that bears its own type, one that changes no line state. -/
theorem LineCommand.serves {c : Instr} {s : State} (t : LineTime) (ht : lineTimeOf c = some t) (type tag : Byte)
    (body : List Byte) (htype : type ∉ ([0x14, 0x15, 0x20, 0x22, 0x23, 0x24] : List Byte))
    (hc : carriesFrames c = false) : LineCommand c s ((s.at t).requestArrives type tag body) :=
  .request t ht type tag body (fun _ l hl => by rw [linesAnswered_none htype] at hl; cases hl)
    fun hf => nomatch hc.symm.trans hf

/-- The request of a command that bears its own type. -/
theorem LineCommand.enters {c : Instr} {s : State} (t : LineTime) (ht : lineTimeOf c = some t) (type tag : Byte)
    (body : List Byte) (hlines : ∀ l, ∀ l' ∈ linesAnswered type l, l' ∈ linesReached c l)
    (hc : carriesFrames c = false) : LineCommand c s ((s.at t).requestArrives type tag body) :=
  .request t ht type tag body (fun _ => hlines s.lsv.lineState) fun hf => nomatch hc.symm.trans hf

theorem State.scanStarts_outline (s : State) : s.scanStarts.outline = s.outline := by
  unfold State.scanStarts
  (repeat' split) <;> rfl

theorem State.slotPolls_outline (s : State) (slot : Nat) : (s.slotPolls slot).outline = s.outline := by
  unfold State.slotPolls
  (repeat' split) <;> rfl

theorem State.replyStarts_outline (s : State) (cts : Bool) : (s.replyStarts cts).outline = s.outline := by
  simp only [State.replyStarts]
  (repeat' split) <;> rfl

theorem State.gapExpires_outline (s : State) : s.gapExpires.outline = s.outline := by
  unfold State.gapExpires
  (repeat' split) <;> rfl

theorem State.framingFails_outline (s : State) : s.framingFails.outline = s.outline := by
  unfold State.framingFails
  split <;> rfl

theorem State.estopOff_outline (s : State) : s.estopOff.outline = s.outline := by
  unfold State.estopOff
  split <;> rfl

theorem State.urgencyExpires_outline (s : State) (k : Nat) : (s.urgencyExpires k).outline = s.outline := by
  unfold State.urgencyExpires
  split <;> rfl

theorem State.staggerExpires_outline (s : State) : s.staggerExpires.outline = s.outline := by
  unfold State.staggerExpires
  (repeat' split) <;> rfl

theorem State.periodExpires_outline (s : State) (k : Nat) : (s.periodExpires k).outline = s.outline := by
  unfold State.periodExpires
  (repeat' split) <;> rfl

theorem State.closeWindow_course (s : State) : s.closeWindow.course = s.course := rfl

theorem State.replyHeard_course (s : State) (chars : List BusChar) : (s.replyHeard chars).course = s.course := by
  unfold State.replyHeard
  (repeat' split)
  · rfl
  · rfl
  · exact (course_of_fixed (State.goodReply_fixed ..)).trans s.closeWindow_course
  · exact (course_of_fixed (State.nodeMisses_fixed ..)).trans s.closeWindow_course

theorem State.windowExpires_course (s : State) : s.windowExpires.course = s.course := by
  unfold State.windowExpires
  (repeat' split)
  · rfl
  · rfl
  · rfl
  · exact (course_of_fixed (State.nodeMisses_fixed ..)).trans s.closeWindow_course

/-- An assertion of ESTOP_IN works in CONFIG and HALT, and brings about HALT elsewhere (R151). -/
theorem State.estopOn_line (s : State) : s.LineEffect (s.mayEnter 0x23) s.estopOn.closeEvent := by
  have hcourse : (s.estopTaken true .estopOn).course = s.course := rfl
  by_cases he : s.lsv.estop = true
  · rw [State.estopOn_again he]
    exact .works rfl rfl
  · have hreleased : s.lsv.estop = false := Bool.not_eq_true _ ▸ he
    have hhalts (hl : s.lsv.lineState.stoppable) : s.LineEffect (s.mayEnter 0x23) s.estopOn.closeEvent := by
      rw [State.estopOn_stoppable hreleased hl]
      exact (State.enterHalt_line (s.estopTaken true .estopOn) hl .estop).congr (s' := s) rfl rfl
    cases hl : s.lsv.lineState
    case config | halt =>
      rw [State.estopOn_standing hreleased (by simp [hl])]
      exact .works hcourse rfl
    case idle => exact hhalts (.inl hl)
    case run => exact hhalts (.inr (.inl hl))
    case stopping => exact hhalts (.inr (.inr hl))

theorem mayEnter_halt {l l' : LineState} (t : LineTime) (h : l' ∈ linesAnswered 0x23 l) :
    l' = .halt ∧ l' ∈ linesReached (.estopInAsserted t) l := by
  cases l <;> simp_all [linesAnswered, linesReached]

theorem exec_lineCommand {c : Instr} {s u : State} (h : exec c s = .next u) : LineCommand c s u := by
  cases c <;> injection h with h <;> subst h
  case hardwareReset estop br => exact .reset estop br rfl
  case estopInAsserted t =>
    split
    · exact .event t rfl (fun _ hl => mayEnter_halt t hl) (s.at t).estopOn_line
    · exact .works t rfl (.refl _ _)
  case estopInReleased t =>
    split
    · exact .works t rfl (.stays (State.estopOff_outline _))
    · exact .works t rfl (.refl _ _)
  case frameReceived t type tag body check => exact .frame t type tag body check rfl
  case cellLinkByteReceived t b => exact .byte t b rfl
  case replySendEnd t br => exact .replyEnd t br rfl
  case frameLengthInvalid t => exact .works t rfl (.stays rfl)
  case framingError t => exact .works t rfl (.stays (State.framingFails_outline _))
  case gapTimerExpiry t => exact .works t rfl (.stays (State.gapExpires_outline _))
  case replySendStart t cts => exact .works t rfl (.stays (State.replyStarts_outline _ cts))
  case unknownRequestType t type tag body =>
    exact .request t rfl type tag body (fun hc l hl => by rw [linesAnswered_unknown hc] at hl; cases hl)
      fun _ => List.mem_singleton_self type
  case commit t tag => exact .enters t rfl _ tag _ (fun l => by cases l <;> simp [linesAnswered, linesReached]) rfl
  case uncommit t tag => exact .enters t rfl _ tag _ (fun l => by cases l <;> simp [linesAnswered, linesReached]) rfl
  case start t tag code => exact .enters t rfl _ tag _ (fun l => by cases l <;> simp [linesAnswered, linesReached]) rfl
  case stop t tag => exact .enters t rfl _ tag _ (fun l => by cases l <;> simp [linesAnswered, linesReached]) rfl
  case halt t tag => exact .enters t rfl _ tag _ (fun l => by cases l <;> simp [linesAnswered, linesReached]) rfl
  case recover t tag => exact .enters t rfl _ tag _ (fun l => by cases l <;> simp [linesAnswered, linesReached]) rfl
  case scanStart t => exact .works t rfl (.stays (State.scanStarts_outline _))
  case slotPoll t slot => exact .works t rfl (.stays (State.slotPolls_outline _ slot))
  case nodeReply t chars => exact .works t rfl (.works (State.replyHeard_course _ chars) rfl)
  case responseWindowExpiry t => exact .works t rfl (.works (State.windowExpires_course _) rfl)
  case clampTimeout t n => exact .timer t rfl (by simp)
  case settleExpiry t n => exact .timer t rfl (by simp)
  case cycleTimeout t n => exact .timer t rfl (by simp)
  case unclampTimeout t n => exact .timer t rfl (by simp)
  case commonTimerExpiry t k => exact .timer t rfl (by simp)
  case stationClearTimeout t n => exact .timer t rfl (by simp)
  case phaseTimeout t k => exact .timer t rfl (by simp)
  case feedWaitExpiry t k => exact .timer t rfl (by simp)
  case segmentClearTimeout t k => exact .timer t rfl (by simp)
  case evaluationTimerExpiry t => exact .timer t rfl (by simp)
  case urgencyExpiry t k => exact .works t rfl (.stays (State.urgencyExpires_outline _ k))
  case hEntryExpiry t => exact .works t rfl (.stays rfl)
  case staggerExpiry t => exact .works t rfl (.stays (State.staggerExpires_outline _))
  case periodExpiry t k => exact .works t rfl (.stays (State.periodExpires_outline _ k))
  case travelTimeout t n => exact .timer t rfl (by simp)
  case tagReadTimeout t => exact .timer t rfl (by simp)
  all_goals exact .serves _ rfl _ _ _ (by decide) rfl

/-! ## Every command in any state (O2) -/

/-- A reset ends in CONFIG with the clock at 0 and the waiting commands kept (R145). -/
theorem State.afterReset_course (waiting : List Instr) (estop : Bool) (br : BitVec 2) :
    (State.afterReset waiting estop br).course = (0, waiting, .config) := by
  cases estop <;> rfl

/-- What an event keeps holds after every command that is no reset, from the state at the command's line time. -/
theorem LineCommand.keeps {P : State → Prop} (hP : KeptByLine P) {c : Instr} {s u : State} (h : LineCommand c s u)
    (hs : ∀ t, lineTimeOf c = some t → P (s.at t)) : P u ∨ (∃ estop br, c = .hardwareReset estop br
        ∧ u.course = (0, s.pending, .config))
      ∨ (∃ t br, c = .replySendEnd t br) ∧ s.clp.restarting = true ∧ u.course = (0, s.pending, .config) := by
  cases h with
  | reset estop br hc => exact .inr (.inl ⟨estop, br, hc, State.afterReset_course _ _ _⟩)
  | event t ht hlines h => exact .inl (hP _ _ _ h (hs t ht))
  | request t ht type tag body hlines hframe => exact .inl (hP.frameArrives (hs t ht) ..)
  | frame t type tag body check hc => exact .inl (hP.frameArrives (hs t (hc ▸ rfl)) ..)
  | byte t b hc => exact .inl (hP.byteArrives (hs t (hc ▸ rfl)) b)
  | replyEnd t br hc =>
    obtain hkept | ⟨hrestart, hreset⟩ := hP.replyEnds (hs t (hc ▸ rfl)) br
    · exact .inl hkept
    · exact .inr (.inr ⟨⟨t, br, hc⟩, hrestart, hreset ▸ State.afterReset_course _ _ _⟩)

theorem exec_next (c : Instr) (s : State) : ∃ u, exec c s = .next u := by
  cases c <;> exact ⟨_, rfl⟩

/-- Settles O2, by what each command can do to the line. -/
theorem everyCommandGoesOnAndSetsTheClock : Obligations.EveryCommandGoesOnAndSetsTheClock := by
  intro c s
  obtain ⟨u, hu⟩ := exec_next c s
  obtain ⟨hclock, hpending⟩ | ⟨estop, br, rfl, hreset⟩ | ⟨hc, hrestart, hreset⟩ :=
    (exec_lineCommand hu).keeps (keptByLine_clock ((lineTimeOf c).getD 0) s.pending)
      fun t ht => ⟨by rw [ht]; rfl, rfl⟩
  · exact ⟨u, hu, hpending, .inl hclock⟩
  · exact ⟨u, hu, congrArg (·.2.1) hreset, .inl (congrArg (·.1) hreset)⟩
  · exact ⟨u, hu, congrArg (·.2.1) hreset, .inr ⟨hc, hrestart, congrArg (·.1) hreset⟩⟩

end Sys2Proof.Machine
end

section
/-! PROOF. The causes of a change of the line state (O5), and the end of STOPPING over all commands (O29). -/

namespace Sys2Proof.Machine

/-! ## What a command brings about -/

/-- An event at some line time that may bring about the line states of `lines`, and IDLE where it may bring about
STOPPING. -/
structure State.ComesTo (s u : State) (lines : List LineState) : Prop where
  effect : ∃ t, (s.at t).LineEffect lines u
  settles : .stopping ∈ lines → .idle ∈ lines

section
variable {s u : State} {lines : List LineState} (h : s.ComesTo u lines)
include h

theorem State.ComesTo.line : u.lsv.lineState = s.lsv.lineState
    ∨ (s.lsv.lineState = .stopping ∧ u.lsv.lineState = .idle) ∨ u.lsv.lineState ∈ lines := by
  obtain ⟨t, heffect⟩ := h.effect
  exact heffect.line h.settles

theorem State.ComesTo.announces (hne : u.lsv.lineState ≠ s.lsv.lineState) : u.announces := by
  obtain ⟨t, heffect⟩ := h.effect
  exact heffect.announces hne

end

theorem State.comesTo_answered {s u : State} {t : LineTime} {type : Byte}
    (h : (s.at t).LineEffect ((s.at t).mayEnter type) u) : s.ComesTo u (linesAnswered type s.lsv.lineState) :=
  ⟨⟨t, h⟩, idle_of_stopping⟩

/-- An event with the line states of `lines`, of which a command by itself brings about HALT at most. -/
theorem State.comesTo_halt {c : Instr} {s u : State} {t : LineTime} {lines : List LineState}
    (h : (s.at t).LineEffect lines u) (hlines : ∀ l ∈ lines, l = .halt ∧ l ∈ linesReached c s.lsv.lineState) :
    s.ComesTo u lines :=
  ⟨⟨t, h⟩, fun hs => nomatch (hlines _ hs).1⟩

/-- At a ready link a command that carries no frame but its own resets the part, or brings about what R146's table lets
it. -/
theorem LineCommand.ready {c : Instr} {s u : State} (h : LineCommand c s u) (hr : s.linkReady)
    (hf : carriesFrames c = false) : ((∃ estop br, c = .hardwareReset estop br) ∧ u.lsv.lineState = .config)
      ∨ ∃ lines, s.ComesTo u lines ∧ ∀ l ∈ lines, l ∈ linesReached c s.lsv.lineState := by
  cases h with
  | reset estop br hc => exact .inl ⟨⟨estop, br, hc⟩, congrArg (·.2.2) (State.afterReset_course _ _ _)⟩
  | event t ht hlines h => exact .inr ⟨_, State.comesTo_halt h hlines, fun l hl => (hlines l hl).2⟩
  | request t ht type tag body hlines hframe =>
    exact .inr ⟨_, State.comesTo_answered (State.requestArrives_line (s := s.at t) hr.frameWaits ..), hlines hf⟩
  | frame t type tag body check hc => exact nomatch hf.symm.trans (congrArg carriesFrames hc)
  | byte t b hc => exact nomatch hf.symm.trans (congrArg carriesFrames hc)
  | replyEnd t br hc => exact nomatch hf.symm.trans (congrArg carriesFrames hc)

/-- With the queues within their capacities every command resets the part, or brings about what R146's table lets it or
the frame that it takes. -/
theorem LineCommand.within {c : Instr} {s u : State} (h : LineCommand c s u) (hs : s.QueuesWithin) :
    ((∃ estop br, c = .hardwareReset estop br) ∧ u.lsv.lineState = .config)
      ∨ ((∃ t br, c = .replySendEnd t br) ∧ s.clp.restarting = true ∧ u.lsv.lineState = .config)
      ∨ ∃ lines, s.ComesTo u lines ∧ ((∀ l ∈ lines, l ∈ linesReached c s.lsv.lineState)
        ∨ ∃ type ∈ frameTypes c s, lines = linesAnswered type s.lsv.lineState) := by
  have hat (t : LineTime) : (s.at t).QueuesWithin := hs.of_view rfl
  cases h with
  | reset estop br hc => exact .inl ⟨⟨estop, br, hc⟩, congrArg (·.2.2) (State.afterReset_course _ _ _)⟩
  | event t ht hlines h =>
    exact .inr (.inr ⟨_, State.comesTo_halt h hlines, .inl fun l hl => (hlines l hl).2⟩)
  | request t ht type tag body hlines hframe =>
    refine .inr (.inr ⟨_, State.comesTo_answered (State.requestArrives_line (hat t).frameWaits ..), ?_⟩)
    cases hf : carriesFrames c with
    | false => exact .inl (hlines hf)
    | true => exact .inr ⟨type, hframe hf, rfl⟩
  | frame t type tag body check hc =>
    subst hc
    exact .inr (.inr ⟨_, State.comesTo_answered (State.frameArrives_line (hat t).frameWaits ..),
      .inr ⟨type, List.mem_singleton_self type, rfl⟩⟩)
  | byte t b hc =>
    subst hc
    obtain h | ⟨bytes, gap, hrx, h⟩ := State.byteArrives_line (hat t).frameWaits b
    · exact .inr (.inr ⟨[], ⟨⟨t, h⟩, nofun⟩, .inl nofun⟩)
    · refine .inr (.inr ⟨_, State.comesTo_answered h, .inr ⟨_, ?_, rfl⟩⟩)
      have hrx' : s.clp.rx = .assembling bytes gap := hrx
      simp [frameTypes, hrx']
  | replyEnd t br hc =>
    obtain ⟨hrestart, hreset⟩ | h | ⟨f, hf, h⟩ := State.replyEnds_line (hat t) br
    · exact .inr (.inl ⟨⟨t, br, hc⟩, hrestart, hreset ▸ congrArg (·.2.2) (State.afterReset_course _ _ _)⟩)
    · exact .inr (.inr ⟨[], ⟨⟨t, h⟩, nofun⟩, .inl nofun⟩)
    · refine .inr (.inr ⟨_, State.comesTo_answered h, .inr ⟨f.type, ?_, rfl⟩⟩)
      subst hc
      exact List.mem_map_of_mem hf

/-! ## The commands that always leave a line state (R146) -/

/-- The line states that a command leaves whenever it is taken at a ready link. -/
inductive Leaves : Instr → LineState → Prop
  | stop (t : LineTime) (tag : Byte) : Leaves (.stop t tag) .run
  | halt (t : LineTime) (tag : Byte) {l : LineState} (h : l.stoppable) : Leaves (.halt t tag) l
  | uncommit (t : LineTime) (tag : Byte) : Leaves (.uncommit t tag) .idle

theorem mem_linesReached_self {c : Instr} {l : LineState} (hreset : ∀ estop br, c ≠ .hardwareReset estop br) :
    l ∈ linesReached c l ∨ Leaves c l := by
  unfold linesReached
  split
  case h_1 => exact absurd rfl (hreset _ _)
  case h_4 => exact .inr (.stop _ _)
  case h_8 => exact .inr (.halt _ _ (.inl rfl))
  case h_9 => exact .inr (.halt _ _ (.inr (.inl rfl)))
  case h_10 => exact .inr (.halt _ _ (.inr (.inr rfl)))
  case h_12 => exact .inr (.uncommit _ _)
  all_goals exact .inl (by simp)

/-- STOPPING may settle into IDLE at every command that does not leave it otherwise. -/
theorem idle_mem_linesReached {c : Instr} (hreset : ∀ estop br, c ≠ .hardwareReset estop br) :
    .idle ∈ linesReached c .stopping ∨ Leaves c .stopping := by
  unfold linesReached
  split
  case h_1 => exact absurd rfl (hreset _ _)
  case h_10 => exact .inr (.halt _ _ (.inr (.inr rfl)))
  case h_7 | h_13 => exact .inl (by simp)
  all_goals contradiction

theorem Leaves.left {c : Instr} {s u : State} (h : Leaves c s.lsv.lineState) (hr : s.linkReady)
    (hu : exec c s = .next u) : u.lsv.lineState ∈ linesReached c s.lsv.lineState := by
  generalize hl : s.lsv.lineState = l at h ⊢
  cases h with
  | stop t tag =>
    obtain ⟨x, hx, hline, -⟩ := exec_stop_run hr t tag hl
    obtain rfl : x.replied 0x22 tag (.ok []) = u := Host.Outcome.next.inj (hx.symm.trans hu)
    exact show (x.replied 0x22 tag (.ok [])).lsv.lineState ∈ [LineState.stopping, .idle] from List.mem_pair.mpr hline
  | halt t tag h =>
    have hreached : linesReached (.halt t tag) l = [.halt] := by obtain rfl | rfl | rfl := h <;> rfl
    have hhalt := ((s.taking t).enterHalt_halted .haltRequest).closeEvent.line.1
    rw [exec_halt hr, State.requestHalt_stoppable (s := s.taking t) (hl.symm ▸ h)] at hu
    injection hu with hu
    subst hu
    rw [hreached]
    exact List.mem_singleton.mpr hhalt
  | uncommit t tag =>
    rw [exec_uncommit hr, State.requestUncommit_idle (s := s.taking t) hl] at hu
    injection hu with hu
    subst hu
    exact List.mem_singleton_self LineState.config

/-! ## The causes (R146) -/

/-- At a ready link a command leads to a line state of R146's table. -/
theorem linesReached_of_ready {c : Instr} {s u : State} (hr : s.linkReady) (hf : carriesFrames c = false)
    (hu : exec c s = .next u) : u.lsv.lineState ∈ linesReached c s.lsv.lineState := by
  by_cases hreset : ∃ estop br, c = .hardwareReset estop br
  · obtain ⟨estop, br, rfl⟩ := hreset
    injection hu with hu
    subst hu
    exact List.mem_singleton.mpr (congrArg (·.2.2) (State.afterReset_course _ _ _))
  have hnot : ∀ estop br, c ≠ .hardwareReset estop br := fun estop br hc => hreset ⟨estop, br, hc⟩
  obtain ⟨hc, -⟩ | ⟨lines, hcomes, hlines⟩ := (exec_lineCommand hu).ready hr hf
  · exact absurd hc hreset
  by_cases hleaves : Leaves c s.lsv.lineState
  · exact hleaves.left hr hu
  obtain hsame | ⟨hstop, hidle⟩ | hin := hcomes.line
  · rw [hsame]
    exact (mem_linesReached_self hnot).resolve_right hleaves
  · rw [hidle, hstop]
    exact (idle_mem_linesReached hnot).resolve_right (hstop ▸ hleaves)
  · exact hlines _ hin

theorem State.announces_iff (s : State) : s.announces ↔ s.clp.gap = true ∨ ∃ cause, s.lineEvent cause ∈ s.clp.events :=
  ⟨fun ⟨cause, h⟩ => h.imp_right fun h => ⟨cause, h⟩, fun h => h.elim (fun h => ⟨.start, .inl h⟩)
    fun ⟨cause, h⟩ => ⟨cause, .inr h⟩⟩

theorem exec_of_step {c : Instr} {rest : List Instr} {s u : State} (hp : s.pending = c :: rest)
    (hu : step s = .next u) : exec c { s with pending := rest } = .next u := by
  unfold step at hu
  rw [hp] at hu
  exact hu

/-- Settles O5: a command by itself, a frame that it takes, or a reset. -/
theorem lineStateChangesOnlyByItsCauses : Obligations.LineStateChangesOnlyByItsCauses := by
  refine ⟨fun c s u hr hf hu => linesReached_of_ready hr hf hu, fun c rest s u hs hp hstep => ?_,
    fun c rest s u hs hp hstep hreset hrestart hne => ?_⟩
  · have hcommand := exec_lineCommand (exec_of_step hp hstep)
    obtain ⟨⟨estop, br, rfl⟩, hconfig⟩ | ⟨hc, hrestart, hconfig⟩ | ⟨lines, hcomes, hlines⟩ :=
      hcommand.within (hs.of_view rfl)
    · exact .inr (.inr (.inl (List.mem_singleton.mpr hconfig)))
    · exact .inr (.inr (.inr (.inr ⟨hc, hrestart, hconfig⟩)))
    · obtain hsame | hsettles | hin := hcomes.line
      · exact .inl hsame
      · exact .inr (.inl hsettles)
      · obtain hreached | ⟨type, htype, rfl⟩ := hlines
        · exact .inr (.inr (.inl (hreached _ hin)))
        · exact .inr (.inr (.inr (.inl ⟨type, htype, hin⟩)))
  · have hcommand := exec_lineCommand (exec_of_step hp hstep)
    obtain ⟨⟨estop, br, hc⟩, -⟩ | ⟨hc, hres, -⟩ | ⟨lines, hcomes, -⟩ := hcommand.within (hs.of_view rfl)
    · exact absurd hc (hreset estop br)
    · exact nomatch hres.symm.trans (hrestart hc)
    · exact u.announces_iff.mp (hcomes.announces hne)

/-! ## The end of STOPPING over all commands (R149) -/

/-- No command leaves a settled line in STOPPING. -/
theorem goesOn_exec {c : Instr} {s u : State} (hs : s.goesOn) (hu : exec c s = .next u) : u.goesOn := by
  have hconfig (h : u.course = (0, s.pending, .config)) : u.goesOn := fun hstop =>
    nomatch (congrArg (·.2.2) h : u.lsv.lineState = .config).symm.trans hstop
  obtain hkept | ⟨estop, br, -, hreset⟩ | ⟨-, -, hreset⟩ :=
    (exec_lineCommand hu).keeps keptByLine_goesOn fun _ _ => hs
  · exact hkept
  · exact hconfig hreset
  · exact hconfig hreset

/-- At a ready link a command that takes a line in motion to IDLE leaves it settled and at rest. -/
theorem rests_of_ready {c : Instr} {s u : State} (hr : s.linkReady) (hf : carriesFrames c = false)
    (hs : s.lsv.lineState = .run ∨ s.lsv.lineState = .stopping) (hu : exec c s = .next u)
    (hi : u.lsv.lineState = .idle) : u.lineSettled ∧ (∀ p ∈ u.sc, p.2.state = .off ∨ p.2.state = .fault)
      ∧ u.clp.events.getLast? = some
        { kind := .lineState, time := u.clock, subject := { kind := .line, number := 0 }, pallet := none,
          detail := .lineState .idle .settled } := by
  obtain ⟨-, hconfig⟩ | ⟨lines, ⟨⟨t, heffect⟩, -⟩, -⟩ := (exec_lineCommand hu).ready hr hf
  · exact nomatch hconfig.symm.trans hi
  · exact heffect.rests hs hi

/-- Settles O29: the three requests, the end of an event, and the end of STOPPING over all commands. -/
theorem startStopAndModeChangeTheLine : Obligations.StartStopAndModeChangeTheLine := by
  refine ⟨fun t tag code s hr => ⟨fun hl m hm => exec_start_idle hr t tag hl hm, exec_stop_run hr t tag,
      fun hl m hm => exec_mode_run hr t tag hl hm, fun hm => ⟨fun hl => ?_, fun hl => ?_⟩, fun hl => ?_,
      fun hl => ⟨?_, ?_⟩⟩,
    fun s => ⟨State.closeEvent_config, fun hc hs => ?_, State.closeEvent_ends⟩,
    fun c s u hs hu => goesOn_exec hs hu, fun c s u hr hf hs hu hi => rests_of_ready hr hf hs hu hi⟩
  · rw [exec_start hr, State.requestStart_unknown (s := s.taking t) hl hm]
  · rw [exec_mode hr, State.requestMode_unknown (s := s.taking t) hl hm]
  · rw [exec_start hr, State.requestStart_elsewhere (s := s.taking t) hl]
  · rw [exec_stop hr, State.requestStop_elsewhere (s := s.taking t) hl]
  · rw [exec_mode hr, State.requestMode_elsewhere (s := s.taking t) hl]
  · have hnotices := State.closeEvent_goesOn hc hs
    exact ⟨hnotices, hnotices ▸ rfl⟩

end Sys2Proof.Machine
end

section
/-! PROOF. What the work between the blocks does on the station bus: it posts commands, and nothing else (R166, R168). -/

namespace Sys2Proof.Machine

/-! ## Commands posted -/

/-- `u` has the bus of `s` but for commands posted since (R166); beside the bus anything may have changed. -/
inductive State.Posts (s : State) : State → Prop
  | beside {u : State} (h : u.sbm = s.sbm) : Posts s u
  | post {u v : State} (h : Posts s u) (a : Nat) (code : CmdCode) (args : List Byte)
      (hv : v.sbm = (u.postCmd a code args).sbm) : Posts s v

/-- A node's entry after commands have been posted: all of it stands but the pending command, which is the old one or
one that has not been transmitted (R166). -/
def Node.Awaits (n n' : Node) : Prop :=
  n' = { n with pending := n'.pending } ∧ (n'.pending = n.pending ∨ ∀ c, n'.pending = some c → c.sent = none)

theorem Node.Awaits.refl (n : Node) : n.Awaits n := ⟨rfl, .inl rfl⟩

theorem Node.Awaits.posted {n n' : Node} (h : n.Awaits n') (code : CmdCode) (args : List Byte) :
    n.Awaits { n' with pending := some { code := code, args := args, sent := none } } := by
  refine ⟨?_, .inr ?_⟩
  · rw [h.1]
  · intro c hc
    injection hc with hc
    exact hc ▸ rfl

theorem Node.Awaits.entry {n n' : Node} (h : n.Awaits n') : n'.role = n.role ∧ n'.state = n.state
    ∧ n'.misses = n.misses ∧ n'.echo = n.echo ∧ n'.resync = n.resync ∧ n'.report = n.report := by
  rw [h.1]
  exact ⟨rfl, rfl, rfl, rfl, rfl, rfl⟩

namespace State.Posts
variable {s x : State}

theorem refl (s : State) : s.Posts s := .beside rfl

theorem of_sbm {u : State} (h : s.Posts x) (hu : u.sbm = x.sbm) : s.Posts u := by
  cases h with
  | beside h => exact .beside (hu.trans h)
  | post h a code args hx => exact .post h a code args (hu.trans hx)

theorem postCmd (h : s.Posts x) (a : Nat) (code : CmdCode) (args : List Byte) : s.Posts (x.postCmd a code args) :=
  .post h a code args rfl

/-- The entry of a node after commands have been posted. -/
theorem node (h : s.Posts x) {a : Nat} {n : Node} (hn : s.node a = some n) : ∃ n', x.node a = some n' ∧ n.Awaits n' := by
  induction h with
  | beside h => exact ⟨n, by rw [State.node, h]; exact hn, .refl n⟩
  | @post u v hu b code args hv ih =>
    obtain ⟨n', hn', hawaits⟩ := ih
    rw [State.node, hv]
    change ∃ m, tableGet a (tableModify b _ u.sbm.nodes) = some m ∧ n.Awaits m
    by_cases hab : a = b
    · subst hab
      rw [tableGet_modify_same, show tableGet a u.sbm.nodes = some n' from hn']
      exact ⟨_, rfl, hawaits.posted code args⟩
    · rw [tableGet_modify_other hab]
      exact ⟨n', hn', hawaits⟩

/-- Posting leaves the window as it was. -/
theorem window (h : s.Posts x) : x.sbm.window = s.sbm.window := by
  induction h with
  | beside h => rw [h]
  | post h a code args hv ih => rw [hv]; exact ih

end State.Posts

/-! ## Drives and the flow of segments -/

namespace State.Posts
variable {s x : State} (h : s.Posts x)
include h

theorem modSeg (k : Nat) (f : Segment → Segment) : s.Posts (x.modSeg k f) := h.of_sbm rfl

theorem modStation (n : Nat) (f : Station → Station) : s.Posts (x.modStation n f) := h.of_sbm rfl

theorem modConv (c : ConvId) (f : Conveyor → Conveyor) : s.Posts (x.modConv c f) := h.of_sbm rfl

theorem modRtu (f : Rtu → Rtu) : s.Posts (x.modRtu f) := h.of_sbm rfl

theorem modPallet (id : Nat) (f : Pallet → Pallet) : s.Posts (x.modPallet id f) := h.of_sbm rfl

theorem setCommon (k : Nat) (c : CommonState) : s.Posts (x.setCommon k c) := h.of_sbm rfl

theorem event (kind : EventKind) (subject : Subject) (pallet : Option Nat) (detail : Detail) :
    s.Posts (x.post kind subject pallet detail) := h.of_sbm rfl

theorem replaceCmd (a : Nat) (code : CmdCode) : s.Posts (x.replaceCmd a code) := by
  unfold State.replaceCmd
  split
  · exact h
  · exact h.postCmd a code []

theorem needDrive (k : Nat) (code : CmdCode) : s.Posts (x.needDrive k code) := by
  unfold State.needDrive
  split
  · exact h.of_sbm rfl
  · exact h.postCmd _ code []

theorem postOwed (k : Nat) : s.Posts (x.postOwed k) := by
  unfold State.postOwed
  (repeat' split)
  · exact h
  · exact (h.of_sbm (u := x.modSeg k _) rfl).postCmd _ _ []
  · exact h

end State.Posts

/-- The flow of segments posts commands; no segment's record matters to that. -/
theorem State.keptByFlow_posts (s : State) : KeptByFlow 0 s.Posts where
  beside _ _ _ hsbm _ hx := hx.of_sbm hsbm
  other _ _ _ _ hx := hx.of_sbm rfl
  moves _ _ _ hx := hx.of_sbm rfl
  own := .inl fun _ _ _ hx => hx.of_sbm rfl
  drive _ j code _ hx := hx.needDrive j code
  command _ a code args _ hx := hx.postCmd a code args
  feedhold _ a hx := hx.replaceCmd a .feedhold

theorem State.mayChange_posts (s : State) (j : Nat) : MayChange 0 s.Posts j :=
  .inr fun _ _ _ hx => hx.of_sbm rfl

/-! ## Work that leaves the bus alone -/

theorem State.trkOpDone_sbm (s : State) (n id : Nat) : (s.trkOpDone n id).sbm = s.sbm := by
  unfold State.trkOpDone
  (repeat' split) <;> rfl

theorem State.loadDone_sbm (s : State) (id : Nat) : (s.loadDone id).sbm = s.sbm := by
  unfold State.loadDone
  (repeat' split) <;> rfl

theorem State.unloadDone_sbm (s : State) (n id : Nat) (d : Disposition) : (s.unloadDone n id d).sbm = s.sbm := by
  unfold State.unloadDone
  (repeat' split) <;> rfl

/-- The results of a finished cycle are the Tracking Unit's and the Route Unit's (R53). -/
theorem State.handOnDone_sbm (s : State) (n : Nat) (short : Option Nat) : (s.handOnDone n short).sbm = s.sbm := by
  have hdefect (x : State) (id : Nat) (cause : DefectCause) (ms : Nat) : (x.trkDefect n id cause ms).sbm = x.sbm := rfl
  have hgiven (x : State) : (x.outcomeGiven n).sbm = x.sbm := rfl
  simp only [State.handOnDone]
  (repeat' split) <;>
    simp only [hgiven, hdefect, State.trkOpDone_sbm, State.loadDone_sbm, State.unloadDone_sbm]

/-- The Tracking Unit's own part of a shift (R27 steps 1 to 3). -/
theorem State.entryTaken_sbm (s : State) (k : Nat) (oi : OpenIndex) :
    (((s.exitJoins k oi).entryLeaves k oi).entryLap k oi).sbm = s.sbm := by
  unfold State.entryLap State.entryLeaves State.exitJoins
  (repeat' split) <;> rfl

/-- The end of an index changes the map and the postponement note (R27 steps 2 to 5, R138). -/
theorem State.endIndex_sbm (s : State) (k : Nat) (nests : List (Option Nat)) (moved : List Nat) :
    (s.endIndex k nests moved).sbm = s.sbm := by
  have hcounted (x : State) : (forEach (fun id y => y.countIndex id) moved x).sbm = x.sbm :=
    forEach_view State.sbm (f := fun id y => y.countIndex id) (fun _ _ => rfl) moved x
  simp only [State.endIndex]
  split <;> exact hcounted _

theorem State.spurMoves_sbm (s : State) : s.spurMoves.sbm = s.sbm := by
  unfold State.spurMoves
  split <;> rfl

namespace State.Posts
variable {s x : State} (h : s.Posts x)
include h

theorem adaEvaluate : s.Posts x.adaEvaluate := s.keptByFlow_posts.adaEvaluate h

theorem grantPass (c : ConvId) : s.Posts (x.grantPass c) := s.keptByFlow_posts.grantPass h c

theorem releaseRoom (c : ConvId) (holder : Holder) : s.Posts (x.releaseRoom c holder) :=
  s.keptByFlow_posts.releaseRoom h c holder

theorem requestRoom (c : ConvId) (holder : Holder) : s.Posts (x.requestRoom c holder) :=
  s.keptByFlow_posts.requestRoom h c holder

theorem scTest (k : Nat) : s.Posts (x.scTest k) := s.keptByFlow_posts.scTest h k

theorem scMaybeReady (k : Nat) : s.Posts (x.scMaybeReady k) := s.keptByFlow_posts.scMaybeReady h k

theorem scWithdraw (k : Nat) (target : SegState) (releaseIt : Bool) : s.Posts (x.scWithdraw k target releaseIt) :=
  s.keptByFlow_posts.scWithdraw h (s.mayChange_posts k) target releaseIt

theorem giveUpRoom (k : Nat) : s.Posts (x.giveUpRoom k) := s.keptByFlow_posts.giveUpRoom h k

theorem sqsAfter (k : Nat) : s.Posts (x.sqsAfter k) := s.keptByFlow_posts.sqsAfter h k

theorem arrival (k j id : Nat) : s.Posts (x.arrival k j id) := s.keptByFlow_posts.arrival h k j id

theorem postFeedhold (k : Nat) : s.Posts (x.postFeedhold k) :=
  s.keptByFlow_posts.postFeedhold k (h.replaceCmd _ .feedhold)

/-! ## Stations (chapter 3) -/

theorem handOn (n : Nat) (e : JobEnd) : s.Posts (x.handOn n e) := h.of_sbm (x.handOn_sbm n e)

theorem stationFault (n : Nat) (cause : StationCause) (e : JobEnd) : s.Posts (x.stationFault n cause e) := by
  simp only [State.stationFault]
  split
  · exact h
  · exact ((h.modStation _ _).event _ _ _ _).handOn n e

theorem stationRetract (n : Nat) : s.Posts (x.stationRetract n) := by
  simp only [State.stationRetract]
  split
  · exact (h.replaceCmd _ .retract).handOn n .missed
  · exact h.replaceCmd _ .retract

theorem stationUnclamp (n limit : Nat) : s.Posts (x.stationUnclamp n limit) :=
  (h.postCmd _ .unclamp []).modStation _ _

/-- A station comes to rest, and what follows in its segment. -/
theorem stationRests (n : Nat) (st : StationState) (k : Nat) : s.Posts ((x.stationIdle n st).sqsAfter k) :=
  (h.modStation _ _).sqsAfter k

theorem settleExpires (n : Nat) : s.Posts (x.settleExpires n) := by
  unfold State.settleExpires
  (repeat' split)
  · exact (h.modStation _ _).postCmd _ .start _
  · exact ((h.handOn n .missed).stationUnclamp n _).sqsAfter _
  · exact h

theorem stationClamped (n : Nat) (r : StationRecord) : s.Posts (x.stationClamped n r) := by
  simp only [State.stationClamped]
  split
  · exact (h.modStation _ _).settleExpires n
  · exact h.modStation _ _

theorem stationCycleDone (n : Nat) (r : StationRecord) : s.Posts (x.stationCycleDone n r) := by
  have hdone (short : Option Nat) : s.Posts ((x.modStation n fun st => { st with timer := none }).handOnDone n short) :=
    (h.modStation _ _).of_sbm (State.handOnDone_sbm ..)
  simp only [State.stationCycleDone]
  refine sqsAfter ?_ _
  (repeat' split)
  · exact ((hdone _).event _ _ _ _).stationUnclamp n _
  · exact (hdone _).stationUnclamp n _
  · exact ((hdone _).event _ _ _ _).modStation _ _
  · exact (hdone _).modStation _ _

theorem reportFault (n : Nat) (r : StationRecord) (cause : StationCause) (e : JobEnd) (retract : Bool) :
    s.Posts (x.reportFault n r cause e retract) := by
  simp only [State.reportFault]
  refine sqsAfter ?_ _
  split
  · exact (h.stationFault n cause e).stationRetract n
  · exact h.stationFault n cause e

theorem stationClearReport (n : Nat) (r : StationRecord) (rep : StationReport) :
    s.Posts (x.stationClearReport n r rep) := by
  unfold State.stationClearReport
  (repeat' split)
  · exact h.stationRests n _ _
  · exact h.stationRests n _ _
  · exact (h.stationUnclamp n _).sqsAfter _
  · exact (h.stationUnclamp n _).sqsAfter _
  · exact h
  · exact h
  · exact h

theorem reportInReleased (n : Nat) (r : StationRecord) (rep : StationReport) :
    s.Posts (x.reportInReleased n r rep) := by
  unfold State.reportInReleased
  split
  · exact h
  · exact h.stationRests n _ _
  · exact h.reportFault ..

theorem reportInClamping (n : Nat) (r : StationRecord) (rep : StationReport) :
    s.Posts (x.reportInClamping n r rep) := by
  unfold State.reportInClamping
  (repeat' split)
  · exact h
  · exact h
  · exact h.stationClamped n r
  · exact h.reportFault ..

theorem reportInClamped (n : Nat) (r : StationRecord) (rep : StationReport) :
    s.Posts (x.reportInClamped n r rep) := by
  unfold State.reportInClamped
  split
  · exact h
  · exact h.reportFault ..

theorem reportInCycle (n : Nat) (r : StationRecord) (rep : StationReport) : s.Posts (x.reportInCycle n r rep) := by
  unfold State.reportInCycle
  split
  · exact h
  · exact h
  · exact h.stationCycleDone n r
  · exact h.reportFault ..

theorem reportInDoneHeld (n : Nat) (r : StationRecord) (rep : StationReport) :
    s.Posts (x.reportInDoneHeld n r rep) := by
  unfold State.reportInDoneHeld
  (repeat' split)
  · exact h.stationRests n _ _
  · exact h.reportFault ..
  · exact h.reportFault ..
  · exact h.reportFault ..
  · exact h

theorem reportInUnclamping (n : Nat) (r : StationRecord) (rep : StationReport) :
    s.Posts (x.reportInUnclamping n r rep) := by
  unfold State.reportInUnclamping
  (repeat' split)
  · exact h
  · exact h.stationRests n _ _
  · exact h.reportFault ..
  · exact h.reportFault ..
  · exact h

theorem reportInLockout (n : Nat) (r : StationRecord) (rep : StationReport) :
    s.Posts (x.reportInLockout n r rep) := by
  unfold State.reportInLockout
  split
  · exact h.stationRests n _ _
  · exact h
  · exact h.reportFault ..

theorem actOnStationReport (n : Nat) (r : StationRecord) (rep : StationReport) :
    s.Posts (x.actOnStationReport n r rep) := by
  unfold State.actOnStationReport
  split
  · exact h.reportInReleased n r rep
  · exact h.reportInClamping n r rep
  · exact h.reportInClamped n r rep
  · exact h.reportInCycle n r rep
  · exact h.reportInDoneHeld n r rep
  · exact h.reportInUnclamping n r rep
  · exact h.reportInLockout n r rep
  · exact h.stationClearReport n r rep
  · exact h

theorem sqsReport (n : Nat) (rep : StationReport) (code : Nat) : s.Posts (x.sqsReport n rep code) := by
  simp only [State.sqsReport]
  (repeat' split)
  · exact h.modStation _ _
  · exact h.modStation _ _
  · exact (h.modStation _ _).actOnStationReport n _ rep

theorem sqsDelivered (n : Nat) (code : CmdCode) : s.Posts (x.sqsDelivered n code) := by
  unfold State.sqsDelivered
  (repeat' split)
  · exact h
  · exact h.modStation _ _
  · exact h.stationRests n _ _
  · exact (h.stationUnclamp n _).sqsAfter _
  · exact h.stationRests n _ _
  · exact h
  · exact h

theorem stationClearFails (n : Nat) (cause : StationCause) : s.Posts (x.stationClearFails n cause) :=
  (h.modStation _ _).event _ _ _ _

theorem sqsRefused (n : Nat) (code : CmdCode) : s.Posts (x.sqsRefused n code) := by
  unfold State.sqsRefused
  (repeat' split)
  · exact h
  · exact (h.stationFault n _ _).sqsAfter _
  · exact (h.stationFault n _ _).sqsAfter _
  · exact (h.stationFault n _ _).sqsAfter _
  · exact (h.stationFault n _ _).sqsAfter _
  · exact h.stationClearFails n _
  · exact h
  · exact h

theorem sqsLost (n : Nat) : s.Posts (x.sqsLost n) := by
  have hlost := h.modStation n fun st => { st with node := .lost }
  simp only [State.sqsLost]
  (repeat' split)
  · exact hlost
  · exact hlost.reportFault ..
  · exact hlost.reportFault ..
  · exact hlost.reportFault ..
  · exact hlost.reportFault ..
  · exact hlost.reportFault ..
  · exact hlost.reportFault ..
  · exact hlost.reportFault ..
  · exact (hlost.modStation _ _).stationClearFails n _
  · exact hlost
  · exact hlost

theorem commonDelivered (k : Nat) : s.Posts (x.commonDelivered k) := by
  refine sqsAfter (forEach_keeps (p := s.Posts) (fun p y hy => ?_) _ (h.setCommon k .running)) k
  split
  · exact hy.modStation _ _
  · exact hy

theorem commonRefused (k : Nat) : s.Posts (x.commonRefused k) := by
  refine sqsAfter (forEach_keeps (p := s.Posts) (fun p y hy => ?_) _ (h.setCommon k .none)) k
  split
  · exact hy.stationFault _ _ _
  · exact hy

/-! ## Conveyors and the verification check (chapters 6 and 7) -/

theorem withdrawReservation (c : ConvId) (k : Nat) : s.Posts (x.withdrawReservation c k) := by
  have hremoved : s.Posts (x.removeReservation c (.segment k)) := h.of_sbm rfl
  simp only [State.withdrawReservation]
  split
  · exact (hremoved.modSeg _ _).scTest k
  · exact (hremoved.scWithdraw k _ _).scTest k
  · exact hremoved.modSeg _ _

theorem jam (c : ConvId) (cause : JamCause) (pallet : Option Nat) : s.Posts (x.jam c cause pallet) := by
  simp only [State.jam]
  split
  · exact h
  · exact forEach_keeps (p := s.Posts) (fun k _ hy => hy.withdrawReservation c k) _
      ((h.modConv _ _).event _ _ _ _)

theorem syncTravel (was : Option Nat) (c : ConvId) : s.Posts (x.syncTravel was c) := by
  simp only [State.syncTravel]
  (repeat' split)
  · exact h
  · exact (h.modConv _ _).jam _ _ _
  · exact h.modConv _ _
  · exact h.modConv _ _

theorem tryCheck : s.Posts x.tryCheck := by
  simp only [State.tryCheck]
  (repeat' split)
  · exact (h.postCmd _ .check _).modRtu _
  · exact (h.postCmd _ .check _).modRtu _
  · exact h
  · exact h

theorem vsHeadNotice : s.Posts x.vsHeadNotice := by
  unfold State.vsHeadNotice
  (repeat' split)
  · exact h.modRtu _
  · exact h
  · exact (h.modRtu _).event _ _ _ _
  · exact (h.modRtu _).tryCheck

theorem headNotice (c : ConvId) : s.Posts (x.headNotice c) := by
  cases c with
  | vs => exact h.vsHeadNotice
  | rc => exact h.scTest 1
  | b1 => exact h.scTest 2
  | b2 => exact h.scTest 3
  | b3 => exact h.scTest 4

theorem passCheck : s.Posts x.passCheck := (h.modRtu _).requestRoom .rc .spur

theorem verifyReport (st : VerifyState) (seq : Nat) : s.Posts (x.verifyReport st seq) := by
  have hheard := h.modRtu fun r => { r with report := some (st, seq) }
  simp only [State.verifyReport]
  (repeat' split)
  · exact (((hheard.modRtu _).modPallet _ _).event _ _ _ _).passCheck
  · exact ((((hheard.modRtu _).modPallet _ _).event _ _ _ _).event _ _ _ _).modRtu _
  · exact hheard
  · exact (hheard.modRtu _).tryCheck

theorem checkDelivered : s.Posts x.checkDelivered := by
  unfold State.checkDelivered
  (repeat' split)
  · exact h.modRtu _
  · exact h.modRtu _
  · exact h

theorem checkRefused : s.Posts x.checkRefused := by
  simp only [State.checkRefused]
  (repeat' split)
  · exact (h.modRtu _).tryCheck
  · exact ((h.modPallet _ _).event _ _ _ _).passCheck
  · exact h

theorem credit (c : ConvId) (n : Nat) : s.Posts (x.credit c n) := by
  have hcredited : s.Posts ((x.setList c (creditOldest n (x.list c))).modConv c fun v =>
      { v with expected := v.expected - n }) := h.of_sbm rfl
  simp only [State.credit]
  refine syncTravel ?_ _ c
  split
  · exact hcredited.headNotice c
  · exact hcredited

theorem takeCount (c : ConvId) (count : Nat) : s.Posts (x.takeCount c count) := by
  have hcounted := h.modConv c fun v => { v with image := some count }
  simp only [State.takeCount]
  (repeat' split)
  · exact hcounted
  · exact hcounted.jam _ _ _
  · exact (hcounted.credit _ _).jam _ _ _
  · exact hcounted
  · exact hcounted.credit _ _

theorem conveyorReport (c : ConvId) (count : Nat) (jam head : Bool) :
    s.Posts (x.conveyorReport c count jam head) := by
  simp only [State.conveyorReport]
  split
  · exact ((h.modConv _ _).takeCount c count).jam _ _ _
  · exact (h.modConv _ _).takeCount c count

theorem endStaleRelease : s.Posts x.endStaleRelease :=
  (h.of_sbm (u := { x with cvt := { x.cvt with staleRelease := false } }) rfl).grantPass .rc

theorem releaseDelivered : s.Posts x.releaseDelivered := by
  unfold State.releaseDelivered
  split
  · have hmoved : s.Posts (((x.spurMoves.syncPlacements).removeReservation .rc .spur).expectMore .rc) :=
      h.of_sbm x.spurMoves_sbm
    exact (hmoved.grantPass .vs).headNotice .vs
  · exact h.endStaleRelease

theorem releaseRefused : s.Posts x.releaseRefused := by
  unfold State.releaseRefused
  split
  · exact ((h.releaseRoom .rc .spur).jam .vs _ _).modConv _ _
  · exact (h.jam .vs _ _).endStaleRelease

/-! ## The index and the tag check (R27, R38 to R41) -/

theorem destinationSettled (k : Nat) (oi : OpenIndex) (joined : Bool) :
    s.Posts (x.destinationSettled k oi joined) := by
  unfold State.destinationSettled
  (repeat' split)
  · exact h
  · exact h.of_sbm rfl
  · exact h.releaseRoom _ _

theorem upstreamSettled (k : Nat) (oi : OpenIndex) : s.Posts (x.upstreamSettled k oi) := by
  unfold State.upstreamSettled
  split
  · exact h
  · exact (h.grantPass _).headNotice _

theorem shift (k : Nat) (oi : OpenIndex) : s.Posts (x.shift k oi) :=
  ((h.of_sbm ((State.endIndex_sbm ..).trans (x.entryTaken_sbm k oi))).destinationSettled k oi true).upstreamSettled
    k oi

theorem closeTag (notice : Option Nat) : s.Posts (x.closeTag notice) := by
  have hclosed : s.Posts ((x.setTag .none).setTrackHold false) := h.of_sbm rfl
  refine scTest ?_ 1
  unfold State.noticeN1
  (repeat' split)
  · exact hclosed.arrival 1 1 _
  · exact hclosed
  · exact hclosed

theorem freshRead (o : TagOpening) (value : Nat) : s.Posts (x.freshRead o value) := by
  simp only [State.freshRead]
  (repeat' split)
  · exact (h.event _ _ _ _).closeTag _
  · exact h.closeTag _
  all_goals exact h.of_sbm rfl

theorem readerReport (sequence value : Nat) : s.Posts (x.readerReport sequence value) := by
  have hread : s.Posts { x with trk := { x.trk with readerImage := some sequence } } := h.of_sbm rfl
  unfold State.readerReport
  (repeat' split)
  · exact hread
  · exact hread.freshRead _ value
  · exact hread

theorem giveNotices (k : Nat) (l : List (Nat × Nat)) : s.Posts (x.giveNotices k l) :=
  forEach_keeps (p := s.Posts) (fun p _ hy => hy.arrival k p.1 p.2) l h

theorem openTag : s.Posts x.openTag := h.of_sbm rfl

theorem trkComplete (k : Nat) : s.Posts (x.trkComplete k) := by
  simp only [State.trkComplete, State.indexNotices]
  (repeat' split)
  · exact h
  · exact (h.shift k _).openTag.giveNotices k _
  · exact (h.shift k _).giveNotices k _

/-! ## Segments in motion (chapter 4) -/

theorem leaveQueue (k : Nat) (was target : SegState) : s.Posts (x.leaveQueue k was target) := by
  unfold State.leaveQueue
  split
  · exact h.scWithdraw k _ _
  · exact h.giveUpRoom k

theorem scFault (k : Nat) (cause : SegCause) : s.Posts (x.scFault k cause) := by
  have hlowered (c : Certainty) : s.Posts (x.lowerCertainty k c) := h.of_sbm rfl
  have hstopped (c : Certainty) : s.Posts ((x.lowerCertainty k c).setPermit k false) := (hlowered c).of_sbm rfl
  have hfault {y : State} (hy : s.Posts y) : s.Posts
      (((y.modSeg k fun g => g.inFault cause).leaveQueue k (x.seg k).state .fault).postMotionFault k cause) :=
    ((hy.modSeg _ _).leaveQueue k _ _).event _ _ _ _
  simp only [State.scFault, State.furtherFault]
  (repeat' split)
  · exact hlowered _
  · exact h
  · exact (hfault (hstopped _)).postFeedhold k
  · exact hfault (hstopped _)
  · exact (hfault h).postFeedhold k
  · exact hfault h

theorem indexComplete (k : Nat) : s.Posts (x.indexComplete k) := by
  have hpermit : s.Posts (x.setPermit k false) := h.of_sbm rfl
  exact (((hpermit.trkComplete k).event _ _ _ _).needDrive k .ret).modSeg _ _

theorem phaseComplete (k : Nat) (st : SegState) (completion : DrivePhase) :
    s.Posts (x.phaseComplete k st completion) := by
  simp only [State.phaseComplete]
  split
  · exact ((h.modSeg _ _).modSeg _ _).needDrive k _
  · exact ((h.modSeg _ _).modSeg _ _).needDrive k _
  · exact (h.modSeg _ _).indexComplete k

theorem motionReport (k : Nat) (st : SegState) (parts : PhaseParts) (p : DrivePhase) :
    s.Posts (x.motionReport k st parts p) := by
  unfold State.motionReport
  (repeat' split)
  · exact h.modSeg _ _
  · exact h
  · exact h.phaseComplete k st p
  · exact h.scFault k _
  · exact h
  · exact h.scFault k _
  · exact h.scFault k _

theorem barReport (k : Nat) (p : DrivePhase) : s.Posts (x.barReport k p) := by
  unfold State.barReport
  (repeat' split)
  · exact h.scFault k _
  · exact h
  · exact h
  · exact h
  · exact (h.modSeg _ _).scMaybeReady k
  · exact h
  · exact h
  · exact h.scFault k _

theorem faultReport (k : Nat) (p : DrivePhase) : s.Posts (x.faultReport k p) := by
  unfold State.faultReport
  split
  · exact (h.modSeg _ _).scMaybeReady k
  · exact h

theorem driveReport (k : Nat) (p : DrivePhase) : s.Posts (x.driveReport k p) := by
  have hheard := h.modSeg k fun g => { g with report := some p }
  simp only [State.driveReport]
  (repeat' split)
  · exact hheard
  · exact hheard.motionReport k _ _ p
  · exact hheard.faultReport k p
  · exact hheard.barReport k p

theorem startPhase (k limit : Nat) : s.Posts (x.startPhase k limit) := by
  unfold State.startPhase
  split
  · exact h
  · exact h.modSeg _ _

theorem feedholdDelivered (k : Nat) : s.Posts (x.feedholdDelivered k) := by
  simp only [State.feedholdDelivered]
  (repeat' split)
  · exact ((h.modSeg _ _).modSeg _ _).needDrive k _
  · exact h.modSeg _ _
  · exact h

theorem resumeDelivered (k : Nat) : s.Posts (x.resumeDelivered k) := by
  unfold State.resumeDelivered
  split
  · exact h.modSeg _ _
  · exact h

theorem driveDelivered (k : Nat) (code : CmdCode) : s.Posts (x.driveDelivered k code) := by
  refine postOwed ?_ k
  cases code with
  | lift | advance | lower | ret => exact h.startPhase k _
  | feedhold => exact h.feedholdDelivered k
  | resume => exact h.resumeDelivered k
  | releaseAll => exact h.commonDelivered k
  | _ => exact h

theorem segClearFails (k : Nat) (cause : SegCause) : s.Posts (x.segClearFails k cause) :=
  (h.modSeg _ _).event _ _ _ _

theorem driveRefused (k : Nat) (code : CmdCode) : s.Posts (x.driveRefused k code) := by
  refine postOwed ?_ k
  unfold State.actOnRefusal
  (repeat' split)
  · exact h.commonRefused k
  · exact h.segClearFails k _
  · exact h
  · exact h
  · exact h.scFault k _

theorem driveLost (k : Nat) : s.Posts (x.driveLost k) := by
  simp only [State.driveLost]
  split
  · exact ((h.modSeg _ _).modSeg _ _).segClearFails k _
  · exact (h.modSeg _ _).scFault k _

/-! ## The HPU node (R98, R99) -/

theorem hpuReport (pump alarm : Bool) : s.Posts (x.hpuReport pump alarm) := by
  simp only [State.hpuReport]
  refine adaEvaluate (h.of_sbm ?_)
  (repeat' split) <;> rfl

theorem hpuLost : s.Posts x.hpuLost := by
  simp only [State.hpuLost]
  refine adaEvaluate (h.of_sbm ?_)
  split <;> rfl

/-! ## The owners (R163, R164, R167) -/

theorem ownerNotice (r : Role) (st : NodeStatus) (isReturn : Bool) : s.Posts (x.ownerNotice r st isReturn) := by
  cases r <;> exact h.of_sbm rfl

theorem ownerLost (r : Role) : s.Posts (x.ownerLost r) := by
  cases r with
  | drive k => exact h.driveLost k
  | station n => exact h.sqsLost n
  | conveyor c => exact (h.modConv _ _).jam c _ _
  | reader => exact h
  | verify => exact h.of_sbm rfl
  | hpu => exact h.hpuLost

theorem ownerDelivered (r : Role) (code : CmdCode) : s.Posts (x.ownerDelivered r code) := by
  cases r with
  | drive k => exact h.driveDelivered k code
  | station n => exact h.sqsDelivered n code
  | conveyor c => exact h.releaseDelivered
  | verify => exact h.checkDelivered
  | reader => exact h
  | hpu => exact h

theorem ownerRefused (r : Role) (code : CmdCode) : s.Posts (x.ownerRefused r code) := by
  cases r with
  | drive k => exact h.driveRefused k code
  | station n => exact h.sqsRefused n code
  | conveyor c => exact h.releaseRefused
  | verify => exact h.checkRefused
  | reader => exact h
  | hpu => exact h

theorem ownerReport (r : Role) (rep : Report) : s.Posts (x.ownerReport r rep) := by
  unfold State.ownerReport
  split
  · exact h.driveReport _ _
  · exact h.sqsReport _ _ _
  · exact h.conveyorReport _ _ _ _
  · exact h.readerReport _ _
  · exact h.verifyReport _ _
  · exact h.hpuReport _ _
  · exact h

end State.Posts

end Sys2Proof.Machine
end

section
/-! PROOF. The slot schedule and the frames of the bus (O46): when a boundary may come, and what a poll carries. -/

namespace Sys2Proof.Machine

/-! ## Slot boundaries (R160, R170) -/

theorem windowOver_iff (w : Option Window) : windowOver w = true ↔ w = none ∨ ∃ v, w = some v ∧ v.cut = true := by
  cases w <;> simp [windowOver]

theorem Sbm.atSlot_scanning {b : Sbm} {first slot : Nat} {cut : Bool} (hscan : b.scan = .scanning first cut)
    (hwindow : b.window = none ∨ ∃ w, b.window = some w ∧ w.cut = true) (hfirst : first ≤ slot)
    (hslot : slot ≤ b.schedule.length)
    (hpassed : cut = true ∨ ∀ a ∈ (b.schedule.take slot).drop first, a = 0) : b.atSlot slot = true := by
  simp only [Sbm.atSlot, hscan, slotsDisabled, Bool.and_eq_true, Bool.or_eq_true, decide_eq_true_eq, List.all_eq_true,
    windowOver_iff]
  exact ⟨⟨⟨hfirst, hslot⟩, hwindow⟩, hpassed⟩

section
variable {s : State} {first : Nat} {cut : Bool} (hscan : s.sbm.scan = .scanning first cut)
include hscan

theorem State.scanStarts_begins (hat : s.sbm.atSlot s.sbm.schedule.length = true) :
    s.scanStarts = s.modSbm fun b =>
      { b with scan := .scanning 0 false, window := none,
               tx := syncBroadcast ++ (if s.lsv.lineState = .halt then estopBroadcast else []) } := by
  simp [State.scanStarts, hscan, hat]

theorem State.slotPolls_polls {slot a : Nat} {n : Node} (hslot : s.sbm.schedule[slot]? = some a) (ha : a ≠ 0)
    (hn : s.node a = some n) (hat : s.sbm.atSlot slot = true) :
    s.slotPolls slot = (s.modNode a Node.polled).modSbm fun b =>
      { b with scan := .scanning (slot + 1) false, window := some { address := a, cut := false },
               tx := pollFrame a n } := by
  simp [State.slotPolls, hscan, hslot, hat, ha, hn]

end

/-! ## Frames (R161, R166, R188) -/

theorem Node.transmittable_some {n : Node} {c : PendingCmd} {e : Echo} (hc : n.pending = some c) (he : n.echo = some e)
    (hr : n.resync = false) : n.transmittable = some (c, !e.toggle) := by
  simp only [Node.transmittable, hc, he, hr]

theorem Node.transmittable_none {n : Node} (h : n.pending = none ∨ n.echo = none ∨ n.resync = true) :
    n.transmittable = none := by
  unfold Node.transmittable
  split
  · next hc he hr => simp [hc, he, hr] at h
  · rfl

theorem busFrame_data (a : Nat) (rest : List Byte) :
    (busFrame a rest).map (·.data) = byteOf a :: (rest ++ [crc8 (byteOf a :: rest)]) := by
  simp [busFrame, Function.comp_def]

theorem busFrame_mark (a : Nat) (rest : List Byte) :
    (busFrame a rest).map (·.mark) = true :: List.replicate (rest.length + 1) false := by
  simp [busFrame, Function.comp_def, List.replicate_add]

/-- Settles O46: the boundary of a slot, the two kinds of poll, and the frame. -/
theorem scansAndPollsFollowTheSchedule : Obligations.ScansAndPollsFollowTheSchedule := by
  refine ⟨fun t s first cut hscan hwindow => ⟨fun hfirst hpassed => ?_, fun slot a n hslot ha hn hfirst hpassed => ?_⟩,
    fun a n c e hc he hr => ?_, fun a n h => ?_, fun a rest => ⟨busFrame_data a rest, busFrame_mark a rest⟩⟩
  · have hat : s.sbm.atSlot s.sbm.schedule.length = true :=
      Sbm.atSlot_scanning hscan hwindow hfirst le_rfl (by rwa [List.take_length])
    exact congrArg Host.Outcome.next (State.scanStarts_begins (s := s.at t) hscan hat)
  · have hlength : slot ≤ s.sbm.schedule.length := (List.getElem?_eq_some_iff.mp hslot).1.le
    have hat : s.sbm.atSlot slot = true := Sbm.atSlot_scanning hscan hwindow hfirst hlength hpassed
    exact congrArg Host.Outcome.next (State.slotPolls_polls (s := s.at t) hscan hslot ha hn hat)
  · have htransmit := Node.transmittable_some hc he hr
    refine ⟨by rw [Node.polled, htransmit], ?_⟩
    rw [pollFrame, htransmit]
    cases e.toggle <;> rfl
  · have htransmit := Node.transmittable_none h
    exact ⟨by rw [Node.polled, htransmit], by rw [pollFrame, htransmit]; rfl⟩

end Sys2Proof.Machine
end

section
/-! PROOF. Response windows (O48, O49): a good reply in its three steps, and a miss with what the owner of a lost node
does. -/

namespace Sys2Proof.Machine

/-! ## The end of a response window (R162) -/

section
variable {s : State} {w : Window} (hw : s.sbm.window = some w)
include hw

theorem State.windowExpires_cut (hcut : w.cut = true) : s.windowExpires = s.closeWindow := by
  simp [State.windowExpires, hw, hcut]

variable {n : Node} (hn : s.node w.address = some n)
include hn

theorem State.windowExpires_misses (hcut : w.cut = false) :
    s.windowExpires = s.closeWindow.nodeMisses w.address n := by
  simp [State.windowExpires, hw, hcut, hn]

theorem State.replyHeard_bad {chars : List BusChar} (hbad : judgeReply w.address n.role chars = none) :
    s.replyHeard chars = s.closeWindow.nodeMisses w.address n := by
  simp [State.replyHeard, hw, hn, hbad]

theorem State.replyHeard_good {chars : List BusChar} {e : Echo} {rep : Report}
    (hgood : judgeReply w.address n.role chars = some (e, rep)) :
    s.replyHeard chars = s.closeWindow.goodReply w.address n e rep := by
  simp [State.replyHeard, hw, hn, hgood]

end

/-! ## Misses (R163) -/

theorem State.node_modNode {s : State} {a : Nat} {n : Node} (hn : s.node a = some n) (f : Node → Node) :
    (s.modNode a f).node a = some (f n) := by
  rw [State.node, State.modNode_sbm, tableGet_modify_same, show tableGet a s.sbm.nodes = some n from hn]
  rfl

theorem State.ownerNotice_sbm (s : State) (r : Role) (st : NodeStatus) (back : Bool) :
    (s.ownerNotice r st back).sbm = s.sbm := by
  cases r <;> rfl

theorem State.closeEvent_node (s : State) (a : Nat) : s.closeEvent.node a = s.node a := by
  rw [State.node, State.closeEvent_sbm, State.node]

section
variable {s : State} {a : Nat} {n : Node}

theorem State.nodeMisses_absent (h : n.state = .unseen ∨ n.state = .lost) : s.nodeMisses a n = s := by
  rcases h with h | h <;> simp [State.nodeMisses, h]

theorem State.nodeMisses_first (h : n.state = .online) (hlimit : 1 < s.cfg.bus.missLimit) :
    s.nodeMisses a n
      = (s.modNode a fun x => { x with state := .missing, misses := 1 }).ownerNotice n.role .missing false := by
  simp [State.nodeMisses, h, Nat.not_le.mpr hlimit]

theorem State.nodeMisses_again (h : n.state = .missing) (hlimit : n.misses + 1 < s.cfg.bus.missLimit) :
    s.nodeMisses a n = s.modNode a fun x => { x with misses := n.misses + 1 } := by
  simp [State.nodeMisses, h, Nat.not_le.mpr hlimit]

theorem State.nodeMisses_last (h : (n.state = .online ∧ s.cfg.bus.missLimit ≤ 1)
      ∨ (n.state = .missing ∧ s.cfg.bus.missLimit ≤ n.misses + 1)) :
    s.nodeMisses a n = s.nodeLost a n (if n.state = .online then 1 else n.misses + 1) := by
  rcases h with ⟨h, hlimit⟩ | ⟨h, hlimit⟩ <;> simp [State.nodeMisses, h, hlimit]

/-- The entry of a node that is lost: its owner posts commands at most. -/
theorem State.nodeLost_node (hn : s.node a = some n) (misses : Nat) : ∃ n', (s.nodeLost a n misses).node a = some n'
    ∧ ({ n with state := .lost, misses := misses } : Node).Awaits n' :=
  ((State.Posts.refl (s.modNode a fun x => { x with state := .lost, misses := misses })).event .nodeLost n.role.subject
    none (.address a)).ownerLost n.role |>.node (State.node_modNode hn _)

end

/-! ## A lost node's owner (R60, R67, R90, R92) -/

section
variable {s : State} {n : Nat} {r : StationRecord} (hr : s.stationCfg n = some r)

/-- The Station Sequencer knows that station n's node is lost. -/
def State.stationNodeLost (s : State) (n : Nat) : State := s.modStation n fun g => { g with node := .lost }

theorem State.stationNodeLost_state (s : State) (n : Nat) :
    ((s.stationNodeLost n).station n).state = (s.station n).state :=
  State.station_modStation_view (·.state) fun _ => rfl

theorem State.stationNodeLost_job (s : State) (n : Nat) :
    ((s.stationNodeLost n).station n).job = (s.station n).job :=
  State.station_modStation_view (·.job) fun _ => rfl

theorem State.stationFault_nodeLost (h : (s.station n).state ≠ .fault) (e : JobEnd) :
    (s.stationNodeLost n).stationFault n .linkLost e = ((s.stationNodeLost n).faultEntered n .linkLost).handOn n e :=
  State.stationFault_enters (by rwa [s.stationNodeLost_state]) _ e

include hr

theorem State.sqsLost_ended (h : (s.station n).state = .released ∨ (s.station n).state = .lockout
      ∨ (s.station n).state = .doneHeld ∨ (s.station n).state = .unclamping) :
    s.sqsLost n = ((s.stationNodeLost n).faultEntered n .linkLost).sqsAfter r.segment := by
  have hfault : (s.station n).state ≠ .fault := by rcases h with h | h | h | h <;> simp [h]
  have hlost : s.sqsLost n = ((s.stationNodeLost n).stationFault n .linkLost .nothing).sqsAfter r.segment := by
    rcases h with h | h | h | h <;> simp only [State.sqsLost, hr, h] <;> rfl
  rw [hlost, State.stationFault_nodeLost hfault, State.handOn_nothing]

theorem State.sqsLost_missed (h : (s.station n).state = .clamping ∨ (s.station n).state = .clamped) :
    s.sqsLost n = ((((s.stationNodeLost n).faultEntered n .linkLost).handOn n .missed).stationRetract n).sqsAfter
      r.segment := by
  have hfault : (s.station n).state ≠ .fault := by rcases h with h | h <;> simp [h]
  have hlost : s.sqsLost n
      = (((s.stationNodeLost n).stationFault n .linkLost .missed).stationRetract n).sqsAfter r.segment := by
    rcases h with h | h <;> simp only [State.sqsLost, hr, h] <;> rfl
  rw [hlost, State.stationFault_nodeLost hfault]

theorem State.sqsLost_cycle (h : (s.station n).state = .cycle) :
    s.sqsLost n = ((((s.stationNodeLost n).faultEntered n .linkLost).handOn n
      (.defect .linkLost (s.cycleElapsed n))).stationRetract n).sqsAfter r.segment := by
  have hlost : s.sqsLost n = (((s.stationNodeLost n).stationFault n .linkLost
      (.defect .linkLost (s.cycleElapsed n))).stationRetract n).sqsAfter r.segment := by
    simp only [State.sqsLost, hr, h]
    rfl
  rw [hlost, State.stationFault_nodeLost (by simp [h])]

theorem State.sqsLost_stays
    (h : (s.station n).state = .skipped ∨ ((s.station n).state = .fault ∧ (s.station n).clearPending = false)) :
    s.sqsLost n = s.stationNodeLost n := by
  rcases h with h | ⟨h, hclear⟩
  · simp only [State.sqsLost, hr, h]
    rfl
  · simp only [State.sqsLost, hr, h, hclear]
    rfl

theorem State.sqsLost_clears (h : (s.station n).state = .fault) (hclear : (s.station n).clearPending = true) :
    s.sqsLost n = ((s.stationNodeLost n).modStation n fun g =>
        { g with cause := some .linkLost, clearPending := false, timer := none }).post .stationFault (.station n)
      ((s.station n).job.map (·.pallet)) (.stationCause .linkLost) := by
  have hjob : (((s.stationNodeLost n).modStation n fun g => { g with cause := some .linkLost }).station n).job
      = (s.station n).job :=
    (State.station_modStation_view (s := s.stationNodeLost n) (·.job) (by exact fun _ => rfl)).trans
      (s.stationNodeLost_job n)
  have hlost : s.sqsLost n = ((s.stationNodeLost n).modStation n fun g =>
      { g with cause := some .linkLost }).stationClearFails n .linkLost := by
    simp only [State.sqsLost, hr, h, hclear]
    rfl
  rw [hlost, State.stationClearFails, hjob, State.modStation_modStation]

end

section
variable {s : State} {k : Nat}

theorem State.driveLost_faults (h : (s.seg k).state ≠ .fault ∨ (s.seg k).clear = none) :
    s.driveLost k = (s.modSeg k fun g => { g with node := .lost }).scFault k .linkLost := by
  rcases h with h | h <;> simp [State.driveLost, h]

theorem State.driveLost_clears (h : (s.seg k).state = .fault) (hclear : (s.seg k).clear.isSome = true) :
    s.driveLost k = ((s.modSeg k fun g => { g with node := .lost }).modSeg k fun g =>
        { g with cause := some .linkLost, clear := none }).post .motionFault (.segment k) none
      (.motion .linkLost (s.segMap k).certainty (s.seg k).indexNumber) := by
  let y := (s.modSeg k fun g => { g with node := .lost }).modSeg k fun g =>
    { g with cause := some .linkLost, clear := none }
  have hnumber : (y.seg k).indexNumber = (s.seg k).indexNumber :=
    (State.seg_modSeg_view (·.indexNumber) (s.modSeg k _) k k _ (by exact fun _ => rfl)).trans
      (State.seg_modSeg_view (·.indexNumber) s k k _ (by exact fun _ => rfl))
  have hlost : s.driveLost k = y.postMotionFault k .linkLost := by
    simp only [State.driveLost, h, hclear, State.segClearFails, State.modSeg, tableModify_modify, y]
    rfl
  rw [hlost, State.postMotionFault_eq hnumber]
  rfl

end

/-- Settles O49: the miss by the node's state, and the owner of a lost node by the state of its unit. -/
theorem anUnansweredPollIsAMiss : Obligations.AnUnansweredPollIsAMiss := by
  refine ⟨fun t s w n hw hn => ?_, fun s n r hr => ?_, fun s => ⟨fun k => ?_, fun c => rfl, rfl, rfl⟩⟩
  · intro x
    have hnx : x.node w.address = some n := hn
    refine ⟨fun hcut => ?_, fun hcut => ?_⟩
    · exact congrArg (fun y : State => Host.Outcome.next y.closeEvent) (State.windowExpires_cut (s := s.at t) hw hcut)
    have hexec : exec (.responseWindowExpiry t) s = .next (x.nodeMisses w.address n).closeEvent :=
      congrArg (fun y : State => Host.Outcome.next y.closeEvent)
        (State.windowExpires_misses (s := s.at t) hw hn hcut)
    have hworks : x.worksTo (x.nodeMisses w.address n).closeEvent := worksTo_closeEvent (State.nodeMisses_fixed ..)
    refine ⟨fun h => ?_, fun h hlimit => ?_, fun h hlimit => ?_, fun h => ?_⟩
    · rw [hexec, State.nodeMisses_absent h]
    · refine ⟨_, hexec, ?_, hworks⟩
      rw [State.closeEvent_node, State.nodeMisses_first (s := x) h hlimit, State.node, State.ownerNotice_sbm]
      exact State.node_modNode hnx _
    · rw [hexec, State.nodeMisses_again (s := x) h hlimit]
    · intro y event z
      have hlost := State.nodeMisses_last (s := x) (a := w.address) h
      obtain ⟨n', hn', hawaits⟩ := State.nodeLost_node hnx (if n.state = .online then 1 else n.misses + 1)
      obtain ⟨hrole, hstate, hmisses, -⟩ := hawaits.entry
      exact ⟨by rw [hexec, hlost]; rfl, _, n', hexec, by rw [State.closeEvent_node, hlost, hn'], hstate, hrole, hmisses,
        hworks⟩
  · intro x g fault faulted
    have hfaulted : faulted = (s.stationNodeLost n).faultEntered n .linkLost := by
      rw [State.faultEntered, s.stationNodeLost_job]
      rfl
    rw [hfaulted]
    exact ⟨State.sqsLost_ended hr, State.sqsLost_missed hr, State.sqsLost_cycle hr, State.sqsLost_stays hr,
      State.sqsLost_clears hr⟩
  · exact ⟨State.driveLost_faults, State.driveLost_clears⟩

end Sys2Proof.Machine
end

section
/-! PROOF. A good reply of the polled node (O48): its notice, its outcome and its report, and what they leave of the node's
entry. -/

namespace Sys2Proof.Machine

/-! ## The node's entry -/

theorem Node.Awaits.trans {n n1 n2 : Node} (h1 : n.Awaits n1) (h2 : n1.Awaits n2) : n.Awaits n2 := by
  obtain ⟨heq1, hp1⟩ := h1
  obtain ⟨heq2, hp2⟩ := h2
  refine ⟨by rw [heq2, heq1], ?_⟩
  rcases hp2 with hp2 | hp2
  · rw [hp2]
    exact hp1
  · exact .inr hp2

/-- A stored report leaves the command as it was. -/
theorem Node.Awaits.reported {n n1 : Node} (h : n.Awaits n1) (rep : Report) :
    ({ n with report := some rep } : Node).Awaits { n1 with report := some rep } :=
  ⟨by rw [h.1], h.2⟩

/-- The node's entry after the state notice and the echo of a good reply (R163, R167, R171). -/
def Node.heard (n : Node) (e : Echo) : Node :=
  { n with state := .online, misses := 0, echo := some e, resync := false,
           pending := if (n.decided e).isSome then none else n.pending }

theorem Node.decided_iff (n : Node) (e : Echo) (code : CmdCode) : n.decided e = some code ↔
    ∃ c, n.pending = some c ∧ c.sent = some e.toggle ∧ e.code = some c.code ∧ c.code = code := by
  cases hc : n.pending with
  | none => simp [Node.decided, hc]
  | some c => simp [Node.decided, hc, and_assoc]

/-- Of the commands that await delivery after a good reply, only one that the echo has not decided has been
transmitted. -/
theorem Node.Awaits.transmitted {n n' : Node} {e : Echo} {rep : Report}
    (h : ({ n.heard e with report := some rep } : Node).Awaits n') {c : PendingCmd} {toggle : Bool}
    (hc : n'.pending = some c) (hsent : c.sent = some toggle) : n.decided e = none ∧ n.pending = some c := by
  have hkept : (n.heard e).pending = some c := by
    rcases h.2 with hp | hp
    · exact hp.symm.trans hc
    · rw [hp c hc] at hsent
      cases hsent
  cases hd : n.decided e with
  | none => exact ⟨rfl, by simpa [Node.heard, hd] using hkept⟩
  | some code => simp [Node.heard, hd] at hkept

/-! ## The three steps (R164) -/

theorem State.heardFrom_node {s : State} {a : Nat} {n : Node} (hn : s.node a = some n) (t : LineTime) (e : Echo) :
    (s.heardFrom t a e (n.decided e).isSome).node a = some (n.heard e) := by
  have hmod := State.node_modNode (s := (s.at t).closeWindow) hn fun m =>
    { m with state := .online, misses := 0, echo := some e, resync := false,
             pending := if (n.decided e).isSome then none else m.pending }
  exact hmod

theorem State.Posts.noticed {s x : State} (h : s.Posts x) (a : Nat) (n : Node) : s.Posts (x.noticed a n) := by
  unfold State.noticed
  split
  · exact h
  · exact h.ownerNotice _ _ _
  · exact h.ownerNotice _ _ _
  · exact (h.event _ _ _ _).ownerNotice _ _ _

theorem State.Posts.concluded {s x : State} (h : s.Posts x) (n : Node) (e : Echo) : s.Posts (x.concluded n e) := by
  unfold State.concluded
  (repeat' split)
  · exact h
  · exact h.ownerRefused _ _
  · exact h.ownerDelivered _ _

section
variable {s : State} {a : Nat} {n : Node} (hn : s.node a = some n) (t : LineTime) (e : Echo) (rep : Report)

theorem State.beforeReport_window : (s.beforeReport t a n e rep).sbm.window = none :=
  (((State.Posts.refl (s.heardFrom t a e (n.decided e).isSome)).noticed a n).concluded n e).window

include hn

theorem State.beforeReport_node : ∃ n', (s.beforeReport t a n e rep).node a = some n'
    ∧ ({ n.heard e with report := some rep } : Node).Awaits n' := by
  obtain ⟨n1, hn1, hawaits⟩ :=
    (((State.Posts.refl (s.heardFrom t a e (n.decided e).isSome)).noticed a n).concluded n e).node
      (State.heardFrom_node hn t e)
  exact ⟨_, State.node_modNode hn1 _, hawaits.reported rep⟩

/-- The node's entry after a good reply. -/
theorem State.afterReport_node : ∃ n',
    ((s.beforeReport t a n e rep).ownerReport n.role rep).closeEvent.node a = some n'
      ∧ ({ n.heard e with report := some rep } : Node).Awaits n' := by
  obtain ⟨n1, hn1, hawaits1⟩ := State.beforeReport_node hn t e rep
  obtain ⟨n', hn', hawaits⟩ :=
    ((State.Posts.refl (s.beforeReport t a n e rep)).ownerReport n.role rep).node hn1
  exact ⟨n', by rw [State.closeEvent_node, hn'], hawaits1.trans hawaits⟩

end

/-- Settles O48: a good reply in its three steps, a bad one as the end of the window, and the owners' notices. -/
theorem goodRepliesUpdateTheirNode : Obligations.GoodRepliesUpdateTheirNode := by
  refine ⟨fun t chars s => ⟨fun hw => ?_, fun w n hw hn => ⟨fun e rep hgood => ?_, fun hbad hcut => ?_⟩⟩,
    Node.decided_iff, fun s st back => ⟨fun _ => rfl, fun _ => rfl, fun _ => rfl, rfl, rfl, rfl⟩⟩
  · exact congrArg (fun y : State => Host.Outcome.next y.closeEvent) (State.replyHeard_closed (s := s.at t) hw chars)
  · intro a heard back told acted
    have hheard := State.replyHeard_hears ⟨⟨w, hw, rfl⟩, hn, hgood⟩ t
    have hexec : exec (.nodeReply t chars) s
        = .next ((s.beforeReport t a n e rep).ownerReport n.role rep).closeEvent :=
      congrArg (fun y : State => Host.Outcome.next y.closeEvent) hheard
    have hgoodReply := State.replyHeard_good (s := s.at t) hw hn hgood
    obtain ⟨n', hn', hawaits⟩ := State.afterReport_node hn t e rep
    have hacted : s.beforeReport t a n e rep = acted.reported a rep := rfl
    obtain ⟨hrole, hstate, hmisses, hecho, hresync, hreport⟩ := hawaits.entry
    refine ⟨hexec.trans (by rw [hacted]), _, hexec, ?_, ⟨n', hn', hrole, hstate, hmisses, hecho, hresync, hreport,
      fun c toggle hc hsent => hawaits.transmitted hc hsent⟩, ?_⟩
    · rw [State.closeEvent_sbm, ((State.Posts.refl _).ownerReport n.role rep).window]
      exact State.beforeReport_window ..
    · refine worksTo_closeEvent (y := (s.at t).closeWindow) ?_
      rw [← hheard, hgoodReply]
      exact State.goodReply_fixed ..
  · have hheard := State.replyHeard_bad (s := s.at t) hw hn hbad
    have hexpires := State.windowExpires_misses (s := s.at t) hw hn hcut
    exact congrArg (fun y : State => Host.Outcome.next y.closeEvent) (hheard.trans hexpires.symm)

end Sys2Proof.Machine
end

section
/-! PROOF. Node replies on the wire (O47): the codes are read back as they were sent, and what every good reply has. -/

namespace Sys2Proof.Machine

/-! ## Codes read back (R172, R173) -/

theorem CmdCode.ofCode_code (c : CmdCode) : CmdCode.ofCode c.code = some c := by cases c <;> rfl

theorem CmdCode.code_pos (c : CmdCode) : 0 < c.code := by cases c <;> decide

theorem CmdCode.code_lt (c : CmdCode) : c.code < 64 := by cases c <;> decide

theorem StationReport.ofCode_code (st : StationReport) : StationReport.ofCode st.code = some st := by cases st <;> rfl

theorem DrivePhase.ofCode_code (p : DrivePhase) : DrivePhase.ofCode p.code = some p := by cases p <;> rfl

theorem VerifyState.ofCode_code (st : VerifyState) : VerifyState.ofCode st.code = some st := by cases st <;> rfl

theorem StationReport.code_lt (st : StationReport) : st.code < 256 := by cases st <;> decide

theorem DrivePhase.code_lt (p : DrivePhase) : p.code < 256 := by cases p <;> decide

theorem VerifyState.code_lt (st : VerifyState) : st.code < 256 := by cases st <;> decide

theorem byteOf_toNat_of_lt {n : Nat} (h : n < 256) : (byteOf n).toNat = n := by
  rw [byteOf_toNat, Nat.mod_eq_of_lt h]

theorem Role.kindCode_lt (r : Role) : r.kindCode < 256 := by
  unfold Role.kindCode
  split <;> decide

/-! ## The echo character (R172) -/

/-- The code in an echo character, 0 for NONE. -/
def Echo.number (e : Echo) : Nat := match e.code with | some c => c.code | none => 0

theorem Echo.number_lt (e : Echo) : e.number < 64 := by
  unfold Echo.number
  split
  · exact CmdCode.code_lt _
  · decide

theorem Echo.byte_toNat (e : Echo) :
    e.byte.toNat = e.number + (if e.refused then 64 else 0) + if e.toggle then 128 else 0 := by
  have hlt := e.number_lt
  refine byteOf_toNat_of_lt (n := e.number + _ + toggleBit e.toggle) ?_
  unfold toggleBit
  (repeat' split) <;> omega

theorem Echo.byte_number (e : Echo) : e.byte.toNat % 64 = e.number := by
  have hlt := e.number_lt
  rw [e.byte_toNat]
  (repeat' split) <;> omega

theorem Echo.byte_refused (e : Echo) : e.byte.getLsbD 6 = e.refused := by
  have hlt := e.number_lt
  rw [← BitVec.testBit_toNat, Nat.testBit_eq_decide_div_mod_eq, e.byte_toNat]
  cases e.refused <;> simp <;> split <;> omega

theorem Echo.byte_toggle (e : Echo) : e.byte.getLsbD 7 = e.toggle := by
  have hlt := e.number_lt
  rw [← BitVec.testBit_toNat, Nat.testBit_eq_decide_div_mod_eq, e.byte_toNat]
  cases e.toggle <;> simp <;> split <;> omega

theorem decodeEcho_byte {r : Role} {e : Echo} (h : Echo.fits r e) : decodeEcho r e.byte = some e := by
  obtain ⟨toggle, code, refused⟩ := e
  simp only [decodeEcho, Echo.byte_number, Echo.byte_refused, Echo.byte_toggle]
  cases code with
  | none => rfl
  | some c =>
    have htakes : r.takes c = true := h c rfl
    simp [Echo.number, CmdCode.ofCode_code, htakes, c.code_pos.ne']

/-! ## The report places (R172) -/

theorem flagPair_lt (d0 d1 : Bool) : flagPair d0 d1 < 4 := by cases d0 <;> cases d1 <;> decide

theorem flagPair_low (d0 d1 : Bool) : decide (flagPair d0 d1 % 2 = 1) = d0 := by cases d0 <;> cases d1 <;> rfl

theorem flagPair_high (d0 d1 : Bool) : decide (flagPair d0 d1 / 2 = 1) = d1 := by cases d0 <;> cases d1 <;> rfl

/-- The four characters of a report that fits its role are read as that report. -/
theorem decodeReport_places {r : Role} {rep : Report} (h : Report.fits r rep) : ∃ p1 p2 p3 p4,
    rep.places = [p1, p2, p3, p4] ∧ decodeReport r p1.toNat p2.toNat p3.toNat p4.toNat = some rep := by
  have hflags (d0 d1 : Bool) : (byteOf (flagPair d0 d1)).toNat = flagPair d0 d1 :=
    byteOf_toNat_of_lt ((flagPair_lt d0 d1).trans (by decide))
  unfold Report.fits at h
  split at h
  · exact ⟨_, _, _, _, rfl, by
      simp [decodeReport, StationReport.ofCode_code, Nat.mod_eq_of_lt, StationReport.code_lt, h]⟩
  · exact ⟨_, _, _, _, rfl, by simp [decodeReport, DrivePhase.ofCode_code, Nat.mod_eq_of_lt, DrivePhase.code_lt]⟩
  · exact ⟨_, _, _, _, rfl, by
      simp [decodeReport, hflags, flagPair_lt, flagPair_low, flagPair_high, byteOf_toNat_of_lt h, -byteOf_toNat]⟩
  · exact ⟨_, _, _, _, rfl, by simp [decodeReport, Nat.mod_eq_of_lt, h]⟩
  · exact ⟨_, _, _, _, rfl, by
      simp [decodeReport, VerifyState.ofCode_code, Nat.mod_eq_of_lt, VerifyState.code_lt, h]⟩
  · exact ⟨_, _, _, _, rfl, by
      simp [decodeReport, hflags, flagPair_lt, flagPair_low, flagPair_high, -byteOf_toNat]⟩
  · exact h.elim

/-! ## Good replies (R162, R188) -/

/-- A good reply is read as it was sent. -/
theorem judgeReply_nodeReplyChars (a : Nat) {r : Role} {e : Echo} {rep : Report} (he : Echo.fits r e)
    (hrep : Report.fits r rep) : judgeReply a r (nodeReplyChars a r e rep) = some (e, rep) := by
  obtain ⟨p1, p2, p3, p4, hplaces, hdecode⟩ := decodeReport_places hrep
  have hkind : (byteOf r.kindCode).toNat = r.kindCode := byteOf_toNat_of_lt r.kindCode_lt
  simp [judgeReply, nodeReplyChars, busFrame, hplaces, BusChar.plain, hkind, decodeEcho_byte he, hdecode, -byteOf_toNat]

/-- What every good reply has: eight characters, each with its stop bit, the mark in the first alone, which holds the
polled node's address, and the CRC-8 of the others in the last. -/
structure FramedReply (a : Nat) (chars : List BusChar) : Prop where
  length : chars.length = 8
  address : ∀ c, chars[0]? = some c → c.data = byteOf a
  framed : ∀ i c, chars[i]? = some c → c.stopFound = true ∧ c.mark = decide (i = 0)
  checked : ∀ c, chars[7]? = some c → c.data = crc8 (chars.dropLast.map (·.data))

theorem judgeReply_framed {a : Nat} {r : Role} {chars : List BusChar} {x : Echo × Report}
    (h : judgeReply a r chars = some x) : FramedReply a chars := by
  unfold judgeReply at h
  split at h
  · next first status echo p1 p2 p3 p4 crc =>
    split at h
    · next hgood =>
      simp only [Bool.and_eq_true, decide_eq_true_eq, List.all_eq_true, BusChar.plain, Bool.not_eq_true'] at hgood
      obtain ⟨⟨⟨⟨⟨hstop, hmark⟩, haddress⟩, hplain⟩, hcrc⟩, -⟩ := hgood
      refine ⟨rfl, fun c hc => ?_, fun i c hc => ?_, fun c hc => ?_⟩
      · injection hc with hc
        exact hc ▸ haddress
      · cases i with
        | zero =>
          injection hc with hc
          exact hc ▸ ⟨hstop, hmark⟩
        | succ i =>
          rw [List.getElem?_cons_succ] at hc
          simpa using hplain c (List.mem_of_getElem? hc)
      · injection hc with hc
        exact hc ▸ hcrc
    · cases h
  · cases h

/-- A reply without that frame is a miss. -/
theorem judgeReply_unframed {a : Nat} (r : Role) {chars : List BusChar} (h : ¬ FramedReply a chars) :
    judgeReply a r chars = none := by
  cases hj : judgeReply a r chars with
  | none => rfl
  | some x => exact absurd (judgeReply_framed hj) h

theorem byteOf_inj {a b : Nat} (ha : a < 64) (hb : b < 64) (h : byteOf a = byteOf b) : a = b := by
  have hnat := congrArg BitVec.toNat h
  rwa [byteOf_toNat_of_lt (by omega), byteOf_toNat_of_lt (by omega)] at hnat

section
variable {a : Nat} {chars : List BusChar} (h : FramedReply a chars)
include h

theorem FramedReply.other_address {b : Nat} (ha : a < 64) (hb : b < 64) (hab : b ≠ a) : ¬ FramedReply b chars := by
  intro hother
  obtain ⟨c, hc⟩ : ∃ c, chars[0]? = some c := ⟨_, List.getElem?_eq_getElem (by rw [h.length]; decide)⟩
  exact hab (byteOf_inj hb ha ((hother.address c hc).symm.trans (h.address c hc)))

/-- A character replaced by one whose stop bit is missing or whose mark is another. -/
theorem FramedReply.set_broken {i : Nat} {c c' : BusChar} (hc : chars[i]? = some c)
    (hbroken : c'.stopFound = false ∨ c'.mark = !c.mark) : ¬ FramedReply a (chars.set i c') := by
  intro hset
  have hi : i < chars.length := (List.getElem?_eq_some_iff.mp hc).1
  obtain ⟨hstop, hmark⟩ := hset.framed i c' (List.getElem?_set_self hi)
  rcases hbroken with hbroken | hbroken
  · simp [hstop] at hbroken
  · simp [hmark, (h.framed i c hc).2] at hbroken

theorem FramedReply.last_broken {last : BusChar}
    (hlast : last.data ≠ crc8 (chars.dropLast.map (·.data)) ∨ last.mark = true ∨ last.stopFound = false) :
    ¬ FramedReply a (chars.dropLast ++ [last]) := by
  intro hother
  have hget : (chars.dropLast ++ [last])[7]? = some last := by
    rw [List.getElem?_append_right] <;> simp [h.length]
  obtain ⟨hstop, hmark⟩ := hother.framed 7 last hget
  have hcrc := hother.checked last hget
  rw [List.dropLast_concat] at hcrc
  rcases hlast with hlast | hlast | hlast
  · exact hlast hcrc
  · simp [hmark] at hlast
  · simp [hstop] at hlast

end

/-- Settles O47: the round trip, and for each way to break a reply the part of the frame that it breaks. -/
theorem goodRepliesAreReadAsTheyWereSent : Obligations.GoodRepliesAreReadAsTheyWereSent := by
  intro a r e rep ha he hrep chars
  have hgood : judgeReply a r chars = some (e, rep) := judgeReply_nodeReplyChars a he hrep
  have hframed := judgeReply_framed hgood
  have shorter {l : List BusChar} (hl : l.length ≠ 8) : judgeReply a r l = none :=
    judgeReply_unframed r fun hl' => hl hl'.length
  refine ⟨hgood, fun b hb hab => judgeReply_unframed r (hframed.other_address ha hb hab), fun i c hc => ?_, fun c => ?_,
    fun last hlast => judgeReply_unframed r (hframed.last_broken hlast)⟩
  · have hi : i < 8 := hframed.length ▸ (List.getElem?_eq_some_iff.mp hc).1
    refine ⟨shorter ?_, shorter ?_, judgeReply_unframed r (hframed.set_broken hc (.inl rfl)),
      judgeReply_unframed r (hframed.set_broken hc (.inr rfl))⟩
    · rw [List.length_eraseIdx_of_lt (by rwa [hframed.length]), hframed.length]
      decide
    · rw [List.length_take, hframed.length]
      omega
  · exact shorter (by rw [List.length_append, hframed.length, List.length_singleton]; decide)

end Sys2Proof.Machine
end

section
/-! PROOF. The answers to requests: a refused request leaves the state as it was, and one answered OK leaves the
receiver, the queues and the pins of the cell link alone (R177, R179; O13, O14). -/

namespace Sys2Proof.Machine

/-- What no request touches of the cell link: the receiver, both queues, the reply being sent, and the pins. -/
def Clp.wire (c : Clp) : Clp :=
  { c with linkError := false, overrun := false, events := [], gap := false, restarting := false }

/-- Effects between the blocks touch the Event Queue of the link only. -/
theorem wire_of_fixed {s u : State} (h : u.fixed = s.fixed) : u.clp.wire = s.clp.wire :=
  show u.fixed.clp.wire = s.fixed.clp.wire from congrArg (fun x : State => x.clp.wire) h

/-! ## The supervisor's operations -/

section
variable (s : State)

theorem State.closeEvent_wire : s.closeEvent.clp.wire = s.clp.wire := (wire_of_fixed s.closeEvent_fixed).trans rfl

theorem State.enterLine_wire (st : LineState) (cause : LineCause) : (s.enterLine st cause).clp.wire = s.clp.wire :=
  (wire_of_fixed (s.enterLine_fixed st cause)).trans rfl

theorem State.enterHalt_wire (cause : LineCause) : (s.enterHalt cause).clp.wire = s.clp.wire := by
  have hbus (x : State) : x.haltBus.clp.wire = x.clp.wire :=
    (wire_of_fixed (forEach_fixed (fun a x => x.haltNode_fixed a) _ _)).trans rfl
  rw [wire_of_fixed (s.enterHalt_fixed cause), hbus, State.enterLine_wire]

theorem State.startLine_wire (m : Mode) : (s.startLine m).clp.wire = s.clp.wire := by
  have h : (s.startLine m).fixed = ((s.modLsv fun l => { l with mode := m }).enterLine .run .start).fixed := by
    simp [State.startLine]
  rw [wire_of_fixed h, State.enterLine_wire]
  rfl

theorem State.stopLine_wire : s.stopLine.clp.wire = s.clp.wire := by
  have h : s.stopLine.fixed = (s.enterLine .stopping .stop).fixed := by simp [State.stopLine]
  rw [wire_of_fixed h, State.enterLine_wire]

theorem State.modeLine_wire (m : Mode) : (s.modeLine m).clp.wire = s.clp.wire := by
  unfold State.modeLine
  split
  · rfl
  · exact (wire_of_fixed (by simp)).trans (b := (s.modLsv fun l => { l with mode := m }).clp.wire) rfl

theorem State.recoverLine_wire : s.recoverLine.clp.wire = s.clp.wire := by
  have h : s.recoverLine.fixed = (s.enterLine .idle .recover).fixed := by simp [State.recoverLine]
  rw [wire_of_fixed h, State.enterLine_wire]

theorem State.commitLine_wire : s.commitLine.clp.wire = s.clp.wire := by
  cases h : s.lsv.estop with
  | false => rw [State.commitLine_released h, State.enterLine_wire]; rfl
  | true =>
    have hscan (x : State) : x.firstScanInHalt.clp = x.clp := rfl
    rw [State.commitLine_asserted h, hscan, State.enterHalt_wire, State.enterLine_wire]
    rfl

theorem State.uncommitLine_wire : s.uncommitLine.clp.wire = s.clp.wire := by
  have h : s.uncommitLine.clp = (s.enterLine .config .uncommit).clp := rfl
  rw [h, State.enterLine_wire]

end

/-! ## The answers -/

/-- How a request is answered: refused, with the state left as it was, or OK. -/
inductive State.Answers (s : State) : State × Answer → Prop
  | refused (a : Answer) : s.Answers (s, a)
  | ok {u : State} (h : u.clp.wire = s.clp.wire) (data : List Byte) : s.Answers (u, .ok data)

namespace State.Answers

variable {s u : State}

/-- Effects that end the event of the request. -/
theorem closed (h : u.clp.wire = s.clp.wire) (data : List Byte) : s.Answers (u.closeEvent, .ok data) :=
  .ok (u.closeEvent_wire.trans h) data

/-- Effects between the blocks and the end of the event after them. -/
theorem worked (h : u.fixed = s.fixed) (data : List Byte) : s.Answers (u.closeEvent, .ok data) :=
  .closed (wire_of_fixed h) data

/-- A request with a guard that refuses it. -/
theorem guarded {c : Prop} [Decidable c] {a : Answer} {r : State × Answer} (h : s.Answers r) :
    s.Answers (if c then (s, a) else r) := by
  split
  · exact .refused a
  · exact h

end State.Answers

section
variable (s : State)

theorem State.requestLineSet_answers (body : List Byte) : s.Answers (s.requestLineSet body) := by
  refine .guarded ?_
  split
  · exact .refused _
  · exact .ok (by rfl) _

theorem State.requestSegmentSet_answers (body : List Byte) : s.Answers (s.requestSegmentSet body) := by
  refine .guarded ?_
  split
  · exact .refused _
  · exact .ok (by rfl) _

theorem State.requestStationSet_answers (body : List Byte) : s.Answers (s.requestStationSet body) := by
  refine .guarded ?_
  split
  · exact .refused _
  · split <;> exact .ok (by rfl) _

theorem State.requestBusSet_answers (body : List Byte) : s.Answers (s.requestBusSet body) := by
  refine .guarded ?_
  split
  · exact .refused _
  · exact .ok (by rfl) _

theorem State.requestCommit_answers : s.Answers s.requestCommit := by
  refine .guarded ?_
  split
  · exact .refused _
  · exact .closed s.commitLine_wire _

theorem State.requestUncommit_answers : s.Answers s.requestUncommit := .guarded (.ok s.uncommitLine_wire _)

theorem State.requestStart_answers (m : Nat) : s.Answers (s.requestStart m) := by
  refine .guarded ?_
  split
  · exact .refused _
  · exact .closed (s.startLine_wire _) _

theorem State.requestStop_answers : s.Answers s.requestStop := .guarded (.closed s.stopLine_wire _)

theorem State.requestMode_answers (m : Nat) : s.Answers (s.requestMode m) := by
  refine .guarded ?_
  split
  · exact .refused _
  · exact .closed (s.modeLine_wire _) _

theorem State.requestStepGrant_answers (mask : Byte) : s.Answers (s.requestStepGrant mask) :=
  .guarded (.guarded (.worked (by simp) _))

theorem State.requestHold_answers (mask : Byte) : s.Answers (s.requestHold mask) :=
  .guarded (.guarded (.worked (by simp) _))

theorem State.requestContinue_answers (mask : Byte) : s.Answers (s.requestContinue mask) :=
  .guarded (.guarded (.worked (by simp) _))

theorem State.requestHalt_answers : s.Answers s.requestHalt := by
  unfold State.requestHalt
  split
  case h_1 | h_2 => exact .refused _
  case h_3 | h_4 | h_5 => exact .closed (s.enterHalt_wire _) _

theorem State.requestRecover_answers : s.Answers s.requestRecover :=
  .guarded (.guarded (.closed s.recoverLine_wire _))

theorem State.requestRestart_answers : s.Answers s.requestRestart := .guarded (.ok (by rfl) _)

theorem State.requestBypassOn_answers (n : Nat) : s.Answers (s.requestBypassOn n) := by
  refine .guarded (.guarded ?_)
  split
  · exact .refused _
  · refine .guarded (.guarded ?_)
    split
    · exact .worked (by simp) _
    · split
      · exact .guarded (.worked (by simp) _)
      · exact .refused _

theorem State.requestBypassOff_answers (n : Nat) : s.Answers (s.requestBypassOff n) := by
  refine .guarded (.guarded ?_)
  split
  · exact .refused _
  · refine .guarded ?_
    split
    · split
      · exact .worked (by simp) _
      · split
        · exact .worked (by simp) _
        · exact .refused _
    · exact .refused _

theorem State.requestBypass_answers (n setting : Nat) : s.Answers (s.requestBypass n setting) := by
  unfold State.requestBypass
  split
  · exact s.requestBypassOff_answers n
  · exact s.requestBypassOn_answers n
  · exact .guarded (.guarded (.refused _))

theorem State.requestAbortCycle_answers (n : Nat) : s.Answers (s.requestAbortCycle n) := by
  refine .guarded (.guarded ?_)
  split
  · exact .refused _
  · split
    case h_4 => exact .refused _
    all_goals exact .worked (by simp) _

theorem State.requestClearStation_answers (n : Nat) : s.Answers (s.requestClearStation n) := by
  refine .guarded (.guarded ?_)
  split
  · exact .refused _
  · refine .guarded (.guarded (.guarded ?_))
    split
    · exact .refused _
    · exact .guarded (.worked (by simp) _)

theorem State.requestClearSegment_answers (k : Nat) : s.Answers (s.requestClearSegment k) :=
  .guarded (.guarded (.guarded (.guarded (.guarded (.guarded (.guarded (.worked (by simp) _)))))))

theorem State.requestClearConveyor_answers (number : Nat) : s.Answers (s.requestClearConveyor number) := by
  refine .guarded ?_
  split
  · exact .refused _
  · exact .guarded (.guarded (.guarded (.worked (by simp) _)))

theorem State.requestClearFault_answers (kind number : Nat) : s.Answers (s.requestClearFault kind number) := by
  unfold State.requestClearFault
  split
  · exact s.requestClearSegment_answers number
  · exact s.requestClearStation_answers number
  · exact s.requestClearConveyor_answers number
  · exact .refused _

theorem State.requestPalletDefine_answers (id variant : Nat) : s.Answers (s.requestPalletDefine id variant) := by
  refine .guarded ?_
  split
  · exact .refused _
  · exact .guarded (.guarded (.ok (by rfl) _))

theorem State.requestPalletDelete_answers (id : Nat) : s.Answers (s.requestPalletDelete id) := by
  refine .guarded ?_
  split
  · exact .refused _
  · exact .guarded (.ok (by rfl) _)

theorem State.requestPalletRead_answers (id : Nat) : s.Answers (s.requestPalletRead id) := by
  refine .guarded ?_
  split <;> exact .refused _

theorem State.requestPlace_answers (id position : Nat) : s.Answers (s.requestPlace id position) := by
  refine .guarded (.guarded ?_)
  split
  · exact .refused _
  · refine .guarded ?_
    split
    · exact .refused _
    · exact .guarded (.guarded (.worked (by simp) _))
    · exact .guarded (.guarded (.worked (by simp) _))

theorem State.requestRemove_answers (id : Nat) : s.Answers (s.requestRemove id) := by
  refine .guarded (.guarded ?_)
  split
  · exact .refused _
  · split
    · exact .refused _
    · split
      · exact .worked (by simp) _
      · exact .refused _

theorem State.requestAcceptTag_answers : s.Answers s.requestAcceptTag := by
  refine .guarded ?_
  split
  · exact .guarded (.guarded (.worked (by simp) _))
  · exact .refused _

theorem State.requestConfirmBefore_answers (k : Nat) : s.Answers (s.requestConfirmBefore k) := by
  refine .guarded (.guarded ?_)
  split
  · exact .refused _
  · exact .worked (by simp) _

theorem State.requestConfirmAfter_answers (k : Nat) : s.Answers (s.requestConfirmAfter k) := by
  refine .guarded (.guarded ?_)
  split
  · exact .refused _
  · exact .worked (by simp) _

theorem State.requestConfirmList_answers (k flag : Nat) (occupants : List Byte) :
    s.Answers (s.requestConfirmList k flag occupants) := by
  refine .guarded (.guarded ?_)
  split
  · exact .refused _
  · exact .guarded (.guarded (.worked (by simp) _))

theorem State.requestConfirm_answers (body : List Byte) : s.Answers (s.requestConfirm body) := by
  unfold State.requestConfirm
  dsimp only
  split
  · exact s.requestConfirmBefore_answers _
  · exact s.requestConfirmAfter_answers _
  · exact s.requestConfirmList_answers _ _ _
  · exact .guarded (.guarded (.refused _))

theorem State.requestMapRead_answers (start count : Nat) : s.Answers (s.requestMapRead start count) :=
  .guarded (.guarded (.refused _))

theorem State.requestReserveSet_answers (volume : Nat) : s.Answers (s.requestReserveSet volume) :=
  .guarded (.guarded (.worked (by simp) _))

theorem State.requestStatus_answers (number : Nat) : s.Answers (s.requestStatus number) := .guarded (.ok (by rfl) _)

theorem State.requestEventsTake_answers (count : Nat) : s.Answers (s.requestEventsTake count) := .ok (by rfl) _

/-- A request at its owner (R181). -/
theorem State.owner_answers (type : Byte) (body : List Byte) : s.Answers (s.owner type body) := by
  unfold State.owner
  split
  · exact s.requestLineSet_answers body
  · exact s.requestSegmentSet_answers body
  · exact s.requestStationSet_answers body
  · exact s.requestBusSet_answers body
  · exact s.requestCommit_answers
  · exact s.requestUncommit_answers
  · exact s.requestStart_answers _
  · exact s.requestMode_answers _
  · exact s.requestStop_answers
  · exact s.requestHalt_answers
  · exact s.requestRecover_answers
  · exact s.requestStepGrant_answers _
  · exact s.requestHold_answers _
  · exact s.requestContinue_answers _
  · exact s.requestRestart_answers
  · exact s.requestBypass_answers _ _
  · exact s.requestAbortCycle_answers _
  · exact s.requestClearFault_answers _ _
  · exact s.requestPalletDefine_answers _ _
  · exact s.requestPalletDelete_answers _
  · exact s.requestPalletRead_answers _
  · exact s.requestPlace_answers _ _
  · exact s.requestRemove_answers _
  · exact s.requestAcceptTag_answers
  · exact s.requestConfirm_answers _
  · exact s.requestMapRead_answers _ _
  · exact s.requestReserveSet_answers _
  · exact s.requestStatus_answers _
  · exact .refused _
  · exact s.requestEventsTake_answers _
  · exact .refused _

theorem State.answer_answers (f : Frame) : s.Answers (s.answer f) := by
  unfold State.answer
  split
  · exact .refused _
  · exact .guarded (s.owner_answers f.type f.body)

end

/-- Settles O13: a request is refused, with the state left as it was, or answered OK. -/
theorem answersOtherThanOkChangeNothing : Obligations.AnswersOtherThanOkChangeNothing := by
  intro s u f a hanswer hother
  have h := s.answer_answers f
  rw [hanswer] at h
  cases h with
  | refused a => rfl
  | ok h data => exact absurd rfl (hother data)

theorem State.Answers.wire {s : State} {r : State × Answer} (h : s.Answers r) : r.1.clp.wire = s.clp.wire := by
  cases h with
  | refused a => rfl
  | ok h data => exact h

/-- Settles O14: no answer touches the queues, the receiver or the reply being sent. -/
theorem eachTakenFrameGivesOneReply : Obligations.EachTakenFrameGivesOneReply := by
  intro s f rest _
  obtain ⟨hrx, hrequests, hreplies, hsending, -, -, -, -, -, hcts, hrate⟩ :=
    Clp.mk.inj (State.answer_answers (s.modClp fun c => { c with requests := rest }) f).wire
  exact ⟨_, congrArg (· ++ _) hreplies, hrequests, hrx, hsending, hcts, hrate⟩

end Sys2Proof.Machine
end

section
/-! PROOF. The cell link: frames judged by their check (O8), the receiver byte by byte (O9, O10), and replies sent in
turn (O11). -/

namespace Sys2Proof.Machine

/-! ## Frames and their check (R175 to R177) -/

theorem Clp.mayTake_eq_false {c : Clp} :
    c.mayTake = false ↔ Config.replyQueueCapacity ≤ c.replies.length ∨ c.restarting = true := by
  rw [Clp.mayTake, Bool.and_eq_false_iff, decide_eq_false_iff_not, Nat.not_lt, Bool.not_eq_false']

/-- With the reply queue full or after RESTART no frame is taken (R156, R177). -/
theorem State.takeFrames_closed (n : Nat) {s : State} (h : s.clp.mayTake = false) : State.takeFrames n s = s := by
  cases n with
  | zero => rfl
  | succ n =>
    unfold State.takeFrames
    split
    · rfl
    · exact if_neg (ne_true_of_eq_false h)

theorem State.takeAll_none {s : State} (h : s.clp.requests = []) : s.takeAll = s := by
  rw [State.takeAll, h]
  rfl

/-- A frame that waits alone at a link that may take it. -/
theorem State.takeAll_single {s : State} {f : Frame} (hreq : s.clp.requests = [f]) (hmay : s.clp.mayTake = true) :
    s.takeAll = s.takeFrame f [] := by
  simp [State.takeAll, hreq, State.takeFrames, hmay]

section
variable {s : State} {type tag : Byte} {body : List Byte} {check : BitVec 16}

theorem State.frameArrives_fits (h : body.length ≤ Config.maxBody) :
    s.frameArrives type tag body check = s.judgeFrame type tag body check := if_neg (Nat.not_lt.mpr h)

theorem State.judgeFrame_bad (h : check ≠ crc16 (checkedBytes type tag body)) :
    s.judgeFrame type tag body check = s.linkError := if_neg h.symm

theorem State.judgeFrame_good (h : check = crc16 (checkedBytes type tag body)) :
    s.judgeFrame type tag body check = s.hunt.offer { type := type, tag := tag, body := body } := if_pos h.symm

theorem State.offer_full {f : Frame} (h : Config.requestQueueCapacity ≤ s.clp.requests.length) :
    s.offer f = s.modClp fun c => { c with overrun := true } := if_neg (Nat.not_lt.mpr h)

theorem State.offer_closed {f : Frame} (hroom : s.clp.requests.length < Config.requestQueueCapacity)
    (hclosed : s.clp.mayTake = false) : s.offer f = s.modClp fun c => { c with requests := c.requests ++ [f] } :=
  (if_pos hroom).trans (State.takeFrames_closed _ hclosed)

/-- Judging a frame brings the receiver to hunting, whatever it was. -/
theorem State.judgeFrame_receiver (rx : Receiver) : ({ s with clp := { s.clp with rx := rx } } : State).judgeFrame
    type tag body check = s.judgeFrame type tag body check := by
  unfold State.judgeFrame
  split <;> rfl

end

theorem exec_frameReceived {body : List Byte} (h : body.length ≤ Config.maxBody) (t : LineTime) (type tag : Byte)
    (check : BitVec 16) (s : State) : exec (.frameReceived t type tag body check) s =
      .next ((s.at t).judgeFrame type tag body check) :=
  congrArg Host.Outcome.next (State.frameArrives_fits h)

/-- Settles O8: by the check, then by the room of the request queue, then by whether the frame may be taken. -/
theorem framesAreJudgedByTheirCheck : Obligations.FramesAreJudgedByTheirCheck := by
  intro t type tag body check s hbody
  dsimp only
  rw [exec_frameReceived hbody]
  refine ⟨fun hbad => ?_, fun hgood => ?_⟩
  · rw [State.judgeFrame_bad hbad]
    rfl
  · rw [State.judgeFrame_good hgood]
    refine ⟨fun hfull => ?_, fun hroom hclosed => ?_, fun hready => ?_⟩
    · rw [State.offer_full (s := (s.at t).hunt) hfull]
      rfl
    · rw [State.offer_closed (s := (s.at t).hunt) hroom (Clp.mayTake_eq_false.mpr hclosed)]
      rfl
    · exact congrArg Host.Outcome.next (State.offer_ready (s := (s.at t).hunt) hready _)

/-! ## The receiver (R174) -/

/-- The receiver has heard `bytes` after the sync byte, the last one at `t`. -/
def State.receiving (s : State) (t : LineTime) (bytes : List Byte) : State :=
  { s.at t with clp := { s.clp with rx := .assembling bytes { start := t, limit := 10 } } }

/-- The frame is not complete with `heard`, and its length is not known yet or fits (R174). -/
def FramePartial (heard : List Byte) : Prop :=
  heard.length < 2
    ∨ (frameLength heard ≤ 240 ∧ (heard.length < 6 ∨ heard.length < frameLength heard + 6))

section
variable {s : State} {heard : List Byte}

theorem State.assemble_tooLong (h2 : 2 ≤ heard.length) (hlong : 240 < frameLength heard) :
    s.assemble heard = s.linkError := by
  simp [State.assemble, h2, Config.maxBody, hlong]

theorem State.assemble_partial (h : FramePartial heard) :
    s.assemble heard = s.modClp fun c => { c with rx := .assembling heard s.gapTimer } := by
  unfold FramePartial at h
  have hfits : ¬ (2 ≤ heard.length ∧ Config.maxBody < frameLength heard) := by unfold Config.maxBody; omega
  have hmore : ¬ (6 ≤ heard.length ∧ frameLength heard + 6 ≤ heard.length) := by omega
  simp only [State.assemble, Bool.and_eq_true, decide_eq_true_iff, if_neg hfits, if_neg hmore]

theorem State.assemble_complete (h6 : 6 ≤ heard.length) (hfits : frameLength heard ≤ 240)
    (hlast : frameLength heard + 6 ≤ heard.length) : s.assemble heard = s.completeFrame heard := by
  simp [State.assemble, Config.maxBody, h6, Nat.not_lt.mpr hfits, hlast]

end

section
variable {s : State} (h : s.clp.rx = .hunting)
include h

theorem State.byteArrives_hunting (b : Byte) : s.byteArrives b =
    if b = Config.syncByte then s.modClp fun c => { c with rx := .assembling [] s.gapTimer } else s := by
  simp [State.byteArrives, h]

theorem State.framingFails_hunting : s.framingFails = s := by
  simp [State.framingFails, h]

theorem exec_sync (t : LineTime) : exec (.cellLinkByteReceived t 0xC3) s = .next (s.receiving t []) :=
  congrArg Host.Outcome.next ((State.byteArrives_hunting (s := s.at t) h _).trans (if_pos rfl))

end

section
variable {s : State} {bytes : List Byte} {gap : Timer} (h : s.clp.rx = .assembling bytes gap)
include h

theorem State.byteArrives_assembling (b : Byte) : s.byteArrives b = s.assemble (bytes ++ [b]) := by
  simp [State.byteArrives, h]

theorem State.framingFails_assembling : s.framingFails = s.linkError := by
  simp [State.framingFails, h]

theorem State.gapExpires_due (hdue : s.due gap = true) : s.gapExpires = s.linkError := by
  simp [State.gapExpires, h, hdue]

theorem exec_byte (t : LineTime) (b : Byte) :
    exec (.cellLinkByteReceived t b) s = .next ((s.at t).assemble (bytes ++ [b])) :=
  congrArg Host.Outcome.next (State.byteArrives_assembling (s := s.at t) h b)

theorem exec_byte_partial (t : LineTime) {b : Byte} (hpart : FramePartial (bytes ++ [b])) :
    exec (.cellLinkByteReceived t b) s = .next (s.receiving t (bytes ++ [b])) := by
  rw [exec_byte h, State.assemble_partial hpart]
  rfl

end

/-! ## Replies (R178) and RESTART's reset (R156) -/

theorem State.afterReset_hunting (waiting : List Instr) (estop : Bool) (br : BitVec 2) :
    (State.afterReset waiting estop br).clp.rx = .hunting := by
  cases estop <;> rfl

/-- The link after the last byte of a reply, before it is looked at what follows. -/
def State.replySent (s : State) (rest : List Reply) : State :=
  { s with clp := { s.clp with replies := rest, sending := none } }

section
variable {s : State} {frame : List Byte} {r : Reply} {rest : List Reply}

/-- A reply starts when CTS is asserted and none is being sent. -/
theorem State.replyStarts_head (hsending : s.clp.sending = none) (hreplies : s.clp.replies = r :: rest) :
    s.replyStarts true = { s with clp := { s.clp with cts := true, sending := some r.frame } } := by
  simp [State.replyStarts, hsending, hreplies, State.modClp]

theorem State.replyStarts_held (s : State) : s.replyStarts false = { s with clp := { s.clp with cts := false } } := by
  unfold State.replyStarts
  split <;> rfl

theorem State.replyStarts_none (h : s.clp.replies = [] ∨ s.clp.sending.isSome = true) :
    s.replyStarts true = { s with clp := { s.clp with cts := true } } := by
  unfold State.replyStarts
  split
  · next hsending hreplies => simp [hsending, hreplies] at h
  · rfl

theorem State.replyEnds_sent (hsending : s.clp.sending = some frame) (hreplies : s.clp.replies = r :: rest)
    (br : BitVec 2) : s.replyEnds br =
      if s.clp.restarting && rest.isEmpty then State.afterReset s.pending s.lsv.estop br
      else (s.replySent rest).takeAll := by
  simp [State.replyEnds, State.replySent, hsending, hreplies, State.modClp]

end

/-- Settles O9: the receiver's state and the bytes heard decide. -/
theorem theReceiverAssemblesFrames : Obligations.TheReceiverAssemblesFrames := by
  refine ⟨fun t b s hunting => ⟨fun hb => ?_, fun hb => hb ▸ exec_sync hunting t, ?_⟩,
    fun t b s bytes gap hrx => ⟨fun h2 hlong => ?_, fun hpart => exec_byte_partial hrx t hpart,
      fun h6 hfits hlast => ?_, rfl, ?_, fun hdue => ?_⟩,
    fun estop br s u h => ?_, fun t br s u frame r hsending hreplies hrestarting h => ?_⟩
  · exact congrArg Host.Outcome.next ((State.byteArrives_hunting (s := s.at t) hunting b).trans (if_neg hb))
  · exact congrArg Host.Outcome.next (State.framingFails_hunting (s := s.at t) hunting)
  · rw [exec_byte hrx, State.assemble_tooLong h2 hlong]
    rfl
  · rw [exec_byte hrx, State.assemble_complete h6 hfits hlast]
  · exact congrArg Host.Outcome.next (State.framingFails_assembling (s := s.at t) hrx)
  · exact congrArg Host.Outcome.next (State.gapExpires_due (s := s.at t) hrx (State.due_of_le hdue))
  · injection h with h
    exact h ▸ State.afterReset_hunting _ _ _
  · injection h with h
    rw [State.replyEnds_sent (s := s.at t) hsending hreplies, if_pos (by simp [hrestarting])] at h
    exact h ▸ State.afterReset_hunting _ _ _

/-! ## The bytes of a frame (R174, R175) -/

theorem State.receiving_receiving (s : State) (t : LineTime) (bytes heard : List Byte) :
    (s.receiving t bytes).receiving t heard = s.receiving t heard :=
  congrArg (fun x : State => { x with clp := { s.clp with rx := .assembling heard { start := t, limit := 10 } } })
    (State.at_at s t)

theorem State.completeFrame_receiving (s : State) (t : LineTime) (bytes heard : List Byte) :
    ((s.receiving t bytes).at t).completeFrame heard = (s.at t).completeFrame heard := by
  have hat : (s.receiving t bytes).at t = s.receiving t bytes :=
    congrArg (fun x : State => { x with clp := (s.receiving t bytes).clp }) (State.at_at s t)
  rw [hat]
  exact State.judgeFrame_receiver _

/-- The first two bytes give the length, however many are heard after them. -/
theorem frameLength_append {heard : List Byte} (h : 2 ≤ heard.length) (more : List Byte) :
    frameLength (heard ++ more) = frameLength heard := by
  rw [frameLength, List.take_append_of_le_length h, frameLength]

/-- A receiver that hears the rest of a frame, byte by byte, completes it with the last one. -/
theorem State.hear_rest {bytes rest : List Byte} {b : Byte} (s : State) (t : LineTime)
    (hfits : frameLength (bytes ++ b :: rest) ≤ 240)
    (hlast : (bytes ++ b :: rest).length = frameLength (bytes ++ b :: rest) + 6) :
    State.hear t (b :: rest) (s.receiving t bytes) = (s.at t).completeFrame (bytes ++ b :: rest) := by
  induction rest generalizing bytes b with
  | nil =>
    rw [State.hear, exec_byte (s := s.receiving t bytes) rfl, State.assemble_complete (by omega) hfits hlast.ge]
    exact s.completeFrame_receiving t bytes _
  | cons c rest ih =>
    have hsplit : bytes ++ b :: c :: rest = bytes ++ [b] ++ c :: rest := List.append_cons ..
    rw [hsplit] at hfits hlast ⊢
    have hpart : FramePartial (bytes ++ [b]) := by
      by_cases h2 : (bytes ++ [b]).length < 2
      · exact .inl h2
      · have hlength := frameLength_append (Nat.le_of_not_lt h2) (c :: rest)
        rw [List.length_append, List.length_cons] at hlast
        exact .inr ⟨hlength ▸ hfits, .inr (by omega)⟩
    rw [State.hear, exec_byte_partial (s := s.receiving t bytes) rfl t hpart, State.receiving_receiving]
    exact ih hfits hlast

/-- The bytes of a frame after its sync byte (11 section 11.2). -/
def frameBytes (type tag : Byte) (body : List Byte) (check : BitVec 16) : List Byte :=
  checkedBytes type tag body ++ beBytes 2 check.toNat

section
variable (type tag : Byte) {body : List Byte} (check : BitVec 16)

theorem checkedBytes_length (body : List Byte) : (checkedBytes type tag body).length = 4 + body.length := by
  simp [checkedBytes]
  omega

theorem frameBytes_length (body : List Byte) : (frameBytes type tag body check).length = body.length + 6 := by
  rw [frameBytes, List.length_append, checkedBytes_length, beBytes_length]
  omega

theorem frameBytes_fields (body : List Byte) : frameBytes type tag body check =
    byteOf (body.length / 256 ^ 1) :: byteOf (body.length / 256 ^ 0) :: type :: tag ::
      (body ++ beBytes 2 check.toNat) := by
  simp [frameBytes, checkedBytes, beBytes]

theorem frameBytes_frameLength (h : body.length ≤ 240) :
    frameLength (frameBytes type tag body check) = body.length := by
  rw [frameBytes, checkedBytes, List.append_assoc, List.append_assoc, frameLength,
    List.take_left' (beBytes_length 2 _), beNat_beBytes]
  exact Nat.mod_eq_of_lt (h.trans_lt (by decide))

/-- Type, tag, body and check are read back as they were sent. -/
theorem State.completeFrame_frameBytes (s : State) (h : body.length ≤ 240) :
    s.completeFrame (frameBytes type tag body check) = s.judgeFrame type tag body check := by
  have hbody : ((frameBytes type tag body check).drop 4).take body.length = body := by
    rw [frameBytes_fields]
    exact List.take_left' rfl
  have hcheck : beNat (((frameBytes type tag body check).drop (4 + body.length)).take 2) = check.toNat := by
    rw [frameBytes, List.drop_left' (checkedBytes_length type tag body),
      List.take_of_length_le (beBytes_length 2 _).le, beNat_beBytes]
    exact Nat.mod_eq_of_lt check.isLt
  simp only [State.completeFrame]
  rw [frameBytes_frameLength type tag check h, hbody, hcheck, frameBytes_fields, BitVec.ofNat_toNat,
    BitVec.setWidth_eq]
  rfl

end

/-- Settles O10: after the sync byte every byte but the last is assembled, and the last one completes the frame. -/
theorem bytesOfAFrameAreTheFrame : Obligations.BytesOfAFrameAreTheFrame := by
  intro t type tag body check s hbody hunting
  have hlength := frameBytes_frameLength type tag check hbody
  have hlast := (frameBytes_length type tag check body).trans (congrArg (· + 6) hlength.symm)
  have hfits := hlength.trans_le hbody
  have hheard : State.hear t (frameBytes type tag body check) (s.receiving t [])
      = (s.at t).completeFrame (frameBytes type tag body check) := by
    rw [frameBytes_fields] at hfits hlast ⊢
    exact s.hear_rest t hfits hlast
  rw [exec_frameReceived hbody, State.hear, exec_sync hunting]
  exact congrArg Host.Outcome.next ((State.completeFrame_frameBytes type tag check _ hbody).symm.trans hheard.symm)

/-! ## Replies sent in turn -/

/-- Settles O11: the reply queue's head is sent, and its end brings the reset or takes the frames that wait. -/
theorem repliesAreSentInTurn : Obligations.RepliesAreSentInTurn := by
  refine ⟨fun t s => ⟨fun r rest hsending hreplies => ?_, ?_, fun hnone => ?_⟩,
    fun t br s frame r rest hsending hreplies => ?_⟩
  · exact congrArg Host.Outcome.next (State.replyStarts_head (s := s.at t) hsending hreplies)
  · exact congrArg Host.Outcome.next (State.replyStarts_held (s.at t))
  · exact congrArg Host.Outcome.next (State.replyStarts_none (s := s.at t) hnone)
  · have hend : exec (.replySendEnd t br) s = .next (if s.clp.restarting && rest.isEmpty then
        State.afterReset s.pending s.lsv.estop br else ((s.at t).replySent rest).takeAll) :=
      congrArg Host.Outcome.next (State.replyEnds_sent (s := s.at t) hsending hreplies br)
    dsimp only
    rw [hend]
    refine ⟨fun hopen hreq => ?_, fun f hopen hreq hroom => ?_, fun hrestarting hrest => ?_,
      fun hrestarting hrest => ?_⟩
    · rw [if_neg (by simp [hopen]), State.takeAll_none (s := (s.at t).replySent rest) hreq]
      rfl
    · have hmay : ((s.at t).replySent rest).clp.mayTake = true := by
        simp [Clp.mayTake, State.replySent, hopen, hroom]
      rw [if_neg (by simp [hopen]), State.takeAll_single (s := (s.at t).replySent rest) hreq hmay]
      rfl
    · have hclosed : ((s.at t).replySent rest).clp.mayTake = false := Clp.mayTake_eq_false.mpr (.inr hrestarting)
      rw [if_neg (by simp [hrest]), State.takeAll, State.takeFrames_closed _ hclosed]
      rfl
    · rw [if_pos (by simp [hrestarting, hrest])]
      rfl

end Sys2Proof.Machine
end

section
/-! PROOF. Requests of unknown types and with short bodies (O12), IDENTIFY (O43) and EVENTS TAKE with the bytes of a
record (O44). -/

namespace Sys2Proof.Machine

/-! ## Refusals before the owner (R177) -/

theorem mem_requestTypeCodes {type : Byte} {n : Nat} (h : type.toNat = n)
    (hn : n ∈ requestTypeCodes.map (·.toNat)) : type ∈ requestTypeCodes := by
  obtain ⟨code, hcode, heq⟩ := List.mem_map.mp hn
  exact BitVec.eq_of_toNat_eq (heq.trans h.symm) ▸ hcode

/-- Only the types of 11 section 11.2 require a body. -/
theorem bodyRequired_unknown {type : Byte} (h : type ∉ requestTypeCodes) (body : List Byte) :
    bodyRequired type body = none := by
  unfold bodyRequired
  split
  case h_31 => rfl
  all_goals next htype => exact absurd (mem_requestTypeCodes htype (by decide)) h

section
variable {s : State} {f : Frame}

theorem State.answer_unknown (h : f.type ∉ requestTypeCodes) : s.answer f = (s, .type) := by
  simp [State.answer, bodyRequired_unknown h]

theorem State.answer_short {n : Nat} (hn : bodyRequired f.type f.body = some n) (h : f.body.length < n) :
    s.answer f = (s, .arg 0) := by
  simp [State.answer, hn, h]

end

/-- A type with its least body among those of a table whose rows the part requires, or a longer one. -/
theorem bodyRequired_of_row {rows : List (Byte × Nat)} {type : Byte} {least : Nat} {body : List Byte}
    (hrows : rows.Forall fun row => ∃ n, bodyRequired row.1 body = some n ∧ row.2 ≤ n)
    (hrow : (type, least) ∈ rows) (h : body.length < least) :
    ∃ n, bodyRequired type body = some n ∧ body.length < n := by
  obtain ⟨n, hn, hle⟩ := List.forall_iff_forall_mem.mp hrows _ hrow
  exact ⟨n, hn, h.trans_le hle⟩

section
variable {s : State} (h : s.linkReady) (t : LineTime) {type : Byte} (tag : Byte) {body : List Byte}
include h

/-- A request that is refused at a ready link leaves nothing but its reply. -/
theorem State.requestArrives_refused (hb : body.length ≤ Config.maxBody) {a : Answer}
    (ha : (s.taking t).answer { type := type, tag := tag, body := body } = (s.taking t, a)) :
    (s.at t).requestArrives type tag body = (s.taking t).replied type tag a := by
  rw [State.requestArrives_ready h t type tag body hb, ha]

theorem State.requestArrives_short (hb : body.length ≤ Config.maxBody) {n : Nat}
    (hn : bodyRequired type body = some n) (hshort : body.length < n) :
    (s.at t).requestArrives type tag body = (s.taking t).replied type tag (.arg 0) :=
  State.requestArrives_refused h t tag hb (State.answer_short hn hshort)

end

/-- Settles O12: no type that is not listed requires a body, and every one that is listed requires at least its own. -/
theorem unknownAndShortRequestsAreRefused : Obligations.UnknownAndShortRequestsAreRefused := by
  refine ⟨fun t type tag body s hready hfits hunknown => ?_, fun t tag body s hready =>
    ⟨fun hshort => ?_, fun hshort => ?_, fun hshort => ?_, fun hshort hfits => ?_⟩,
    fun t type tag body s hready hfits ⟨least, hrow, hshort⟩ => ?_⟩
  · exact congrArg Host.Outcome.next
      (State.requestArrives_refused hready t tag hfits (State.answer_unknown hunknown))
  · exact congrArg Host.Outcome.next
      (State.requestArrives_short hready t tag (hshort.le.trans (by decide)) (n := 57) rfl hshort)
  · exact congrArg Host.Outcome.next
      (State.requestArrives_short hready t tag (hshort.le.trans (by decide)) (n := 23) rfl hshort)
  · exact congrArg Host.Outcome.next
      (State.requestArrives_short hready t tag (hshort.le.trans (by decide)) (n := 21) rfl hshort)
  · exact congrArg Host.Outcome.next
      (State.requestArrives_short hready t tag hfits (n := 9 + byteAt body 7) rfl (by omega))
  · obtain ⟨n, hn, hless⟩ := bodyRequired_of_row (by
      simp [bodyRequired]
      split <;> omega) hrow hshort
    exact congrArg Host.Outcome.next (State.requestArrives_short hready t tag hfits hn hless)

/-! ## IDENTIFY (R183) -/

/-- Nothing is in service, and the four items of the configuration in service are 0. -/
theorem State.identity_outOfService {s : State} (h : s.OutOfService) : s.identity =
    [2, 100, 2, 4, 12, 32, 100, 80, 1, 62, 4, 32, 240] ++ [0, 0, 0, 0] ++ [byteOf s.trk.pallets.length] := by
  rw [State.identity, State.loopCount, h.derived, h.committed, h.segments, h.stations]
  rfl

theorem State.identity_inService {s : State} (h : s.InService) : s.identity =
    [2, 100, 2, 4, 12, 32, 100, 80, 1, 62, 4, 32, 240]
      ++ [1, byteOf s.cfg.line.nseg, byteOf s.cfg.derive.p, byteOf s.cfg.stations.length]
      ++ [byteOf s.trk.pallets.length] := by
  have hsegments : s.sc.length = s.cfg.line.nseg := by
    simpa [upTo] using congrArg List.length h.segments
  have hstations : s.sqs.stations.length = s.cfg.stations.length := by
    simpa using congrArg List.length h.stations
  rw [State.identity, State.loopCount_derived h.derived, h.committed, hsegments, hstations]
  rfl

/-- Settles O43, in CONFIG and in service. -/
theorem identifyGivesTheTableOfR183 : Obligations.IdentifyGivesTheTableOfR183 := by
  intro t tag s hready hshaped
  have hidentity : (s.taking t).identity = s.identity := rfl
  rw [exec_identify hready, State.requestIdentify, hidentity]
  by_cases hconfig : s.lsv.lineState = .config
  · rw [State.identity_outOfService (hshaped.1 hconfig), if_pos hconfig]
  · rw [State.identity_inService (hshaped.2 hconfig), if_neg hconfig]

/-! ## EVENTS TAKE (R185) -/

theorem eventsCount_byte (count : Byte) :
    eventsCount count.toNat = if count = 0 then 1 else if 8 < count.toNat then 8 else count.toNat := by
  by_cases h : count = 0
  · rw [if_pos h, h]; rfl
  · have hpos : count.toNat ≠ 0 := fun h0 => h (BitVec.eq_of_toNat_eq h0)
    rw [if_neg h, eventsCount]
    split <;> omega

theorem State.requestEventsTake_eq (s : State) (count : Nat) : s.requestEventsTake count =
    ({ s with clp := { s.clp with events := s.clp.events.drop (eventsCount count), gap := false } },
      .ok ([if s.clp.gap then 1 else 0, byteOf (s.clp.events.length - eventsCount count),
        byteOf (min (eventsCount count) s.clp.events.length)]
          ++ (s.clp.events.take (eventsCount count)).flatMap Event.bytes)) := by
  simp only [State.requestEventsTake, List.length_drop, List.length_take]
  rfl

/-! ### Codes in the order of the tables -/

theorem EventKind.code_byte (k : EventKind) : byteOf k.code = numberIn 1 [.indexDone, .feedGap, .admissionUrgent,
    .admissionBlocked, .hpuAlarm, .stationFault, .shortCycle, .motionFault, .nodeLost, .nodeBack, .conveyorJam,
    .tagMismatch, .tagUnexpected, .tagMissing, .tagUnreadable, .verifyResult, .verifyPostponed, .verifyOverdue,
    .palletQuarantined, .workpieceOut, .lineState, .estopOn, .estopOff] k := by
  cases k <;> rfl

theorem SubjectKind.code_byte (k : SubjectKind) : byteOf k.code =
    numberIn 0 [.line, .segment, .station, .conveyor, .reader, .verify, .hpu, .slot] k := by
  cases k <;> rfl

theorem BlockedCause.code_byte (c : BlockedCause) : byteOf c.code = numberIn 0 [.alarm, .hpuLost] c := by
  cases c <;> rfl

theorem StationCause.code_byte (c : StationCause) : byteOf c.code = numberIn 1 [.clampTimeout, .cycleTimeout,
    .unclampTimeout, .nodeFault, .nodeState, .linkLost, .estop, .refused] c := by
  cases c <;> rfl

theorem SegCause.code_byte (c : SegCause) : byteOf c.code =
    numberIn 1 [.phaseTimeout, .driveFault, .driveState, .linkLost, .estop, .refused] c := by
  cases c <;> rfl

theorem Certainty.code_byte (c : Certainty) : byteOf c.code =
    numberIn 0 [.certain, .beforeKnown, .uncertain] c := by
  cases c <;> rfl

theorem JamCause.code_byte (c : JamCause) : byteOf c.code =
    numberIn 1 [.travelTimeout, .nodeJam, .phantomArrival, .nodeLost] c := by
  cases c <;> rfl

theorem VerifyResult.code_byte (r : VerifyResult) : byteOf r.code = numberIn 0 [.pass, .fail, .refused] r := by
  cases r <;> rfl

theorem Disposition.code_byte (d : Disposition) : byteOf d.code = numberIn 0 [.good, .rework, .reject] d := by
  cases d <;> rfl

theorem LineState.code_byte (l : LineState) : byteOf l.code =
    numberIn 0 [.config, .idle, .run, .stopping, .halt] l := by
  cases l <;> rfl

theorem LineCause.code_byte (c : LineCause) : byteOf c.code =
    numberIn 0 [.commit, .start, .stop, .settled, .estop, .haltRequest, .recover, .uncommit] c := by
  cases c <;> rfl

theorem beBytes_one (n : Nat) : beBytes 1 n = [byteOf n] := by
  simp [beBytes]

/-! ### Records (R184, 11 section 11.3) -/

theorem Detail.values_length (d : Detail) : d.values.length ≤ 6 := by
  cases d with
  | read v => cases v <;> simp [Detail.values, optionBytes]
  | _ => simp [Detail.values]

/-- The six bytes of detail are the values and then zeros. -/
theorem Detail.bytes_eq (d : Detail) : d.bytes = d.values ++ List.replicate (6 - d.values.length) 0 := by
  rw [Detail.bytes, List.take_append, List.take_of_length_le d.values_length, List.take_replicate]
  congr 2
  omega

theorem Detail.bytes_length (d : Detail) : d.bytes.length = 6 := by
  have := d.values_length
  rw [d.bytes_eq, List.length_append, List.length_replicate]
  omega

theorem Event.bytes_length (e : Event) : e.bytes.length = 14 := by
  simp [Event.bytes, timeBytes, e.detail.bytes_length]

/-- Settles O44: what is removed and replied, and a record's bytes field by field. -/
theorem eventsTakeRemovesTheOldest : Obligations.EventsTakeRemovesTheOldest := by
  refine fun t tag count s hready => ⟨?_, fun e => ⟨?_, e.bytes_length⟩⟩
  · rw [exec_eventsTake hready, State.requestEventsTake_eq, eventsCount_byte]
    rfl
  · rw [Event.bytes, EventKind.code_byte, SubjectKind.code_byte, Detail.bytes_eq, ← List.append_assoc]
    cases e.detail with
    | none => rfl
    | index n => rfl
    | duration ms => rfl
    | blocked c => simp only [Detail.values, BlockedCause.code_byte]; rfl
    | alarm on => rfl
    | stationCause c => simp only [Detail.values, StationCause.code_byte]; rfl
    | motion c certainty n => simp only [Detail.values, SegCause.code_byte, Certainty.code_byte]; rfl
    | address a => rfl
    | jam c => simp only [Detail.values, JamCause.code_byte]; rfl
    | read v =>
      cases v with
      | none => rfl
      | some v => simp only [Detail.values, optionBytes, beBytes_one]; rfl
    | verify r => simp only [Detail.values, VerifyResult.code_byte]; rfl
    | laps n => rfl
    | workpiece serial disposition defects more => simp only [Detail.values, Disposition.code_byte]; rfl
    | lineState state cause => simp only [Detail.values, LineState.code_byte, LineCause.code_byte]; rfl

end Sys2Proof.Machine
end

section
/-! PROOF. The step and the command at the front of the queue (O1). -/

namespace Sys2Proof.Machine

/-- Settles O1: on a queue that is not empty `step` is, by its definition, `exec` of the front; of the state it is
given, only the queue differs, and there the rest replaces it. -/
theorem stepRunsTheFrontCommand : Obligations.StepRunsTheFrontCommand :=
  fun _ _ _ => rfl

end Sys2Proof.Machine
end
